-- ==== Sys2Proof/Word.lean ====
section
/-! DEFINITION. The word types of the two byte formats: the 16-bit check register (R175) and a line of bits. -/

namespace Sys2Proof

/-- The register of the 16-bit cyclic check (R175). -/
abbrev CheckWord := BitVec 16

/-- Bits in the order the line carries them: `false` is dominant (logical 0), `true` is recessive (logical 1), 1.1. -/
abbrev Bits := List Bool

/-- A byte of a notice or frame, as a whole number; the byte layouts hold each below 256. -/
abbrev ByteVal := Nat

end Sys2Proof
end

