-- ==== Sys2Proof/Config.lean ====
section
/-! DEFINITION. The free values: what the spec leaves open and no proof may know. Each is a constant with no body. -/

namespace Sys2Proof

/-- R177: the kind byte of a reply to an unknown command kind of 128 or above, where the kind plus 128 is no byte.
Log entry 21. -/
opaque Config.replyKindByte : Nat → BitVec 8

/-- R176: the byte of an absent optional value that is no station, tag or mix time (a bound line, a mixer used, an order's
outcome or reason). Log entry 22. -/
opaque Config.absentByte : BitVec 8

/-- R48, R70: the byte of the LOW condition, whose two values no rule lists. Log entry 22. -/
opaque Config.lowByte : Bool → BitVec 8

/-- R103, R176: the two bytes of a negative balance, by how far it lies below 0. Log entry 22. -/
opaque Config.negativeBalance : Nat → BitVec 16

/-- R103, R176: the one byte of a plan's full or planned shots where the count passes 255. Log entry 22. -/
opaque Config.manyShotsByte : Nat → BitVec 8

/-- R171: the two bytes of the bay digest in a station report with no setup held. Log entry 22. -/
opaque Config.noDigest : BitVec 16

end Sys2Proof
end

