-- ==== Sys2Proof/Syntax.lean ====
section
/-! DEFINITION. The commands: the records a notice or a terminal command carries, the eighteen bay notices, and one
constructor of `Instr` for each row of spec/opcode_table.json. Enumerated payload fields that arrive from outside are
kept as the byte's number, since a value outside the field's range is judged by a rule and not by reception (R19). -/

namespace Sys2Proof

/-! ### Records of the bay table that an IMAGE carries (R33) -/

/-- R26 (a). -/
inductive RosterState where
  | absent | joining | present
  deriving DecidableEq, Repr

/-- R26: one station record of the roster. -/
structure RosterRec where
  state : RosterState
  giver : Option Nat
  imageMark : Bool
  deriving DecidableEq, Repr

/-- R71: the holder of a rush token. -/
structure TokenHolder where
  station : Nat
  tag : Nat
  deriving DecidableEq, Repr

/-- The rush of a claim: none, A or B (R44, R45). -/
inductive Rush where
  | none | a | b
  deriving DecidableEq, Repr

/-- R45: a claim waiting on a line. -/
structure Claim where
  station : Nat
  askedShots : Nat
  askedDrops : Nat
  requested : Nat
  effective : Nat
  passed : Nat
  rush : Rush
  deriving DecidableEq, Repr

/-- R44: the holder record of a line. -/
structure Holder where
  station : Nat
  grant : Nat
  askedShots : Nat
  askedDrops : Nat
  rush : Rush
  levelAtGrant : Nat
  deriving DecidableEq, Repr

/-- R43: a line is IN or OUT. -/
inductive Service where
  | inService | out
  deriving DecidableEq, Repr

/-- R43: the line record. -/
structure LineRec where
  service : Service
  level : Nat
  grant : Nat
  holder : Option Holder
  waiting : List Claim
  deriving DecidableEq, Repr

/-- R74. -/
inductive MixerState where
  | free | held | out
  deriving DecidableEq, Repr

/-- R74: the mixer record. -/
structure MixRec where
  state : MixerState
  holder : Option Nat
  grant : Nat
  mixTime : Option Nat
  deriving DecidableEq, Repr

/-- R75: a claim waiting for any mixer. -/
structure MixClaim where
  station : Nat
  mixTime : Nat
  requested : Nat
  effective : Nat
  passed : Nat
  rush : Rush
  deriving DecidableEq, Repr

/-- R19, R33: the subject of an IMAGE with the subject's records. -/
inductive Image where
  | rosterTokens (roster : List RosterRec) (a b : Option TokenHolder)
  | mixers (recs : List MixRec) (waiting : List MixClaim)
  | line (n : Nat) (record : LineRec)
  deriving DecidableEq, Repr

/-- A line or a mixer: the subject of a REVOKE (R19) and of a hold timer (5.1). -/
inductive HoldKey where
  | line (n : Nat)
  | mixer (m : Nat)
  deriving DecidableEq, Repr

/-- R19: the eighteen notices with their payload fields. -/
inductive Notice where
  | join (station digest : Nat) (silentGiver : Option Nat)
  | formed
  | image (joiner : Nat) (img : Image)
  | imageEnd (joiner result bayCount : Nat)
  | leave
  | claim (line shots drops level rush : Nat)
  | withdraw (line : Nat)
  | release (line grant drops outcome : Nat)
  | refill (line level : Nat)
  | lineOut (line : Nat)
  | lineReturn (line level : Nat)
  | rushTake (tag : Nat)
  | rushDrop (token : Nat)
  | mixClaim (mixTime level rush : Nat)
  | mixWithdraw
  | mixRelease (mixer grant outcome : Nat)
  | mixerReturn (mixer : Nat)
  | revoke (subject : HoldKey) (holder grant : Nat)
  deriving DecidableEq, Repr

/-! ### What the terminal sends -/

/-- R22: the per-line bay constants. -/
structure LineConst where
  shotSize : Nat
  shareBlock : Nat
  holdLimit : Nat
  settleDelay : Nat
  deriving DecidableEq, Repr

/-- R22: the bay constants. `lines` is the sixteen per-line sets. -/
structure BayConst where
  linesEquipped : Nat
  lines : List LineConst
  mixersEquipped : Nat
  mixerMargin : Nat
  grace : Nat
  reserve : Nat
  formationWindow : Nat
  deriving DecidableEq, Repr

/-- R21, R136: the per-line calibration, in ticks. -/
structure LineCal where
  shotWidth : Nat
  shotPeriod : Nat
  deriving DecidableEq, Repr

/-- R21, R157, R160, R161: the station calibration. `lines` is the sixteen per-line sets. -/
structure Calibration where
  station : Nat
  lines : List LineCal
  basePeriod : Nat
  fastDuty : Nat
  slowDuty : Nat
  slowBand : Nat
  baseTolerance : Nat
  baseLimit : Nat
  seatDelay : Nat
  pressWidth : Nat
  transferPulse : Nat
  transferLimit : Nat
  deriving DecidableEq, Repr

/-- R21: the whole setup block. -/
structure SetupBlock where
  bay : BayConst
  cal : Calibration
  deriving DecidableEq, Repr

/-- R138: one formula entry as ORDER carries it; `mode` is 0 SINGLE, 1 BLOCK, 2 WHOLE (R176). -/
structure OrderEntry where
  line : Nat
  drops : Nat
  mode : Nat
  deriving DecidableEq, Repr

/-- R138, R139: the fields of ORDER. `priority` is 0, 1, 2, or 3 for HOLD; `rush` and `lid` are 0 for yes and 1 for no,
the position in "yes or no" (R176). -/
structure OrderFields where
  tag : Nat
  size : Nat
  base : Nat
  priority : Nat
  rush : Nat
  lid : Nat
  mixTime : Nat
  entries : List OrderEntry
  deriving DecidableEq, Repr

/-- R167: a byte received on the terminal link, and whether its stop bit was there. -/
structure LinkByte where
  value : Nat
  stopBit : Bool
  deriving DecidableEq, Repr

/-- R161: the three kinds of pusher. -/
inductive Pusher where
  | toOutfeed
  | toShelf
  | toMixer (m : Nat)
  deriving DecidableEq, Repr

/-- The commands of the block: the rows of spec/opcode_table.json in their order. -/
inductive Instr where
  | hardwareReset
  | idleWait
  /-- `rival`: the lowest contention value (R5) of the other stations that begin in the same bit time, if any. -/
  | beginNotice (rival : Option Nat)
  | turnSpentIdleClear
  /-- `heard`: the bits this station heard from the start mark to the last bit before the delimiter, stuff bits included. -/
  | void (heard : Bits)
  | joinTaken (sender station digest : Nat) (silentGiver : Option Nat)
  | formedTaken (sender : Nat)
  | imageTaken (sender joiner : Nat) (img : Image)
  | imageEndTaken (sender joiner result bayCount : Nat)
  | leaveTaken (sender : Nat)
  | claimTaken (sender line shots drops level rush : Nat)
  | withdrawTaken (sender line : Nat)
  | releaseTaken (sender line grant drops outcome : Nat)
  | refillTaken (sender line level : Nat)
  | lineOutTaken (sender line : Nat)
  | lineReturnTaken (sender line level : Nat)
  | rushTakeTaken (sender tag : Nat)
  | rushDropTaken (sender token : Nat)
  | mixClaimTaken (sender mixTime level rush : Nat)
  | mixWithdrawTaken (sender : Nat)
  | mixReleaseTaken (sender mixer grant outcome : Nat)
  | mixerReturnTaken (sender mixer : Nat)
  | revokeTaken (sender : Nat) (subject : HoldKey) (holder grant : Nat)
  | setup (block : SetupBlock)
  | start
  | leave
  | order (fields : OrderFields)
  | cancel (tag : Nat)
  | priority (tag level : Nat)
  | refill (line level : Nat)
  | lineOut (line : Nat)
  | lineReturn (line level : Nat)
  | mixerReturn (mixer : Nat)
  | queryStation
  | queryOrder (tag : Nat)
  | queryLine (line : Nat)
  | queryMixers
  | readTicket
  | unknownCommandKind (kind : Nat) (payload : List ByteVal)
  | commandWhileSending (kind : Nat)
  | replySent
  /-- `bytes`: the bytes received, up to and including the one at which the frame is dropped. -/
  | frameDropped (bytes : List LinkByte)
  | interByteTimeout
  | firstListenExpiry
  | formationWindowExpiry
  | imageTimerExpiry
  | rejoinTimerExpiry
  | ownLineTimerExpiry (line : Nat)
  | ownMixerTimerExpiry (mixer : Nat)
  | watchTimerExpiry (subject : HoldKey)
  | settleExpiry (pair : Nat)
  | valveExpiry (pair : Nat)
  | capture (pair : Nat)
  | tapMeterPulse (line : Nat)
  | tinPresentRise
  /-- `code`: the size code read from the tin size sense, 0..7. -/
  | seatingTimerExpiry (code : Nat)
  | tinPresentFall
  | baseMeterPulse
  | basePeriodExpiry
  | dutyTimerExpiry
  | fillLimitExpiry
  | runOnExpiry
  /-- `lidHome`: the lid-home input at the moment the press output is raised. -/
  | seatTimerExpiry (lidHome : Bool)
  | lidHomeOn
  | pressTimerExpiry
  | pusherPulseExpiry (pusher : Pusher)
  | confirmTimerExpiry (pusher : Pusher)
  | outfeedSensorChange (on : Bool)
  | occupiedInputChange (mixer : Nat) (on : Bool)
  | chutePulseEnded
  | runTimerExpiry (mixer : Nat)
  | doneInputRise (mixer : Nat)
  | doneInputFall (mixer : Nat)
  deriving DecidableEq, Repr

end Sys2Proof
end

