-- ==== Sys2Proof/WellFormed.lean ====
section
/-! DEFINITION. Well-formed commands: every operand fits the field that carries it (R176 to R178), and numbers of pairs,
pushers and sensors name ones that exist. What lies inside a field's width but outside its stated range is well formed:
the rules judge it when the command comes. -/

namespace Sys2Proof

/-- A one-byte field. -/
def isByte (n : Nat) : Bool := n < 256

/-- A two-byte field. -/
def isTwoBytes (n : Nat) : Bool := n < 65536

/-- A three-byte field (colorant levels, R176 (c)). -/
def isThreeBytes (n : Nat) : Bool := n < 16777216

/-- A station number, 0..15 (3.01): the four bits of the contention field. -/
def isStation (n : Nat) : Bool := n < 16

/-- An optional station on the wire: a byte, 255 when absent. -/
def isOptStation : Option Nat → Bool
  | none => true
  | some n => n < 255

/-- A two-bit part of a packed claim byte (R178). -/
def isTwoBits (n : Nat) : Bool := n < 4

def RosterRec.wellFormed (r : RosterRec) : Bool := isOptStation r.giver

def TokenHolder.wellFormed (t : TokenHolder) : Bool := isStation t.station && (0 < t.tag && t.tag < 65536)

def Claim.wellFormed (c : Claim) : Bool :=
  isStation c.station && isByte c.askedShots && isTwoBytes c.askedDrops && isTwoBits c.requested && isTwoBits c.effective
    && isTwoBits c.passed

def Holder.wellFormed (h : Holder) : Bool :=
  isStation h.station && isByte h.grant && isByte h.askedShots && isTwoBytes h.askedDrops && isThreeBytes h.levelAtGrant

def LineRec.wellFormed (r : LineRec) : Bool :=
  isThreeBytes r.level && isByte r.grant && (r.holder.all Holder.wellFormed) && r.waiting.all Claim.wellFormed
    && r.waiting.length ≤ 16

def MixRec.wellFormed (r : MixRec) : Bool :=
  (r.holder.all isStation) && isByte r.grant && (r.mixTime.all fun t => 0 < t && isTwoBytes t)

def MixClaim.wellFormed (c : MixClaim) : Bool :=
  isStation c.station && isTwoBytes c.mixTime && isTwoBits c.requested && isTwoBits c.effective && isTwoBits c.passed

def Image.wellFormed : Image → Bool
  | .rosterTokens roster a b =>
      roster.length == 16 && roster.all RosterRec.wellFormed && a.all TokenHolder.wellFormed && b.all TokenHolder.wellFormed
  | .mixers recs waiting =>
      (1 ≤ recs.length && recs.length ≤ 4) && recs.all MixRec.wellFormed && waiting.all MixClaim.wellFormed && waiting.length ≤ 16
  | .line n record => n < 16 && record.wellFormed

def HoldKey.wellFormed : HoldKey → Bool
  | .line n => n < 16
  | .mixer m => m < 240

/-- A notice whose fields fit their widths (R178). -/
def Notice.wellFormed : Notice → Bool
  | .join station digest silent => isByte station && isTwoBytes digest && isOptStation silent
  | .formed => true
  | .image joiner img => isByte joiner && img.wellFormed
  | .imageEnd joiner result count => isByte joiner && isByte result && isTwoBytes count
  | .leave => true
  | .claim line shots drops level rush => isByte line && isByte shots && isTwoBytes drops && isByte level && isByte rush
  | .withdraw line => isByte line
  | .release line grant drops outcome => isByte line && isByte grant && isTwoBytes drops && isByte outcome
  | .refill line level => isByte line && isThreeBytes level
  | .lineOut line => isByte line
  | .lineReturn line level => isByte line && isThreeBytes level
  | .rushTake tag => isTwoBytes tag
  | .rushDrop token => isByte token
  | .mixClaim time level rush => isTwoBytes time && isByte level && isByte rush
  | .mixWithdraw => true
  | .mixRelease mixer grant outcome => isByte mixer && isByte grant && isByte outcome
  | .mixerReturn mixer => isByte mixer
  | .revoke subject holder grant => subject.wellFormed && isByte holder && isByte grant

def LineConst.wellFormed (c : LineConst) : Bool :=
  isByte c.shotSize && isByte c.shareBlock && isTwoBytes c.holdLimit && isByte c.settleDelay

def BayConst.wellFormed (b : BayConst) : Bool :=
  isByte b.linesEquipped && b.lines.length == 16 && b.lines.all LineConst.wellFormed && isByte b.mixersEquipped
    && isByte b.mixerMargin && isByte b.grace && isTwoBytes b.reserve && isByte b.formationWindow

def LineCal.wellFormed (c : LineCal) : Bool := isTwoBytes c.shotWidth && isTwoBytes c.shotPeriod

def Calibration.wellFormed (c : Calibration) : Bool :=
  isByte c.station && c.lines.length == 16 && c.lines.all LineCal.wellFormed && isTwoBytes c.basePeriod && isByte c.fastDuty
    && isByte c.slowDuty && isTwoBytes c.slowBand && isTwoBytes c.baseTolerance && isTwoBytes c.baseLimit
    && isTwoBytes c.seatDelay && isTwoBytes c.pressWidth && isTwoBytes c.transferPulse && isTwoBytes c.transferLimit

def OrderEntry.wellFormed (e : OrderEntry) : Bool := isByte e.line && isTwoBytes e.drops && isByte e.mode

def OrderFields.wellFormed (f : OrderFields) : Bool :=
  isTwoBytes f.tag && isByte f.size && isTwoBytes f.base && isByte f.priority && isByte f.rush && isByte f.lid
    && isTwoBytes f.mixTime && f.entries.all OrderEntry.wellFormed && f.entries.length ≤ 59

def Pusher.wellFormed : Pusher → Bool
  | .toOutfeed | .toShelf => true
  | .toMixer m => m < 4

/-- A well-formed command. -/
def Instr.wellFormed : Instr → Bool
  | .hardwareReset | .idleWait | .turnSpentIdleClear => true
  | .beginNotice rival => rival.all fun v => v < 64
  | .void heard => 1 ≤ heard.length
  | .joinTaken sender station digest silent => isStation sender && (Notice.join station digest silent).wellFormed
  | .formedTaken sender => isStation sender
  | .imageTaken sender joiner img => isStation sender && (Notice.image joiner img).wellFormed
  | .imageEndTaken sender joiner result count => isStation sender && (Notice.imageEnd joiner result count).wellFormed
  | .leaveTaken sender => isStation sender
  | .claimTaken sender line shots drops level rush => isStation sender && (Notice.claim line shots drops level rush).wellFormed
  | .withdrawTaken sender line => isStation sender && isByte line
  | .releaseTaken sender line grant drops outcome => isStation sender && (Notice.release line grant drops outcome).wellFormed
  | .refillTaken sender line level => isStation sender && (Notice.refill line level).wellFormed
  | .lineOutTaken sender line => isStation sender && isByte line
  | .lineReturnTaken sender line level => isStation sender && (Notice.lineReturn line level).wellFormed
  | .rushTakeTaken sender tag => isStation sender && isTwoBytes tag
  | .rushDropTaken sender token => isStation sender && isByte token
  | .mixClaimTaken sender time level rush => isStation sender && (Notice.mixClaim time level rush).wellFormed
  | .mixWithdrawTaken sender => isStation sender
  | .mixReleaseTaken sender mixer grant outcome => isStation sender && (Notice.mixRelease mixer grant outcome).wellFormed
  | .mixerReturnTaken sender mixer => isStation sender && isByte mixer
  | .revokeTaken sender subject holder grant => isStation sender && (Notice.revoke subject holder grant).wellFormed
  | .setup block => block.bay.wellFormed && block.cal.wellFormed
  | .start | .leave => true
  | .order fields => fields.wellFormed
  | .cancel tag => isTwoBytes tag
  | .priority tag level => isTwoBytes tag && isByte level
  | .refill line level => isByte line && isThreeBytes level
  | .lineOut line => isByte line
  | .lineReturn line level => isByte line && isThreeBytes level
  | .mixerReturn mixer => isByte mixer
  | .queryStation | .queryMixers | .readTicket => true
  | .queryOrder tag => isTwoBytes tag
  | .queryLine line => isByte line
  | .unknownCommandKind kind payload => isByte kind && payload.all isByte && payload.length ≤ 250
  | .commandWhileSending kind => isByte kind
  | .replySent | .interByteTimeout => true
  | .frameDropped bytes => bytes.all fun b => isByte b.value
  | .firstListenExpiry | .formationWindowExpiry | .imageTimerExpiry | .rejoinTimerExpiry => true
  | .ownLineTimerExpiry line => line < 16
  | .ownMixerTimerExpiry mixer => mixer < 4
  | .watchTimerExpiry (.line n) => n < 16
  | .watchTimerExpiry (.mixer m) => m < 4
  | .settleExpiry pair => pair < 4
  | .valveExpiry pair => pair < 4
  | .capture pair => pair < 4
  | .tapMeterPulse line => line < 16
  | .tinPresentRise | .tinPresentFall => true
  | .seatingTimerExpiry code => code < 8
  | .baseMeterPulse | .basePeriodExpiry | .dutyTimerExpiry | .fillLimitExpiry | .runOnExpiry => true
  | .seatTimerExpiry _ => true
  | .lidHomeOn | .pressTimerExpiry => true
  | .pusherPulseExpiry pusher => pusher.wellFormed
  | .confirmTimerExpiry pusher => pusher.wellFormed
  | .outfeedSensorChange _ => true
  | .occupiedInputChange mixer _ => mixer < 4
  | .chutePulseEnded => true
  | .runTimerExpiry mixer => mixer < 4
  | .doneInputRise mixer => mixer < 4
  | .doneInputFall mixer => mixer < 4

end Sys2Proof
end

