-- ==== Sys2Proof/Decode.lean ====
section
/-! DEFINITION. The table gives no row any bits (every row's "fields" is empty and none has "fixed" bits), so no word
spells a command. The byte formats of the two links, which do have layouts, are in Machine/Layout.lean. Log entry 3. -/

namespace Sys2Proof

/-- The command that a word spells by the table's bits: none, since no row gives bits. -/
def decodeTableWord (_nbits _w : Nat) : Option Instr := none

end Sys2Proof
end

