-- ==== Sys2Proof/Machine/State.lean ====
section
/-! DEFINITION. The state of the controller: every piece of state the spec gives it, as plain data, block by block as
section 4 of the scope file lists them, and the state after reset. -/

namespace Sys2Proof.Machine

/-! ### Station state logic (R23) -/

/-- R23, 5.01: the seven local states of a station. -/
inductive StationState where
  | unset | ready | forming | joining | attached | detached | refused
  deriving DecidableEq, Repr

/-- R23: the last detach reason. -/
inductive DetachReason where
  | none | objectionLimit | bayJammed | purged | outOfStep
  deriving DecidableEq, Repr

/-- R21, R23: the setup held, with its digest (R22). -/
structure Setup where
  block : SetupBlock
  digest : Nat
  deriving DecidableEq, Repr

/-- R23: the station state record. A timer is `none` when stopped, else the time it was loaded with, in ms. -/
structure Ssl where
  state : StationState
  lastDetach : DetachReason
  lateMark : Bool
  joinTaken : Bool
  knownGiver : Option Nat
  emptyTimeouts : Nat
  leavePending : Bool
  firstListen : Option Nat
  formationWindow : Option Nat
  imageTimer : Option Nat
  rejoinTimer : Option Nat
  deriving DecidableEq, Repr

/-! ### Bay Line Unit (chapter 1) -/

/-- R1, R2, R20: whether the BLU listens: not at all, in the first 24-bit wait, or following the notices in order. -/
inductive Listen where
  | off | firstWait | following
  deriving DecidableEq, Repr

/-- R15 (b): who offered a notice. -/
inductive Owner where
  | channel (k : Nat)
  | book
  | terminal
  | holdTimers
  | stationLogic
  | cursor
  | bayTable
  deriving DecidableEq, Repr

/-- R15: an entry of the outgoing list. `refill` says the payload is filled afresh at the next win (after a void). -/
structure Entry where
  notice : Notice
  owner : Owner
  fromTerminal : Bool
  transmitting : Bool
  strikeHeld : Bool
  refill : Bool
  deriving DecidableEq, Repr

/-- R18: the next subject of the image being given. -/
inductive Subject where
  | rosterTokens
  | mixers
  | line (n : Nat)
  | endMark
  deriving DecidableEq, Repr

/-- R18: a joiner of the image cursor, with whether its IMAGE END is to carry ACCEPTED. -/
structure Joiner where
  station : Nat
  accepted : Bool
  deriving DecidableEq, Repr

/-- R18: the image cursor; `next` belongs to the joiner at the head. -/
structure Cursor where
  joiners : List Joiner
  next : Option Subject
  deriving DecidableEq, Repr

/-- The Bay Line Unit: R1, R11, R12, R13, R15, R16, R18. -/
structure Blu where
  listen : Listen
  list : List Entry
  held : List Entry
  objections : Nat
  voids : Nat
  turnSpent : Bool
  cursor : Cursor
  deriving DecidableEq, Repr

/-! ### Bay Table (chapters 2 to 4) -/

/-- R74, R75: the subject MIXERS. -/
structure Pool where
  recs : List MixRec
  waiting : List MixClaim
  deriving DecidableEq, Repr

/-- R71: the two rush tokens. -/
structure Tokens where
  a : Option TokenHolder
  b : Option TokenHolder
  deriving DecidableEq, Repr

/-- The bay table. `lines` has one place for each equipped line while records are held, `none` in a place meaning not
imaged (R43); `pool` and `tokens` are `none` while not held or not imaged; ROSTER-TOKENS is one subject, so `tokens`
also says whether the roster is imaged (R33). `bayCount` is `none` while the count has no value (R14). `joinResults` holds for each
station the result of R31 (d) at its last late JOIN applied here, ACCEPTED being true, and none where no late JOIN of it has been
applied since the table was begun; R30 has a new giver's image cursor take it (log entry 10). -/
structure Table where
  roster : List RosterRec
  digest : Option Nat
  formed : Bool
  bayCount : Option Nat
  lines : List (Option LineRec)
  pool : Option Pool
  tokens : Option Tokens
  joinResults : List (Option Bool)
  deriving DecidableEq, Repr

/-! ### Hold Timer Bank (R87) -/

inductive TimerState where
  | stopped | running | expired
  deriving DecidableEq, Repr

inductive TimerRole where
  | own | watch
  deriving DecidableEq, Repr

/-- R87: one hold timer; `runTime` in ms. -/
structure HoldTimer where
  state : TimerState
  role : TimerRole
  holder : Nat
  grant : Nat
  runTime : Nat
  deriving DecidableEq, Repr

/-! ### Dose Channels (R103) -/

inductive ChannelState where
  | idle | claiming | waiting | settling | shooting | releasing | withdrawing
  deriving DecidableEq, Repr

/-- R138: the mode of an entry. -/
inductive Mode where
  | single | block | whole
  deriving DecidableEq, Repr

/-- R103: why the shot in flight was cut. -/
inductive StopCause where
  | none | ownLimit | stopped | lineOut | detached
  deriving DecidableEq, Repr

/-- R104: the reasons a channel reports with FAILED, in the order that rule lists them. -/
inductive FailReason where
  | lineOut | over | under | runaway | detached | stopped
  deriving DecidableEq, Repr

/-- R103: what the channel has decided while it waits for its RELEASE's take. -/
inductive PendingResult where
  | none
  | goOn
  | done
  | failed (reason : FailReason)
  deriving DecidableEq, Repr

/-- R106: a plan. -/
structure Plan where
  full : Nat
  trim : Nat
  planned : Nat
  deriving DecidableEq, Repr

/-- R103: the current grant. -/
structure Grant where
  number : Nat
  askedShots : Nat
  askedDrops : Nat
  shotsDone : Nat
  drops : Nat
  final : Bool
  deriving DecidableEq, Repr

/-- R103: the channel record. DONE and FAILED last only inside one event (R104), so no stored state is either.
`trimNow` is the trim shot's planned drops as corrected by R110 (log entry 17). -/
structure Channel where
  state : ChannelState
  line : Nat
  slot : Nat
  entry : Nat
  ordered : Nat
  delivered : Nat
  mode : Mode
  trimsUsed : Nat
  plan : Plan
  trimNow : Nat
  grant : Grant
  balance : Int
  granted : Bool
  withdrawPending : Bool
  stopCause : StopCause
  result : PendingResult
  deriving DecidableEq, Repr

/-! ### Metering Pairs (R123) -/

inductive PairPhase where
  | stopped | settle | opened | closed | drain
  deriving DecidableEq, Repr

/-- R123: the metering pair record. The settle timer is in ms, the others in ticks. -/
structure Pair where
  phase : PairPhase
  bound : Option Nat
  settleTimer : Option Nat
  periodTimer : Option Nat
  valveTimer : Option Nat
  nextWidth : Nat
  counter : Nat
  overflow : Bool
  lastShot : Nat
  lastOverflow : Bool
  pump : Bool
  valve : Bool
  deriving DecidableEq, Repr

/-! ### Order Book (R138) -/

/-- R138. -/
inductive Stage where
  | queued | loading | base | tint | lid | outfeedWait | mixWait | mixing | shelf | reject | done
  deriving DecidableEq, Repr

/-- R138: HOLD, 0, 1 or 2. -/
inductive Priority where
  | hold | p0 | p1 | p2
  deriving DecidableEq, Repr

/-- R138: an entry's result. -/
inductive EntryOutcome where
  | notDosed
  | done
  | failed (reason : FailReason)
  deriving DecidableEq, Repr

structure EntryResult where
  outcome : EntryOutcome
  delivered : Nat
  deriving DecidableEq, Repr

/-- R138: an entry of an admitted order. -/
structure DoseEntry where
  line : Nat
  drops : Nat
  mode : Mode
  deriving DecidableEq, Repr

/-- R138: the rush result. -/
inductive RushResult where
  | notAsked | pending | a | b | refused
  deriving DecidableEq, Repr

/-- R153 (b). -/
inductive OrderOutcome where
  | filled | cancelled | spoiled | mixIncomplete
  deriving DecidableEq, Repr

/-- R153 (c). -/
inductive OrderReason where
  | none | cancelled | lineOut | over | under | runaway | baseFault | lidFault | transferFault | mixerFault | detached
  deriving DecidableEq, Repr

/-- R159: which base fault. -/
inductive BaseFault where
  | overrun | limit
  deriving DecidableEq, Repr

/-- R147, R148: the number and mix time of the grant under which an order works a mixer (log entry 18). -/
structure MixGrant where
  number : Nat
  mixTime : Nat
  deriving DecidableEq, Repr

/-- R138: a live order. `stopping` is the reason fixed by R144, `handed` the entries handed to channels so far (R143),
`baseFault` the fault kind that QUERY ORDER shows (R159). -/
structure Order where
  tag : Nat
  size : Nat
  base : Nat
  priority : Priority
  rush : Bool
  lid : Bool
  mixTime : Nat
  entries : List DoseEntry
  stage : Stage
  results : List EntryResult
  baseDelivered : Nat
  rushResult : RushResult
  mixerUsed : Option Nat
  outcome : Option OrderOutcome
  reason : Option OrderReason
  admission : Nat
  baseFinished : Bool
  wrongTin : Bool
  mixClaimOffered : Bool
  runRaised : Bool
  stopping : Option OrderReason
  handed : Nat
  baseFault : Option BaseFault
  mixGrant : Option MixGrant
  deriving DecidableEq, Repr

/-- R142: the token request. `orphaned` is a request whose order has gone and whose slot has been freed since: the slot may hold
another order by then, and the request is not that order's (log entry 25). -/
inductive TokenRequest where
  | absent
  | requested (slot : Nat)
  | orphaned
  | held (token : Rush) (slot : Nat)
  deriving DecidableEq, Repr

/-- The Order Book: eight slots, the cradle and outfeed orders, the token request (R138), and the slots of the orders
in DONE in the order in which they entered it (R150). -/
structure Book where
  slots : List (Option Order)
  cradle : Option Nat
  outfeed : Option Nat
  request : TokenRequest
  doneOrder : List Nat
  deriving DecidableEq, Repr

/-! ### Plant Drive Unit (chapter 9) -/

inductive FillPhase where
  | idle | fast | slow | runOn
  deriving DecidableEq, Repr

/-- R157, R165: the calibration a fill loads at its start. -/
structure FillCal where
  period : Nat
  fastDuty : Nat
  slowDuty : Nat
  slowBand : Nat
  tolerance : Nat
  limit : Nat
  deriving DecidableEq, Repr

/-- 9.2: the base fill record. The period timer and run-on timer are in ms, the duty timer in ticks, the fill limit
timer in s. -/
structure Fill where
  phase : FillPhase
  target : Nat
  counter : Nat
  dutyRegister : Nat
  dutyInUse : Nat
  periodTimer : Option Nat
  dutyTimer : Option Nat
  limitTimer : Option Nat
  runOnTimer : Option Nat
  valve : Bool
  pump : Bool
  cal : FillCal
  deriving DecidableEq, Repr

inductive PressPhase where
  | idle | seat | press
  deriving DecidableEq, Repr

/-- R160: the lid press record, with the seat delay and press width it has loaded (R165). Timers in ms. -/
structure Press where
  phase : PressPhase
  tries : Nat
  homeSeen : Bool
  seatTimer : Option Nat
  pressTimer : Option Nat
  output : Bool
  seatDelay : Nat
  pressWidth : Nat
  deriving DecidableEq, Repr

inductive OpPhase where
  | idle | pulse | confirm
  deriving DecidableEq, Repr

/-- R161: the record of a pusher or of the reject chute, with the transfer limit it has loaded (R165). The pulse timer
is in ms, the confirm timer in s. The chute never enters CONFIRM. -/
structure OpRec where
  phase : OpPhase
  pulseTimer : Option Nat
  confirmTimer : Option Nat
  output : Bool
  limit : Nat
  deriving DecidableEq, Repr

inductive RunPhase where
  | idle | running | awaitDone
  deriving DecidableEq, Repr

/-- R164: the run record of a mixer. The run timer is in s. -/
structure RunRec where
  phase : RunPhase
  runTimer : Option Nat
  doneArmed : Bool
  runLine : Bool
  deriving DecidableEq, Repr

/-- The Plant Drive Unit. `arrived` is the code of the tin taken to have arrived and not been removed (R156). -/
structure Pdu where
  seatingTimer : Option Nat
  arrived : Option Nat
  lamp : Bool
  fill : Fill
  press : Press
  toOutfeed : OpRec
  toShelf : OpRec
  toMixer : List OpRec
  chute : OpRec
  runs : List RunRec
  deriving DecidableEq, Repr

/-- The plant inputs whose level some rule reads (R156, R161, R163, R164). -/
structure Pins where
  tinPresent : Bool
  outfeed : Bool
  occupied : List Bool
  doneInput : List Bool
  deriving DecidableEq, Repr

/-! ### Terminal Link Unit (chapter 10) -/

/-- R167: the receiver; IN FRAME holds the bytes received after the lead byte. -/
inductive Receiver where
  | hunting
  | inFrame (bytes : List ByteVal)
  deriving DecidableEq, Repr

/-- 10.2: the result of a reply. -/
inductive ReplyResult where
  | accepted | queued | busy | badField | wrongState | noSlot | duplicateTag | unknownTag | late | lineOut | notEquipped
  deriving DecidableEq, Repr

/-- R153: the ticket. -/
structure Ticket where
  tag : Nat
  outcome : OrderOutcome
  reason : OrderReason
  baseDelivered : Nat
  entries : List Nat
  mixerUsed : Option Nat
  rushResult : RushResult
  deriving DecidableEq, Repr

/-- R171 (a). -/
structure StationReport where
  state : StationState
  station : Option Nat
  digest : Option Nat
  bayCount : Nat
  lastDetach : DetachReason
  leavePending : Bool
  liveOrders : Nat
  tickets : Nat
  notices : Nat
  terminalNotices : Nat
  objections : Nat
  voids : Nat
  deriving DecidableEq, Repr

/-- R171 (b): a channel working an order's entries, with its pair's phase, bound line and last shot. -/
structure ChannelReport where
  channel : Channel
  phase : PairPhase
  bound : Option Nat
  lastShot : Nat
  lastOverflow : Bool
  deriving DecidableEq, Repr

/-- R48: the status of a line. -/
inductive LineStatus where
  | out | held | free | stalled
  deriving DecidableEq, Repr

/-- R70: the line view. -/
inductive LineView where
  | noTable (line : Nat)
  | notImaged (line : Nat)
  | full (line : Nat) (record : LineRec) (low : Bool) (status : LineStatus)
  deriving DecidableEq, Repr

/-- R86: the pool view. -/
inductive PoolView where
  | noTable
  | notImaged (tokens : Option Tokens)
  | full (pool : Pool) (tokens : Option Tokens)
  deriving DecidableEq, Repr

/-- R169: the data an accepted reply carries. -/
inductive ReplyData where
  | nothing
  | slot (n : Nat)
  | station (r : StationReport)
  | order (o : Order) (channels : List ChannelReport) (fault : Option BaseFault)
  | line (v : LineView)
  | mixers (v : PoolView)
  | ticket (t : Ticket)
  deriving DecidableEq, Repr

/-- R168, R177: a reply; `kind` is the kind of the command it answers. -/
structure Reply where
  kind : Nat
  result : ReplyResult
  data : ReplyData
  deriving DecidableEq, Repr

/-- The Terminal Link Unit: R167, R168, R172, R173. `sending` is the reply being sent, `none` while IDLE. -/
structure Tlu where
  receiver : Receiver
  sending : Option Reply
  pendingReply : Option Reply
  tickets : List Ticket
  unread : Bool
  attention : Bool
  deriving DecidableEq, Repr

/-- The state of the controller. `pending` is the queue of commands, first in, first out. -/
structure State where
  setup : Option Setup
  ssl : Ssl
  blu : Blu
  bt : Table
  htb : List HoldTimer
  dcs : List Channel
  mps : List Pair
  obu : Book
  pdu : Pdu
  tlu : Tlu
  pins : Pins
  pending : List Instr
  deriving DecidableEq, Repr

/-- Why the controller stops: the spec names no event that stops it, so there is no fault. -/
inductive Fault where
  deriving DecidableEq, Repr

/-- Why a step is refused. -/
inductive Refusal where
  /-- Raised only by an arm of `exec` whose command has no meaning yet (safe: a run stops there). -/
  | notModelled (mnemonic : String)
  deriving DecidableEq, Repr

/-! ### Reset values -/

/-- R26: the record of a station that stands ABSENT. -/
def RosterRec.empty : RosterRec := { state := .absent, giver := none, imageMark := false }

/-- R26, R43, R71, R74: the empty table. -/
def Table.empty : Table :=
  { roster := List.replicate 16 RosterRec.empty, digest := none, formed := false, bayCount := some 0, lines := [],
    pool := none, tokens := none, joinResults := List.replicate 16 none }

/-- R23, after hardware reset. -/
def Ssl.reset : Ssl :=
  { state := .unset, lastDetach := .none, lateMark := false, joinTaken := false, knownGiver := none, emptyTimeouts := 0,
    leavePending := false, firstListen := none, formationWindow := none, imageTimer := none, rejoinTimer := none }

/-- R18: the empty cursor. -/
def Cursor.empty : Cursor := { joiners := [], next := none }

/-- R1, R11 to R13, R15, R18, R20, after hardware reset. -/
def Blu.reset : Blu :=
  { listen := .off, list := [], held := [], objections := 0, voids := 0, turnSpent := false, cursor := Cursor.empty }

/-- R87, after hardware reset. -/
def HoldTimer.reset : HoldTimer := { state := .stopped, role := .own, holder := 0, grant := 0, runTime := 0 }

/-- R103: the current grant with every field at its reset value. -/
def Grant.none : Grant := { number := 0, askedShots := 0, askedDrops := 0, shotsDone := 0, drops := 0, final := false }

/-- R103, after hardware reset: IDLE. -/
def Channel.idle : Channel :=
  { state := .idle, line := 0, slot := 0, entry := 0, ordered := 0, delivered := 0, mode := .single, trimsUsed := 0,
    plan := { full := 0, trim := 0, planned := 0 }, trimNow := 0, grant := Grant.none, balance := 0, granted := false,
    withdrawPending := false, stopCause := .none, result := .none }

/-- R123, after hardware reset. -/
def Pair.reset : Pair :=
  { phase := .stopped, bound := none, settleTimer := none, periodTimer := none, valveTimer := none, nextWidth := 0,
    counter := 0, overflow := false, lastShot := 0, lastOverflow := false, pump := false, valve := false }

/-- R138, after hardware reset. -/
def Book.reset : Book :=
  { slots := List.replicate 8 none, cradle := none, outfeed := none, request := .absent, doneOrder := [] }

/-- 9.2, after hardware reset, with no setup held. The loaded calibration is a DESIGN CHOICE (log entry 4). -/
def Fill.reset : Fill :=
  { phase := .idle, target := 0, counter := 0, dutyRegister := 0, dutyInUse := 0, periodTimer := none, dutyTimer := none,
    limitTimer := none, runOnTimer := none, valve := false, pump := false,
    cal := { period := 0, fastDuty := 0, slowDuty := 0, slowBand := 0, tolerance := 0, limit := 0 } }

/-- R160, after hardware reset. The loaded calibration is a DESIGN CHOICE (log entry 4). -/
def Press.reset : Press :=
  { phase := .idle, tries := 1, homeSeen := false, seatTimer := none, pressTimer := none, output := false, seatDelay := 0,
    pressWidth := 0 }

/-- R161, after hardware reset. The loaded limit is a DESIGN CHOICE (log entry 4). -/
def OpRec.reset : OpRec := { phase := .idle, pulseTimer := none, confirmTimer := none, output := false, limit := 0 }

/-- R164, after hardware reset. -/
def RunRec.reset : RunRec := { phase := .idle, runTimer := none, doneArmed := false, runLine := false }

/-- R156, R166, after hardware reset. -/
def Pdu.reset : Pdu :=
  { seatingTimer := none, arrived := none, lamp := false, fill := Fill.reset, press := Press.reset, toOutfeed := OpRec.reset,
    toShelf := OpRec.reset, toMixer := List.replicate 4 OpRec.reset, chute := OpRec.reset,
    runs := List.replicate 4 RunRec.reset }

/-- R174. -/
def Tlu.reset : Tlu :=
  { receiver := .hunting, sending := none, pendingReply := none, tickets := [], unread := false, attention := false }

/-- The plant inputs at power-on: the spec gives no level. DESIGN CHOICE: all off (log entry 4). -/
def Pins.allOff : Pins :=
  { tinPresent := false, outfeed := false, occupied := List.replicate 4 false, doneInput := List.replicate 4 false }

/-- The controller right after reset. -/
def State.reset : State :=
  { setup := none, ssl := Ssl.reset, blu := Blu.reset, bt := Table.empty, htb := List.replicate 20 HoldTimer.reset,
    dcs := List.replicate 4 Channel.idle, mps := List.replicate 4 Pair.reset, obu := Book.reset, pdu := Pdu.reset,
    tlu := Tlu.reset, pins := Pins.allOff, pending := [] }

end Sys2Proof.Machine
end

