-- ==== Sys2Proof/Machine/Operands.lean ====
section
/-! DEFINITION. The operand forms: an enumerated byte as the value it stands for (its position in the order in which the
spec lists the field's values, R176), and the ranges of the setup block (R21, R22) and of ORDER's fields (R138). -/

namespace Sys2Proof.Machine

/-- The rush field of a CLAIM or MIX CLAIM: none, A or B. -/
def rushOfCode : Nat → Option Rush
  | 0 => some .none
  | 1 => some .a
  | 2 => some .b
  | _ => none

def rushCode : Rush → Nat
  | .none => 0
  | .a => 1
  | .b => 2

/-- The token field of a RUSH DROP: A or B. -/
def tokenOfCode : Nat → Option Rush
  | 0 => some .a
  | 1 => some .b
  | _ => none

/-- A token as the token field carries it. -/
def tokenCode : Rush → Nat
  | .b => 1
  | _ => 0

/-- R60: the outcome of a RELEASE. -/
inductive LineOutcome where
  | good | short | runaway
  deriving DecidableEq, Repr

def lineOutcomeOfCode : Nat → Option LineOutcome
  | 0 => some .good
  | 1 => some .short
  | 2 => some .runaway
  | _ => none

def lineOutcomeCode : LineOutcome → Nat
  | .good => 0
  | .short => 1
  | .runaway => 2

/-- R81: the outcome of a MIX RELEASE. -/
inductive MixOutcome where
  | done | fault | blocked
  deriving DecidableEq, Repr

def mixOutcomeOfCode : Nat → Option MixOutcome
  | 0 => some .done
  | 1 => some .fault
  | 2 => some .blocked
  | _ => none

def mixOutcomeCode : MixOutcome → Nat
  | .done => 0
  | .fault => 1
  | .blocked => 2

/-- R19: the result of an IMAGE END: ACCEPTED (true) or DIGEST DIFFERS. -/
def imageResultOfCode : Nat → Option Bool
  | 0 => some true
  | 1 => some false
  | _ => none

def imageResultCode (accepted : Bool) : Nat := if accepted then 0 else 1

def modeOfCode : Nat → Option Mode
  | 0 => some .single
  | 1 => some .block
  | 2 => some .whole
  | _ => none

/-- R176: HOLD is priority 3. -/
def priorityOfCode : Nat → Option Priority
  | 0 => some .p0
  | 1 => some .p1
  | 2 => some .p2
  | 3 => some .hold
  | _ => none

/-- The rank of a priority in the cradle choice (R140): HOLD is never chosen. -/
def Priority.rank : Priority → Nat
  | .hold => 0
  | .p0 => 1
  | .p1 => 2
  | .p2 => 3

/-- R107: the requested level of a claim made for an order of this priority. An order past QUEUED is never on HOLD
(R140, R152), so HOLD's value is not met. -/
def Priority.level : Priority → Nat
  | .hold => 0
  | .p0 => 0
  | .p1 => 1
  | .p2 => 2

/-- "yes or no": yes is 0 and no is 1 (R176). -/
def yesOfCode : Nat → Option Bool
  | 0 => some true
  | 1 => some false
  | _ => none

/-- A range written lo..hi includes both ends (7.02). -/
def inRange (lo hi n : Nat) : Bool := lo ≤ n && n ≤ hi

/-- R22: the ranges of a line's bay constants. -/
def lineConstInRange (c : LineConst) : Bool :=
  inRange 8 255 c.shotSize && inRange 1 15 c.shareBlock && inRange 5 600 c.holdLimit && inRange 0 255 c.settleDelay

/-- R22: the ranges of the bay constants. -/
def bayConstInRange (b : BayConst) : Bool :=
  inRange 1 16 b.linesEquipped && b.lines.all lineConstInRange && inRange 1 4 b.mixersEquipped && inRange 5 60 b.mixerMargin
    && inRange 1 10 b.grace && inRange 0 65535 b.reserve && inRange 1 10 b.formationWindow

/-- R21, R136: full shot width 1..4000 ticks, shot period no shorter than it plus 5 ms (50 ticks). -/
def lineCalInRange (c : LineCal) : Bool :=
  inRange 1 4000 c.shotWidth && inRange (c.shotWidth + 50) 10000 c.shotPeriod

/-- R21, R157, R160, R161: the ranges of the station calibration. -/
def calibrationInRange (c : Calibration) : Bool :=
  inRange 0 15 c.station && c.lines.all lineCalInRange && inRange 1 50 c.basePeriod && inRange 1 100 c.fastDuty
    && inRange 1 100 c.slowDuty && inRange 0 2000 c.slowBand && inRange 0 200 c.baseTolerance && inRange 10 600 c.baseLimit
    && inRange 50 2000 c.seatDelay && inRange 100 3000 c.pressWidth && inRange 100 2000 c.transferPulse
    && inRange 1 20 c.transferLimit

/-- R21: every field of both parts within its range. -/
def setupInRange (b : SetupBlock) : Bool := bayConstInRange b.bay && calibrationInRange b.cal

/-- R138: the mix time is 0 or 10..300 s. -/
def mixTimeInRange (t : Nat) : Bool := t == 0 || inRange 10 300 t

def orderEntryInRange (e : OrderEntry) : Bool := e.line < 16 && inRange 1 16383 e.drops && (modeOfCode e.mode).isSome

/-- R139 (b): no line named by two entries. -/
def linesDistinct : List OrderEntry → Bool
  | [] => true
  | e :: es => es.all (fun e' => e'.line != e.line) && linesDistinct es

/-- R139 (b): every field in its range, no line twice, rush only at priority 2, a mix only with a lid. -/
def orderFieldsValid (f : OrderFields) : Bool :=
  inRange 1 65535 f.tag && inRange 1 7 f.size && f.base ≤ 20000 && (priorityOfCode f.priority).isSome
    && (yesOfCode f.rush).isSome && (yesOfCode f.lid).isSome && mixTimeInRange f.mixTime && f.entries.length ≤ 12
    && f.entries.all orderEntryInRange && linesDistinct f.entries && !(f.rush == 0 && f.priority != 2)
    && !(f.mixTime != 0 && f.lid == 1)

/-- The order's entries as the slot holds them. -/
def doseEntry (e : OrderEntry) : DoseEntry :=
  { line := e.line, drops := e.drops, mode := (modeOfCode e.mode).getD .single }

end Sys2Proof.Machine
end

