-- ==== Sys2Proof/Machine/Check.lean ====
section
/-! DEFINITION. Bits, bytes and the 16-bit cyclic check (R175, R176), the bay digest (R22), and bit stuffing (R3). -/

namespace Sys2Proof.Machine

/-- The low `w` bits of a number, most significant first (R176, 7.07). -/
def bitsOf (w n : Nat) : Bits := (List.range w).map fun i => n.testBit (w - 1 - i)

/-- The number that bits spell, most significant first. -/
def ofBits (bs : Bits) : Nat := bs.foldl (fun n b => 2 * n + b.toNat) 0

/-- The bits of bytes, each byte most significant bit first. -/
def bytesBits (bytes : List ByteVal) : Bits := bytes.flatMap (bitsOf 8)

/-- A two-byte field, more significant byte first. -/
def twoBytes (n : Nat) : List ByteVal := [n / 256 % 256, n % 256]

/-- A three-byte field, more significant byte first. -/
def threeBytes (n : Nat) : List ByteVal := [n / 65536 % 256, n / 256 % 256, n % 256]

/-- R175: the low sixteen coefficients of x^16 + x^14 + x^12 + x^9 + x^7 + x^4 + x^2 + 1. -/
def generator : CheckWord := 0x5295#16

/-- R175: one covered bit shifted through the check register. -/
def checkBit (r : CheckWord) (b : Bool) : CheckWord :=
  if r.msb != b then (r <<< 1) ^^^ generator else r <<< 1

/-- R175: the check over covered bits, from a register of all ones. -/
def check (bits : Bits) : CheckWord := bits.foldl checkBit 0xFFFF#16

/-- R22: the bytes of one equipped line's constants. -/
def lineConstBytes (c : LineConst) : List ByteVal := c.shotSize :: c.shareBlock :: twoBytes c.holdLimit ++ [c.settleDelay]

/-- R22: the bytes the digest covers: the per-line group for equipped lines alone. -/
def digestBytes (b : BayConst) : List ByteVal :=
  b.linesEquipped :: (b.lines.take b.linesEquipped).flatMap lineConstBytes
    ++ [b.mixersEquipped, b.mixerMargin, b.grace] ++ twoBytes b.reserve ++ [b.formationWindow]

/-- R22: the bay digest. -/
def bayDigest (b : BayConst) : Nat := (check (bytesBits (digestBytes b))).toNat

/-- R3: stuffing after `run` equal bits of value `last`: the complement is inserted after every run of five, and counts
as the first bit of the following run. -/
def stuffFrom (last : Bool) (run : Nat) : Bits → Bits
  | [] => []
  | b :: bs =>
    if (if b = last then run + 1 else 1) = 5 then b :: (!b) :: stuffFrom (!b) 1 bs
    else b :: stuffFrom b (if b = last then run + 1 else 1) bs

/-- R3: the bits from the start mark to the last bit of the check, as the sender drives them. -/
def stuff (bits : Bits) : Bits := stuffFrom false 0 bits

/-- R3: removal of the stuff bits; `none` at a run of six equal bits, which is a framing fault. -/
def destuffFrom (last : Bool) (run : Nat) : Bits → Option Bits
  | [] => some []
  | b :: bs =>
    if run = 5 then (if b = last then none else destuffFrom b 1 bs)
    else (destuffFrom b (if b = last then run + 1 else 1) bs).map (b :: ·)

/-- R3: what a receiver makes of the bits it heard. -/
def destuff (bits : Bits) : Option Bits := destuffFrom false 0 bits

end Sys2Proof.Machine
end

