-- ==== Sys2Proof/Machine/Layout.lean ====
section
/-! DEFINITION. The byte layouts (R176 to R178): the bay notice with its class, kind, payload and contention value, what a
receiver finds wrong with a notice (R8), the terminal's command frames, and the receiver of the terminal link (R167). -/

namespace Sys2Proof.Machine

/-! ### The bay notice -/

/-- R6: the class of a notice. -/
def noticeClass : Notice → Nat
  | .revoke _ _ _ | .lineOut _ | .formed | .image _ _ | .imageEnd _ _ _ => 0
  | .release _ _ _ _ | .mixRelease _ _ _ | .withdraw _ | .mixWithdraw | .rushDrop _ | .leave => 1
  | .refill _ _ | .lineReturn _ _ | .mixerReturn _ | .rushTake _ => 2
  | .claim _ _ _ _ _ | .mixClaim _ _ _ | .join _ _ _ => 3

/-- R178: the kind byte of a notice. -/
def noticeKind : Notice → Nat
  | .join _ _ _ => 1
  | .formed => 2
  | .image _ _ => 3
  | .imageEnd _ _ _ => 4
  | .leave => 5
  | .claim _ _ _ _ _ => 6
  | .withdraw _ => 7
  | .release _ _ _ _ => 8
  | .refill _ _ => 9
  | .lineOut _ => 10
  | .lineReturn _ _ => 11
  | .rushTake _ => 12
  | .rushDrop _ => 13
  | .mixClaim _ _ _ => 14
  | .mixWithdraw => 15
  | .mixRelease _ _ _ => 16
  | .mixerReturn _ => 17
  | .revoke _ _ _ => 18

/-- R176: an optional station, 255 when absent. -/
def optStationByte : Option Nat → Nat
  | none => 255
  | some n => n

/-- R176: an optional tag or mix time, 0 when absent. -/
def optZero : Option Nat → Nat
  | none => 0
  | some n => n

def rosterStateCode : RosterState → Nat
  | .absent => 0
  | .joining => 1
  | .present => 2

/-- R178: a roster record: state with the image mark as its top bit, then giver. -/
def rosterBytes (r : RosterRec) : List ByteVal :=
  [rosterStateCode r.state + (if r.imageMark then 128 else 0), optStationByte r.giver]

/-- R178: a token: holder, then tag. -/
def tokenBytes (t : Option TokenHolder) : List ByteVal :=
  optStationByte (t.map TokenHolder.station) :: twoBytes (optZero (t.map TokenHolder.tag))

def serviceCode : Service → Nat
  | .inService => 0
  | .out => 1

def mixerStateCode : MixerState → Nat
  | .free => 0
  | .held => 1
  | .out => 2

/-- R178: the byte of four two-bit parts: requested level, effective level, passed count, rush. -/
def packClaim (requested effective passed : Nat) (rush : Rush) : Nat :=
  requested * 64 + effective * 16 + passed * 4 + rushCode rush

/-- R178: a waiting claim of a line, five bytes. -/
def claimBytes (c : Claim) : List ByteVal :=
  c.station :: c.askedShots :: twoBytes c.askedDrops ++ [packClaim c.requested c.effective c.passed c.rush]

/-- R178: a mixer claim, four bytes. -/
def mixClaimBytes (c : MixClaim) : List ByteVal :=
  c.station :: twoBytes c.mixTime ++ [packClaim c.requested c.effective c.passed c.rush]

/-- R178: a mixer record, five bytes. -/
def mixRecBytes (r : MixRec) : List ByteVal :=
  mixerStateCode r.state :: optStationByte r.holder :: r.grant :: twoBytes (optZero r.mixTime)

/-- R178: the holder record of a line, nine bytes; when absent, station 255 and the rest zero. -/
def holderBytes : Option Holder → List ByteVal
  | none => 255 :: List.replicate 8 0
  | some h =>
    h.station :: h.grant :: h.askedShots :: twoBytes h.askedDrops ++ rushCode h.rush :: threeBytes h.levelAtGrant

/-- R178: the line record with its holder and waiting claims. -/
def lineRecBytes (r : LineRec) : List ByteVal :=
  serviceCode r.service :: threeBytes r.level ++ r.grant :: holderBytes r.holder ++ r.waiting.flatMap claimBytes

/-- Zero bytes up to a length. -/
def padTo (n : Nat) (bytes : List ByteVal) : List ByteVal := bytes ++ List.replicate (n - bytes.length) 0

/-- R178: an IMAGE subject and its records. Mixer records beyond mixers equipped and unused claim slots are zeros. -/
def imageBytes : Image → List ByteVal
  | .rosterTokens roster a b => 16 :: roster.flatMap rosterBytes ++ tokenBytes a ++ tokenBytes b
  | .mixers recs waiting =>
    17 :: padTo 20 (recs.flatMap mixRecBytes) ++ waiting.length :: padTo 64 (waiting.flatMap mixClaimBytes)
  | .line n record => n :: lineRecBytes record

/-- R178: a REVOKE subject: line 0..15, or 16 + mixer. -/
def holdKeyByte : HoldKey → Nat
  | .line n => n
  | .mixer m => 16 + m

/-- R178: the payload of a notice. -/
def noticePayload : Notice → List ByteVal
  | .join station digest silent => station :: twoBytes digest ++ [optStationByte silent]
  | .formed => []
  | .image joiner img => joiner :: imageBytes img
  | .imageEnd joiner result count => joiner :: result :: twoBytes count
  | .leave => []
  | .claim line shots drops level rush => line :: shots :: twoBytes drops ++ [level, rush]
  | .withdraw line => [line]
  | .release line grant drops outcome => line :: grant :: twoBytes drops ++ [outcome]
  | .refill line level => line :: threeBytes level
  | .lineOut line => [line]
  | .lineReturn line level => line :: threeBytes level
  | .rushTake tag => twoBytes tag
  | .rushDrop token => [token]
  | .mixClaim time level rush => twoBytes time ++ [level, rush]
  | .mixWithdraw => []
  | .mixRelease mixer grant outcome => [mixer, grant, outcome]
  | .mixerReturn mixer => [mixer]
  | .revoke subject holder grant => [holdKeyByte subject, holder, grant]

/-- R178, R19: whether a payload length agrees with the kind (for IMAGE, with the kind and subject, a line's waiting
claims numbering 0..16). A kind outside 1..18 agrees with none. -/
def noticeLengthOk (kind : Nat) (payload : List ByteVal) : Bool :=
  match kind with
  | 1 => payload.length == 4
  | 2 => payload.length == 0
  | 3 =>
    match payload with
    | _ :: subject :: _ =>
      if subject < 16 then inRange 16 96 payload.length && (payload.length - 16) % 5 == 0
      else if subject == 16 then payload.length == 40
      else subject == 17 && payload.length == 87
    | _ => false
  | 4 => payload.length == 4
  | 5 => payload.length == 0
  | 6 => payload.length == 6
  | 7 => payload.length == 1
  | 8 => payload.length == 5
  | 9 => payload.length == 4
  | 10 => payload.length == 1
  | 11 => payload.length == 4
  | 12 => payload.length == 2
  | 13 => payload.length == 1
  | 14 => payload.length == 4
  | 15 => payload.length == 0
  | 16 => payload.length == 3
  | 17 => payload.length == 1
  | 18 => payload.length == 3
  | _ => false

/-- R5: the contention value: class, then station number. -/
def contentionValue (class_ station : Nat) : Nat := class_ * 16 + station

/-- R175: the bits a notice's check covers: the contention bits, then kind, length and payload. -/
def noticeCovered (station : Nat) (n : Notice) : Bits :=
  bitsOf 6 (contentionValue (noticeClass n) station)
    ++ bytesBits (noticeKind n :: (noticePayload n).length :: noticePayload n)

/-- R3, R178: what a sender drives from the start mark (dominant) to the last bit of the check, stuffed. -/
def noticeBits (station : Nat) (n : Notice) : Bits :=
  stuff (false :: (noticeCovered station n ++ bitsOf 16 (check (noticeCovered station n)).toNat))

/-- R8: what a listener finds in the destuffed bits from the start mark on: a byte count that differs from the length
received (R3), a check that does not agree, a length that does not agree with the kind, or an unknown kind. -/
def fieldsFaulty (bits : Bits) : Bool :=
  let covered := (bits.drop 1).take (bits.length - 17)
  let kind := ofBits ((bits.drop 7).take 8)
  let length := ofBits ((bits.drop 15).take 8)
  let payloadBits := covered.drop 22
  bits.length != 39 + 8 * length
    || (check covered).toNat != ofBits (bits.drop (bits.length - 16))
    || !noticeLengthOk kind ((List.range length).map fun i => ofBits ((payloadBits.drop (8 * i)).take 8))

/-- R8: whether a listener objects to a notice of which it heard these bits. -/
def receptionFaulty (heard : Bits) : Bool :=
  match destuff heard with
  | none => true
  | some bits => fieldsFaulty bits

/-- The contention value a station heard, R5: the six bits after the start mark. At most one stuff bit stands among the
first eight bits. `none` where they are not six whole bits. -/
def heardContention (heard : Bits) : Option Nat :=
  match destuff (heard.take 8) with
  | some bits => if 7 ≤ bits.length then some (ofBits ((bits.drop 1).take 6)) else none
  | none => none

/-! ### Reading a notice back. A byte of a record that lies outside its list of values draws no objection (R19), and no rule gives
it a meaning: a roster state above 2 is read as PRESENT, a service above 1 as OUT, a mixer state above 2 as OUT, a rush part
of 3 and a holder's rush byte above 2 as none, and a number as it stands (log entry 44). -/

def optStationOfByte (n : Nat) : Option Nat := if n = 255 then none else some n

def nonZero (n : Nat) : Option Nat := if n = 0 then none else some n

/-- R178: a roster record from its two bytes; a state above 2 is read as PRESENT (log entry 44). -/
def rosterOfBytes (state giver : Nat) : RosterRec :=
  { state := if state % 128 = 0 then .absent else if state % 128 = 1 then .joining else .present,
    giver := optStationOfByte giver, imageMark := 128 ≤ state }

/-- The roster records in a payload, two bytes each. -/
def rosterOf : List ByteVal → List RosterRec
  | s :: g :: rest => rosterOfBytes s g :: rosterOf rest
  | _ => []

def tokenOfBytes (station hi lo : Nat) : Option TokenHolder :=
  if station = 255 then none else some { station := station, tag := hi * 256 + lo }

/-- The rush part of a packed claim byte; a part of 3 is read as none (log entry 44). -/
def rushOfPart (n : Nat) : Rush := (rushOfCode (n % 4)).getD .none

/-- The waiting claims in a payload, five bytes each. -/
def claimsOf : List ByteVal → List Claim
  | s :: shots :: hi :: lo :: p :: rest =>
    { station := s, askedShots := shots, askedDrops := hi * 256 + lo, requested := p / 64 % 4, effective := p / 16 % 4,
      passed := p / 4 % 4, rush := rushOfPart p } :: claimsOf rest
  | _ => []

/-- The mixer claims in a payload, four bytes each. -/
def mixClaimsOf : List ByteVal → List MixClaim
  | s :: hi :: lo :: p :: rest =>
    { station := s, mixTime := hi * 256 + lo, requested := p / 64 % 4, effective := p / 16 % 4, passed := p / 4 % 4,
      rush := rushOfPart p } :: mixClaimsOf rest
  | _ => []

/-- The mixer records in a payload, five bytes each; a state above 2 is read as OUT (log entry 44). -/
def mixRecsOf : List ByteVal → List MixRec
  | st :: h :: g :: hi :: lo :: rest =>
    { state := if st = 0 then .free else if st = 1 then .held else .out, holder := optStationOfByte h, grant := g,
      mixTime := nonZero (hi * 256 + lo) } :: mixRecsOf rest
  | _ => []

/-- The holder record in a payload; a rush byte above 2 is read as none (log entry 44). -/
def holderOf : List ByteVal → Option Holder
  | [s, g, shots, dh, dl, r, l2, l1, l0] =>
    if s = 255 then none
    else some { station := s, grant := g, askedShots := shots, askedDrops := dh * 256 + dl, rush := (rushOfCode r).getD .none,
                levelAtGrant := l2 * 65536 + l1 * 256 + l0 }
  | _ => none

/-- An IMAGE's subject and records read back, in a bay with this many mixers equipped; a service above 1 is read as OUT (log
entry 44). -/
def imageOfBytes (mixersEquipped : Nat) : List ByteVal → Option Image
  | [] => none
  | subject :: rest =>
    if subject < 16 then
      match rest with
      | sv :: l2 :: l1 :: l0 :: g :: more =>
        some (.line subject
          { service := if sv = 0 then .inService else .out, level := l2 * 65536 + l1 * 256 + l0, grant := g,
            holder := holderOf (more.take 9), waiting := claimsOf (more.drop 9) })
      | _ => none
    else if subject = 16 then
      match rest.drop 32 with
      | [ha, ta1, ta0, hb, tb1, tb0] =>
        some (.rosterTokens (rosterOf (rest.take 32)) (tokenOfBytes ha ta1 ta0) (tokenOfBytes hb tb1 tb0))
      | _ => none
    else
      match rest.drop 20 with
      | count :: slots => some (.mixers (mixRecsOf (rest.take (5 * mixersEquipped))) (mixClaimsOf (slots.take (4 * count))))
      | _ => none

/-- R178: a notice read back from its kind and payload, in a bay with this many mixers equipped. -/
def noticeOf (mixersEquipped kind : Nat) (payload : List ByteVal) : Option Notice :=
  match kind, payload with
  | 1, [station, d1, d0, g] => some (.join station (d1 * 256 + d0) (optStationOfByte g))
  | 2, [] => some .formed
  | 3, joiner :: rest => (imageOfBytes mixersEquipped rest).map (.image joiner)
  | 4, [joiner, result, c1, c0] => some (.imageEnd joiner result (c1 * 256 + c0))
  | 5, [] => some .leave
  | 6, [line, shots, d1, d0, level, rush] => some (.claim line shots (d1 * 256 + d0) level rush)
  | 7, [line] => some (.withdraw line)
  | 8, [line, grant, d1, d0, outcome] => some (.release line grant (d1 * 256 + d0) outcome)
  | 9, [line, l2, l1, l0] => some (.refill line (l2 * 65536 + l1 * 256 + l0))
  | 10, [line] => some (.lineOut line)
  | 11, [line, l2, l1, l0] => some (.lineReturn line (l2 * 65536 + l1 * 256 + l0))
  | 12, [t1, t0] => some (.rushTake (t1 * 256 + t0))
  | 13, [token] => some (.rushDrop token)
  | 14, [t1, t0, level, rush] => some (.mixClaim (t1 * 256 + t0) level rush)
  | 15, [] => some .mixWithdraw
  | 16, [mixer, grant, outcome] => some (.mixRelease mixer grant outcome)
  | 17, [mixer] => some (.mixerReturn mixer)
  | 18, [subject, holder, grant] =>
    some (.revoke (if subject < 16 then .line subject else .mixer (subject - 16)) holder grant)
  | _, _ => none

/-! ### The terminal frame (R177) -/

/-- R177: the command kinds, in the order of the table of R169. -/
def commandKind : Instr → Nat
  | .setup _ => 1
  | .start => 2
  | .leave => 3
  | .order _ => 4
  | .cancel _ => 5
  | .priority _ _ => 6
  | .refill _ _ => 7
  | .lineReturn _ _ => 8
  | .lineOut _ => 9
  | .mixerReturn _ => 10
  | .queryStation => 11
  | .queryOrder _ => 12
  | .queryLine _ => 13
  | .queryMixers => 14
  | .readTicket => 15
  | _ => 0

/-- R177: the per-line set of bay constants in the setup block. -/
def lineCalBytes (c : LineCal) : List ByteVal := twoBytes c.shotWidth ++ twoBytes c.shotPeriod

/-- R177: the setup block, 170 bytes. -/
def setupBytes (b : SetupBlock) : List ByteVal :=
  b.bay.linesEquipped :: b.bay.lines.flatMap lineConstBytes ++ [b.bay.mixersEquipped, b.bay.mixerMargin, b.bay.grace]
    ++ twoBytes b.bay.reserve ++ [b.bay.formationWindow, b.cal.station] ++ b.cal.lines.flatMap lineCalBytes
    ++ twoBytes b.cal.basePeriod ++ [b.cal.fastDuty, b.cal.slowDuty] ++ twoBytes b.cal.slowBand
    ++ twoBytes b.cal.baseTolerance ++ twoBytes b.cal.baseLimit ++ twoBytes b.cal.seatDelay ++ twoBytes b.cal.pressWidth
    ++ twoBytes b.cal.transferPulse ++ twoBytes b.cal.transferLimit

/-- R138, R177: one formula entry of ORDER. -/
def orderEntryBytes (e : OrderEntry) : List ByteVal := e.line :: twoBytes e.drops ++ [e.mode]

/-- R138, R177: the fields of ORDER; the entries are a list, carried as a count byte followed by its items. -/
def orderBytes (f : OrderFields) : List ByteVal :=
  twoBytes f.tag ++ f.size :: twoBytes f.base ++ [f.priority, f.rush, f.lid] ++ twoBytes f.mixTime
    ++ f.entries.length :: f.entries.flatMap orderEntryBytes

/-- R177: the payload of a terminal command; other commands carry none. -/
def commandPayload : Instr → List ByteVal
  | .setup b => setupBytes b
  | .order f => orderBytes f
  | .cancel tag => twoBytes tag
  | .priority tag level => twoBytes tag ++ [level]
  | .refill line level => line :: threeBytes level
  | .lineReturn line level => line :: threeBytes level
  | .lineOut line => [line]
  | .mixerReturn mixer => [mixer]
  | .queryOrder tag => twoBytes tag
  | .queryLine line => [line]
  | _ => []

/-- R169, R177: whether the payload length equals the length the kind's fields give. For ORDER that counts the entries
carried. A kind that names no command has none. -/
def commandLengthOk (kind : Nat) (payload : List ByteVal) : Bool :=
  match kind with
  | 1 => payload.length == 170
  | 2 => payload.length == 0
  | 3 => payload.length == 0
  | 4 => payload.length == 11 + 4 * payload.getD 10 0
  | 5 => payload.length == 2
  | 6 => payload.length == 3
  | 7 => payload.length == 4
  | 8 => payload.length == 4
  | 9 => payload.length == 1
  | 10 => payload.length == 1
  | 11 => payload.length == 0
  | 12 => payload.length == 2
  | 13 => payload.length == 1
  | 14 => payload.length == 0
  | 15 => payload.length == 0
  | _ => false

/-- R177: a frame: lead byte 195, length, kind, payload, check. -/
def frameBytes (kind : Nat) (payload : List ByteVal) : List ByteVal :=
  195 :: payload.length :: kind :: payload ++ twoBytes (check (bytesBits (payload.length :: kind :: payload))).toNat

/-- Entries of ORDER read back, four bytes each. -/
def orderEntriesOf : List ByteVal → List OrderEntry
  | line :: d1 :: d0 :: mode :: rest => { line := line, drops := d1 * 256 + d0, mode := mode } :: orderEntriesOf rest
  | _ => []

def lineConstsOf : List ByteVal → List LineConst
  | size :: share :: h1 :: h0 :: settle :: rest =>
    { shotSize := size, shareBlock := share, holdLimit := h1 * 256 + h0, settleDelay := settle } :: lineConstsOf rest
  | _ => []

def lineCalsOf : List ByteVal → List LineCal
  | w1 :: w0 :: p1 :: p0 :: rest => { shotWidth := w1 * 256 + w0, shotPeriod := p1 * 256 + p0 } :: lineCalsOf rest
  | _ => []

/-- R177: a setup block read back from its 170 bytes. -/
def setupOf (bytes : List ByteVal) : Option SetupBlock :=
  match bytes.take 1, (bytes.drop 81).take 7, (bytes.drop 152) with
  | [le], [me, mm, gr, r1, r0, fw, st],
    [bp1, bp0, fd, sd, sb1, sb0, bt1, bt0, bl1, bl0, sl1, sl0, pw1, pw0, tp1, tp0, tl1, tl0] =>
    some { bay := { linesEquipped := le, lines := lineConstsOf ((bytes.drop 1).take 80), mixersEquipped := me,
                    mixerMargin := mm, grace := gr, reserve := r1 * 256 + r0, formationWindow := fw },
           cal := { station := st, lines := lineCalsOf ((bytes.drop 88).take 64), basePeriod := bp1 * 256 + bp0, fastDuty := fd,
                    slowDuty := sd, slowBand := sb1 * 256 + sb0, baseTolerance := bt1 * 256 + bt0, baseLimit := bl1 * 256 + bl0,
                    seatDelay := sl1 * 256 + sl0, pressWidth := pw1 * 256 + pw0, transferPulse := tp1 * 256 + tp0,
                    transferLimit := tl1 * 256 + tl0 } }
  | _, _, _ => none

/-- R169, R177: the command that a frame's kind and payload carry. -/
def commandOf (kind : Nat) (payload : List ByteVal) : Option Instr :=
  match kind, payload with
  | 1, bytes => (setupOf bytes).map .setup
  | 2, [] => some .start
  | 3, [] => some .leave
  | 4, t1 :: t0 :: size :: b1 :: b0 :: pr :: rush :: lid :: m1 :: m0 :: _ :: entries =>
    some (.order { tag := t1 * 256 + t0, size := size, base := b1 * 256 + b0, priority := pr, rush := rush, lid := lid,
                   mixTime := m1 * 256 + m0, entries := orderEntriesOf entries })
  | 5, [t1, t0] => some (.cancel (t1 * 256 + t0))
  | 6, [t1, t0, level] => some (.priority (t1 * 256 + t0) level)
  | 7, [line, l2, l1, l0] => some (.refill line (l2 * 65536 + l1 * 256 + l0))
  | 8, [line, l2, l1, l0] => some (.lineReturn line (l2 * 65536 + l1 * 256 + l0))
  | 9, [line] => some (.lineOut line)
  | 10, [mixer] => some (.mixerReturn mixer)
  | 11, [] => some .queryStation
  | 12, [t1, t0] => some (.queryOrder (t1 * 256 + t0))
  | 13, [line] => some (.queryLine line)
  | 14, [] => some .queryMixers
  | 15, [] => some .readTicket
  | _, _ => none

/-! ### The receiver of the terminal link (R167) -/

/-- R167: one byte received: the receiver afterwards, and the kind and payload of a frame that arrives with it. -/
def receiveByte (r : Receiver) (b : LinkByte) : Receiver × Option (Nat × List ByteVal) :=
  match r with
  | .hunting => if b.stopBit && b.value == 195 then (.inFrame [], none) else (.hunting, none)
  | .inFrame bytes =>
    if !b.stopBit then (.hunting, none)
    else
      let got := bytes ++ [b.value]
      match got with
      | length :: kind :: rest =>
        if rest.length < length + 2 then (.inFrame got, none)
        else if twoBytes (check (bytesBits (length :: kind :: rest.take length))).toNat == rest.drop length then
          (.hunting, some (kind, rest.take length))
        else (.hunting, none)
      | _ => if 250 < b.value then (.hunting, none) else (.inFrame got, none)

/-- R167: the receiver after a run of bytes. -/
def receiveBytes (r : Receiver) (bytes : List LinkByte) : Receiver :=
  bytes.foldl (fun r b => (receiveByte r b).1) r

/-- R167: the frames that arrive in a run of bytes. -/
def framesIn : Receiver → List LinkByte → List (Nat × List ByteVal)
  | _, [] => []
  | r, b :: bs =>
    match receiveByte r b with
    | (r', some f) => f :: framesIn r' bs
    | (r', none) => framesIn r' bs

end Sys2Proof.Machine
end

