-- ==== Sys2Proof/Machine/Flags.lean ====
section
/-! DEFINITION. The conditions and outputs that are computed from the state and not held apart from it: LOW and the status of
a line (R48), the eligibility and rank of claims (R50, R51), and the outputs of the controller. -/

namespace Sys2Proof.Machine

/-- R48: a line is LOW while its level is less than the bay's reserve. -/
def lineLow (reserve : Nat) (r : LineRec) : Bool := r.level < reserve

/-- R48: the status of a line. -/
def lineStatus (r : LineRec) : LineStatus :=
  match r.service, r.holder with
  | .out, _ => .out
  | .inService, some _ => .held
  | .inService, none => if r.waiting.isEmpty then .free else .stalled

/-- R50: every claim is eligible but one of effective level 0 without rush on a LOW line. -/
def eligible (low : Bool) (rush : Rush) (effective : Nat) : Bool := !(low && rush == .none && effective == 0)

/-- R51, R77 (a): the place of the best claim, given rush and effective level of each (`none` when not eligible): rush A
first, then rush B, then the earliest of the highest effective level. -/
def bestPlace (ranks : List (Option (Rush × Nat))) : Option Nat :=
  let withRush (t : Rush) := ranks.findIdx? fun r => r.any fun x => x.1 == t
  let top := ranks.foldl (fun m r => max m ((r.map fun x => x.2).getD 0)) 0
  match withRush .a with
  | some i => some i
  | none =>
    match withRush .b with
    | some i => some i
    | none => ranks.findIdx? fun r => r.any fun x => x.2 == top

/-- R54, R78: passed count and effective level of a claim without rush that a grant passes. -/
def agedPassed (passed : Nat) : Nat := if 4 ≤ passed + 1 then 0 else passed + 1

def agedLevel (passed effective : Nat) : Nat := if 4 ≤ passed + 1 ∧ effective < 2 then effective + 1 else effective

/-- R173: raised while the ticket queue is not empty or the unread-state-change flag is set. -/
def attentionOf (tickets : List Ticket) (unread : Bool) : Bool := !tickets.isEmpty || unread

/-- R134: the tap valve output of line n: open while a pair bound to it has its valve open. -/
def State.tapValve (s : State) (n : Nat) : Bool := s.mps.any fun p => p.bound == some n && p.valve

/-- R135: the pump request output of line n. -/
def State.pumpRequest (s : State) (n : Nat) : Bool := s.mps.any fun p => p.bound == some n && p.pump

/-- R1: whether the transceiver drives the line: a notice of this station is in transmission. -/
def State.transmitting (s : State) : Bool := s.blu.list.any fun e => e.transmitting

end Sys2Proof.Machine
end

