-- ==== Sys2Proof/Machine/Ops.lean ====
section
/-! DEFINITION. The named operations that the meanings share: reading the setup, and reading and updating one record of a
block. -/

namespace Sys2Proof.Machine

/-- Values that stand for a setup where none is held; no rule reads them (log entry 24). -/
def BayConst.blank : BayConst :=
  { linesEquipped := 0, lines := [], mixersEquipped := 0, mixerMargin := 0, grace := 0, reserve := 0, formationWindow := 0 }

def Calibration.blank : Calibration :=
  { station := 0, lines := [], basePeriod := 0, fastDuty := 0, slowDuty := 0, slowBand := 0, baseTolerance := 0, baseLimit := 0,
    seatDelay := 0, pressWidth := 0, transferPulse := 0, transferLimit := 0 }

/-- The bay constants of the setup held. -/
def State.bay (s : State) : BayConst := (s.setup.map fun st => st.block.bay).getD BayConst.blank

/-- The station calibration of the setup held. -/
def State.cal (s : State) : Calibration := (s.setup.map fun st => st.block.cal).getD Calibration.blank

/-- The own station number. -/
def State.me (s : State) : Nat := s.cal.station

/-- The own bay digest (R22). -/
def State.digest (s : State) : Nat := (s.setup.map fun st => st.digest).getD 0

/-- The bay constants of line n. -/
def State.lineConst (s : State) (n : Nat) : LineConst :=
  s.bay.lines.getD n { shotSize := 0, shareBlock := 0, holdLimit := 0, settleDelay := 0 }

/-- The calibration of line n. -/
def State.lineCal (s : State) (n : Nat) : LineCal := s.cal.lines.getD n { shotWidth := 0, shotPeriod := 0 }

/-! ### Records by number -/

def State.dc (s : State) (k : Nat) : Channel := s.dcs.getD k Channel.idle

def State.mp (s : State) (k : Nat) : Pair := s.mps.getD k Pair.reset

def State.timer (s : State) (i : Nat) : HoldTimer := s.htb.getD i HoldTimer.reset

/-- The live order in a slot, if any. -/
def State.order (s : State) (slot : Nat) : Option Order := s.obu.slots.getD slot none

def State.run (s : State) (m : Nat) : RunRec := s.pdu.runs.getD m RunRec.reset

def State.modDc (s : State) (k : Nat) (f : Channel → Channel) : State := { s with dcs := s.dcs.modify k f }

def State.modMp (s : State) (k : Nat) (f : Pair → Pair) : State := { s with mps := s.mps.modify k f }

def State.modTimer (s : State) (i : Nat) (f : HoldTimer → HoldTimer) : State := { s with htb := s.htb.modify i f }

def State.modBlu (s : State) (f : Blu → Blu) : State := { s with blu := f s.blu }

def State.modBt (s : State) (f : Table → Table) : State := { s with bt := f s.bt }

def State.modSsl (s : State) (f : Ssl → Ssl) : State := { s with ssl := f s.ssl }

def State.modBook (s : State) (f : Book → Book) : State := { s with obu := f s.obu }

def State.modOrder (s : State) (slot : Nat) (f : Order → Order) : State :=
  { s with obu := { s.obu with slots := s.obu.slots.modify slot (Option.map f) } }

def State.modPdu (s : State) (f : Pdu → Pdu) : State := { s with pdu := f s.pdu }

def State.modTlu (s : State) (f : Tlu → Tlu) : State := { s with tlu := f s.tlu }

def State.modRun (s : State) (m : Nat) (f : RunRec → RunRec) : State :=
  { s with pdu := { s.pdu with runs := s.pdu.runs.modify m f } }

/-- The record of a pusher (R161). -/
def State.pusher (s : State) : Pusher → OpRec
  | .toOutfeed => s.pdu.toOutfeed
  | .toShelf => s.pdu.toShelf
  | .toMixer m => s.pdu.toMixer.getD m OpRec.reset

def State.modPusher (s : State) (p : Pusher) (f : OpRec → OpRec) : State :=
  match p with
  | .toOutfeed => { s with pdu := { s.pdu with toOutfeed := f s.pdu.toOutfeed } }
  | .toShelf => { s with pdu := { s.pdu with toShelf := f s.pdu.toShelf } }
  | .toMixer m => { s with pdu := { s.pdu with toMixer := s.pdu.toMixer.modify m f } }

/-- The occupied input of mixer m as it stands. -/
def State.occupied (s : State) (m : Nat) : Bool := s.pins.occupied.getD m false

/-- The done input of mixer m as it stands. -/
def State.doneInput (s : State) (m : Nat) : Bool := s.pins.doneInput.getD m false

/-- R2, R10: the states in which the BLU hears notices and delivers takes. -/
def StationState.listens : StationState → Bool
  | .forming | .joining | .attached => true
  | .unset | .ready | .detached | .refused => false

/-- R1, R2: whether this station hears the notice that closes now. -/
def State.hears (s : State) : Bool := s.ssl.state.listens && s.blu.listen == .following

/-- Whether the station is ATTACHED. -/
def State.isAttached (s : State) : Bool := s.ssl.state == .attached

/-- R26: whether a station stands PRESENT in a table's roster. -/
def Table.rosterAt (t : Table) (station : Nat) : RosterRec := t.roster.getD station RosterRec.empty

def Table.isPresent (t : Table) (station : Nat) : Bool := (t.rosterAt station).state == .present

/-- The channel that works a line: not IDLE, with that line (R104). -/
def State.worker (s : State) (line : Nat) : Option Nat :=
  s.dcs.findIdx? fun c => c.state != .idle && c.line == line

/-- R173: the unread-state-change flag set; attention follows at the same event. -/
def Tlu.markUnread (t : Tlu) : Tlu := { t with unread := true, attention := attentionOf t.tickets true }

/-- R23: a change of state sets the unread-state-change flag; an event that leaves the state as it was does not. -/
def State.enter (s : State) (st : StationState) : State :=
  if s.ssl.state = st then s
  else { s with ssl := { s.ssl with state := st }, tlu := s.tlu.markUnread }

end Sys2Proof.Machine
end

