-- ==== Sys2Proof/Machine/Outgoing.lean ====
section
/-! DEFINITION. The outgoing list of the BLU: offers, held offers, strikes, and what contention, a void and a take do to the
entry in transmission (R5, R9, R10, R12, R15 to R17). -/

namespace Sys2Proof.Machine

def Entry.class_ (e : Entry) : Nat := noticeClass e.notice

/-- A new entry: waiting, with no strike held. -/
def Entry.fresh (n : Notice) (owner : Owner) (fromTerminal : Bool) : Entry :=
  { notice := n, owner := owner, fromTerminal := fromTerminal, transmitting := false, strikeHeld := false, refill := false }

/-- R15: behind every entry of its own class and ahead of every entry of a higher-numbered class. -/
def insertEntry (e : Entry) : List Entry → List Entry
  | [] => [e]
  | x :: xs => if e.class_ < x.class_ then e :: x :: xs else x :: insertEntry e xs

/-- R16 (a): two CLAIMs for one line, or two MIX CLAIMs. -/
def clashes (n : Notice) (e : Entry) : Bool :=
  match n, e.notice with
  | .claim line _ _ _ _, .claim line' _ _ _ _ => line == line'
  | .mixClaim _ _ _, .mixClaim _ _ _ => true
  | _, _ => false

/-- R15, R16 (b): how many notices in the list came from terminal commands. -/
def terminalCount (l : List Entry) : Nat := l.countP fun e => e.fromTerminal

/-- R16: what became of an offer. -/
inductive OfferResult where
  | admitted | refused | held
  deriving DecidableEq, Repr

/-- R16 (a), (c), (d): an offer of a block other than the terminal link. The list and the held offers are searched for a
clash, so that an admitted held offer never makes a second claim of one kind (log entry 8). -/
def Blu.offer (b : Blu) (n : Notice) (owner : Owner) : Blu × OfferResult :=
  if (b.list ++ b.held).any (clashes n) then (b, .refused)
  else if 16 ≤ b.list.length then ({ b with held := b.held ++ [Entry.fresh n owner false] }, .held)
  else ({ b with list := insertEntry (Entry.fresh n owner false) b.list }, .admitted)

/-- R16 (b), (d): an offer from a terminal command; `none` when refused (the command is answered BUSY). -/
def Blu.offerTerminal (b : Blu) (n : Notice) : Option Blu :=
  if 4 ≤ terminalCount b.list ∨ 16 ≤ b.list.length then none
  else some { b with list := insertEntry (Entry.fresh n .terminal true) b.list }

/-- R16 (c): the held offer of lowest class, and of one class the one held longest, with the rest. -/
def takeLowest : List Entry → Option (Entry × List Entry)
  | [] => none
  | e :: es =>
    match takeLowest es with
    | none => some (e, [])
    | some (e', rest) => if e.class_ ≤ e'.class_ then some (e, es) else some (e', e :: rest)

/-- R16 (c): held offers admitted while the list has room, at most `n` of them. -/
def admitUpTo : Nat → List Entry → List Entry → List Entry × List Entry
  | 0, l, held => (l, held)
  | n + 1, l, held =>
    if l.length < 16 then
      match takeLowest held with
      | none => (l, held)
      | some (e, rest) => admitUpTo n (insertEntry e l) rest
    else (l, held)

/-- R16 (c): after entries have left the list. -/
def Blu.admitHeld (b : Blu) : Blu :=
  { b with list := (admitUpTo b.held.length b.list b.held).1, held := (admitUpTo b.held.length b.list b.held).2 }

/-- R17: one entry under a strike: a waiting one leaves, one in transmission has the strike held against it. -/
def strikeEntry (p : Entry → Bool) (e : Entry) : Option Entry :=
  if p e then (if e.transmitting then some { e with strikeHeld := true } else none) else some e

/-- R16, R17: the owner strikes what `p` picks, in the list and among the held offers; room is filled from the held. -/
def Blu.strike (b : Blu) (p : Entry → Bool) : Blu :=
  Blu.admitHeld { b with list := b.list.filterMap (strikeEntry p), held := b.held.filter fun e => !p e }

/-- The entry in transmission, if any. -/
def Blu.current (b : Blu) : Option Entry := b.list.find? fun e => e.transmitting

/-- R10 (a), R12, R13: the station's own notice is taken: it leaves the list, the void counter clears, and the turn is
spent if its class is 1, 2 or 3. (A class 0 notice offered meanwhile can stand ahead of it, log entry 7.) -/
def Blu.ownTaken (b : Blu) (n : Notice) : Blu :=
  Blu.admitHeld
    { b with
      list := b.list.filter fun e => !e.transmitting
      voids := 0
      objections := 0
      turnSpent := b.turnSpent || noticeClass n != 0 }

/-- R10 (b), (c): another station's notice is taken. -/
def Blu.otherTaken (b : Blu) : Blu := { b with turnSpent := false, objections := 0 }

/-- R5, R9, R17 (b): one entry when the notice in transmission is lost or void. -/
def backEntry (refill : Bool) (e : Entry) : Option Entry :=
  if e.transmitting then
    (if e.strikeHeld then none else some { e with transmitting := false, refill := e.refill || refill })
  else some e

/-- R5, R17 (b): the notice in transmission goes back to waiting, or is struck when a strike is held against it. -/
def Blu.backToWaiting (b : Blu) (refill : Bool) : Blu :=
  Blu.admitHeld { b with list := b.list.filterMap (backEntry refill) }

/-- R20: the BLU on leaving the bay; `listen` as given. -/
def Blu.cleared (b : Blu) (listen : Listen) : Blu :=
  { b with listen := listen, list := [], held := [], objections := 0, voids := 0, turnSpent := false, cursor := Cursor.empty }

/-- An offer of a block of this station. -/
def State.offer (s : State) (n : Notice) (owner : Owner) : State := { s with blu := (s.blu.offer n owner).1 }

/-- A strike by its owner. -/
def State.strike (s : State) (p : Entry → Bool) : State := { s with blu := s.blu.strike p }

/-- Entries of the station state logic of one kind. -/
def isOwnJoin (e : Entry) : Bool :=
  match e.notice with
  | .join _ _ _ => e.owner == .stationLogic
  | _ => false

def isOwnFormed (e : Entry) : Bool :=
  match e.notice with
  | .formed => e.owner == .stationLogic
  | _ => false

/-- R94: a REVOKE of this station for a holding. -/
def isRevokeOf (subject : HoldKey) (holder grant : Nat) (e : Entry) : Bool := e.notice == .revoke subject holder grant

/-- The CLAIM of a channel. -/
def isClaimOf (k : Nat) (e : Entry) : Bool :=
  match e.notice with
  | .claim _ _ _ _ _ => e.owner == .channel k
  | _ => false

/-- The order book's MIX CLAIM. -/
def isMixClaim (e : Entry) : Bool :=
  match e.notice with
  | .mixClaim _ _ _ => true
  | _ => false

/-- The image cursor's notice for a joiner. -/
def isImageFor (joiner : Nat) (e : Entry) : Bool :=
  match e.notice with
  | .image j _ => j == joiner && e.owner == .cursor
  | .imageEnd j _ _ => j == joiner && e.owner == .cursor
  | _ => false

/-- R33, R36: a re-JOIN of this station is queued or held. -/
def Blu.joinQueued (b : Blu) : Bool := (b.list ++ b.held).any isOwnJoin

end Sys2Proof.Machine
end

