-- ==== Sys2Proof/Machine/Grants.lean ====
section
/-! DEFINITION. Grant choice on a line (3.2) and in the mixer pool (4.3), and what a take on the bay table brings about
beside the table: holdings begun and ended, and tells. -/

namespace Sys2Proof.Machine

/-- R58: why a CLAIM is discarded. -/
inductive DiscardReason where
  | notEquipped | lineOut | duplicate | badField
  deriving DecidableEq, Repr

/-- R68: the tells about a line, the grant apart. `rush` of `claimWaits` is the rush as kept (R57), `granted` whether the grant
follows at the same take. -/
inductive LineTell where
  | claimWaits (rush : Rush) (granted : Bool)
  | claimDiscarded (reason : DiscardReason)
  | claimWithdrawn
  | withdrawDiscarded
  | releaseApplied (level : Nat)
  | releaseLate
  | releaseRefused
  | holdingEnded
  | claimRemoved
  deriving DecidableEq, Repr

/-- R72 (b), (c), (f): why a RUSH TAKE is refused. -/
inductive TokenRefusal where
  | noneFree | tagHolds | badField
  deriving DecidableEq, Repr

/-- R79: why a MIX CLAIM is discarded. -/
inductive MixDiscard where
  | duplicate | badField
  deriving DecidableEq, Repr

/-- R81: why a MIX RELEASE is refused. -/
inductive MixRefusal where
  | notEquipped | badField
  deriving DecidableEq, Repr

/-- R84: the tells to the order book, the grant apart. `rush` of `mixClaimWaits` is the rush as kept, `state` of
`mixReleaseApplied` the state that the release gives the mixer (log entry 47). -/
inductive BookTell where
  | tokenTaken (token : Rush)
  | tokenRefused (reason : TokenRefusal)
  | tokenDropped
  | dropDiscarded
  | mixClaimWaits (rush : Rush)
  | mixClaimDiscarded (reason : MixDiscard)
  | mixClaimWithdrawn
  | mixWithdrawDiscarded
  | mixReleaseApplied (state : MixerState)
  | mixReleaseLate
  | mixReleaseRefused (reason : MixRefusal)
  deriving DecidableEq, Repr

/-- What a take brings about beside the table, in the order in which it comes. -/
inductive Effect where
  | lineEnded (line : Nat) (h : Holder)
  | lineGranted (line : Nat) (h : Holder)
  | mixerEnded (mixer station grant : Nat)
  | mixerGranted (mixer station grant mixTime : Nat)
  | tellLine (line : Nat) (t : LineTell)
  | tellBook (t : BookTell)
  deriving DecidableEq, Repr

/-- Whether an effect ends a holding. -/
def Effect.ends (e : Effect) : Bool :=
  match e with
  | .lineEnded _ _ | .mixerEnded _ _ _ => true
  | .lineGranted _ _ | .mixerGranted _ _ _ _ | .tellLine _ _ | .tellBook _ => false

/-! ### A line (R49 to R54) -/

/-- R54: a claim that a grant passes. -/
def Claim.aged (c : Claim) : Claim :=
  if c.rush = .none then { c with passed := agedPassed c.passed, effective := agedLevel c.passed c.effective } else c

/-- R53: the holder record made from a claim. -/
def Claim.toHolder (c : Claim) (grant level : Nat) : Holder :=
  { station := c.station, grant := grant, askedShots := c.askedShots, askedDrops := c.askedDrops, rush := c.rush,
    levelAtGrant := level }

/-- R50, R51: the place of the best eligible claim. -/
def LineRec.best (reserve : Nat) (r : LineRec) : Option Nat :=
  bestPlace (r.waiting.map fun c => if eligible (lineLow reserve r) c.rush c.effective then some (c.rush, c.effective) else none)

/-- R53, R54: the grant of the claim at a place. -/
def LineRec.grantAt (r : LineRec) (i : Nat) (c : Claim) : LineRec :=
  { r with
    grant := (r.grant + 1) % 256
    holder := some (Claim.toHolder c ((r.grant + 1) % 256) r.level)
    waiting := (r.waiting.take i).map Claim.aged ++ r.waiting.drop (i + 1) }

/-- R49 to R53: grant choice on a line. -/
def LineRec.grantChoice (reserve : Nat) (r : LineRec) : LineRec :=
  if r.service = .inService ∧ r.holder = none then
    match LineRec.best reserve r with
    | none => r
    | some i =>
      match r.waiting[i]? with
      | none => r
      | some c => if c.askedDrops ≤ r.level then LineRec.grantAt r i c else r
  else r

/-- The grant that grant choice made on a line, given the record before it. -/
def grantMade (line : Nat) (before after : LineRec) : List Effect :=
  match before.holder, after.holder with
  | none, some h => [.lineGranted line h]
  | _, _ => []

/-! ### The pool (R76 to R78) -/

def MixClaim.aged (c : MixClaim) : MixClaim :=
  if c.rush = .none then { c with passed := agedPassed c.passed, effective := agedLevel c.passed c.effective } else c

/-- R77 (a): every claim is eligible. -/
def Pool.best (p : Pool) : Option Nat := bestPlace (p.waiting.map fun c => some (c.rush, c.effective))

/-- R77 (c), R78: the grant of mixer m to the claim at a place. -/
def Pool.grantAt (p : Pool) (m : Nat) (r : MixRec) (i : Nat) (c : MixClaim) : Pool :=
  { recs := p.recs.set m { state := .held, holder := some c.station, grant := (r.grant + 1) % 256, mixTime := some c.mixTime },
    waiting := (p.waiting.take i).map MixClaim.aged ++ p.waiting.drop (i + 1) }

/-- R77: pool grant choice, at most `n` grants, with the grants made in order. -/
def Pool.grantUpTo : Nat → Pool → Pool × List Effect
  | 0, p => (p, [])
  | n + 1, p =>
    match p.best, p.recs.findIdx? (fun r => r.state == .free) with
    | some i, some m =>
      match p.waiting[i]?, p.recs[m]? with
      | some c, some r =>
        ((Pool.grantUpTo n (p.grantAt m r i c)).1,
          .mixerGranted m c.station ((r.grant + 1) % 256) c.mixTime :: (Pool.grantUpTo n (p.grantAt m r i c)).2)
      | _, _ => (p, [])
    | _, _ => (p, [])

/-- R77: pool grant choice; each grant takes one FREE mixer, so there are at most as many as there are mixers. -/
def Pool.grantChoice (p : Pool) : Pool × List Effect := Pool.grantUpTo p.recs.length p

/-! ### A line and the pool in the table -/

/-- The record of an equipped line that is held and imaged. -/
def Table.line (t : Table) (n : Nat) : Option LineRec := (t.lines[n]?).join

def Table.setLine (t : Table) (n : Nat) (r : LineRec) : Table := { t with lines := t.lines.set n (some r) }

/-- Whether a line is at or beyond lines equipped, in a table that holds line records (R43). -/
def Table.unequipped (t : Table) (n : Nat) : Bool := t.lines.length ≤ n

/-- A take that touches line n and leaves record `r`: grant choice runs on it (R49). -/
def Table.touchLine (t : Table) (reserve n : Nat) (r : LineRec) : Table × List Effect :=
  (t.setLine n (LineRec.grantChoice reserve r), grantMade n r (LineRec.grantChoice reserve r))

/-- A take that touches the pool and leaves it `p`: pool grant choice runs on it (R76). -/
def Table.touchPool (t : Table) (p : Pool) : Table × List Effect :=
  ({ t with pool := some p.grantChoice.1 }, p.grantChoice.2)

/-- R73: whether the bay table shows a token held by a station, for whatever tag. -/
def Table.holdsToken (t : Table) (station : Nat) (token : Rush) : Bool :=
  match t.tokens, token with
  | some tk, .a => tk.a.any fun h => h.station == station
  | some tk, .b => tk.b.any fun h => h.station == station
  | _, _ => false

/-- R57, R79: the rush as kept at a claim's take. -/
def Table.keptRush (t : Table) (station : Nat) (rush : Rush) : Rush :=
  if t.holdsToken station rush then rush else .none

/-! ### The purge and the loss of a token (R55, R73, R98) -/

/-- R55: a waiting claim that carries a freed token loses its rush. -/
def loseRush (freed : Rush → Bool) (rush : Rush) : Rush := if rush != .none && freed rush then .none else rush

/-- R55, R67, R98: a line record under a purge of station S that frees tokens. -/
def LineRec.purge (S : Nat) (freed : Rush → Bool) (r : LineRec) : LineRec :=
  let kept := (r.waiting.filter fun c => c.station != S).map fun c => { c with rush := loseRush freed c.rush }
  match r.holder with
  | some h =>
    if h.station = S then { r with holder := none, level := r.level - h.askedDrops, waiting := kept }
    else { r with waiting := kept }
  | none => { r with waiting := kept }

/-- R83: the pool under a purge of station S that frees tokens. -/
def Pool.purge (S : Nat) (freed : Rush → Bool) (p : Pool) : Pool :=
  { recs := p.recs.map fun r =>
      if r.state == .held && r.holder == some S then { r with state := .out, holder := none, mixTime := none } else r,
    waiting := (p.waiting.filter fun c => c.station != S).map fun c => { c with rush := loseRush freed c.rush } }

/-- R98 (e): the tokens that a purge of S frees. -/
def Table.freedBy (t : Table) (S : Nat) (token : Rush) : Bool := t.holdsToken S token

def freeHolder (S : Nat) (h : Option TokenHolder) : Option TokenHolder :=
  match h with
  | some x => if x.station = S then none else some x
  | none => none

/-- R98 (a) to (f): the purge of station S, without the grant choice of (h); S becomes ABSENT. -/
def Table.strip (t : Table) (S : Nat) : Table :=
  { t with
    lines := t.lines.map (Option.map (LineRec.purge S (t.freedBy S)))
    pool := t.pool.map (Pool.purge S (t.freedBy S))
    tokens := t.tokens.map fun tk => { a := freeHolder S tk.a, b := freeHolder S tk.b }
    roster := t.roster.set S RosterRec.empty }

/-- The line holdings of S that a purge ends, lines numbered from `n`. -/
def lineHoldings (S : Nat) : Nat → List (Option LineRec) → List Effect
  | _, [] => []
  | n, r :: rs =>
    match r.bind LineRec.holder with
    | some h => if h.station = S then .lineEnded n h :: lineHoldings S (n + 1) rs else lineHoldings S (n + 1) rs
    | none => lineHoldings S (n + 1) rs

/-- The mixer holdings of S that a purge ends, mixers numbered from `m`. -/
def mixerHoldings (S : Nat) : Nat → List MixRec → List Effect
  | _, [] => []
  | m, r :: rs =>
    if r.state == .held && r.holder == some S then .mixerEnded m S r.grant :: mixerHoldings S (m + 1) rs
    else mixerHoldings S (m + 1) rs

/-- R98 (g): the holdings that a purge of S ends. -/
def Table.holdingsOf (t : Table) (S : Nat) : List Effect :=
  lineHoldings S 0 t.lines ++ (match t.pool with | some p => mixerHoldings S 0 p.recs | none => [])

/-- R98 (h): grant choice on each line that differs from the record before the take, lines numbered from `n`. -/
def regrantLines (reserve : Nat) : Nat → List (Option LineRec) → List (Option LineRec) → List (Option LineRec) × List Effect
  | n, old :: olds, some r :: rs =>
    let rest := regrantLines reserve (n + 1) olds rs
    if old = some r then (some r :: rest.1, rest.2)
    else (some (LineRec.grantChoice reserve r) :: rest.1, grantMade n r (LineRec.grantChoice reserve r) ++ rest.2)
  | n, _ :: olds, none :: rs =>
    let rest := regrantLines reserve (n + 1) olds rs
    (none :: rest.1, rest.2)
  | _, _, rs => (rs, [])

/-- R49, R76, R98 (h): grant choice on every line and on the pool that the take touched. Each touch that a purge or a
freed token makes changes the record, so a line or pool is touched when it differs from the one before the take. -/
def Table.regrant (reserve : Nat) (before t : Table) : Table × List Effect :=
  let ls := regrantLines reserve 0 before.lines t.lines
  match t.pool with
  | some p =>
    if before.pool = some p then ({ t with lines := ls.1 }, ls.2)
    else ({ t with lines := ls.1, pool := some p.grantChoice.1 }, ls.2 ++ p.grantChoice.2)
  | none => ({ t with lines := ls.1 }, ls.2)

/-- R98: the purge of one station as one event. -/
def Table.purge (reserve : Nat) (t : Table) (S : Nat) : Table × List Effect :=
  let g := Table.regrant reserve t (t.strip S)
  (g.1, t.holdingsOf S ++ g.2)

end Sys2Proof.Machine
end

