-- ==== Sys2Proof/Machine/Records.lean ====
section
/-! DEFINITION. What each take does to the bay table, and what it brings about beside it (2.3, 2.4, 3.3, 4.1, 4.4, 5.3,
5.4). `me` is the own station number: only this station's tells are given. A subject that is not imaged takes no part. -/

namespace Sys2Proof.Machine

/-- A table unchanged, with nothing brought about. -/
def Table.same (t : Table) : Table × List Effect := (t, [])

/-- A tell about a line to the station it concerns. -/
def tellIf (me station line : Nat) (tell : LineTell) : List Effect := if station = me then [.tellLine line tell] else []

/-- A tell to the order book of the station it concerns. -/
def bookIf (me station : Nat) (tell : BookTell) : List Effect := if station = me then [.tellBook tell] else []

/-! ### Lines (3.3) -/

/-- R57 (d): the fields of a CLAIM. -/
def claimFieldsOk (shots drops level rush : Nat) : Bool :=
  inRange 1 63 shots && inRange 1 16383 drops && level ≤ 2 && (rushOfCode rush).isSome

/-- R57: the claim as appended. -/
def Table.newClaim (t : Table) (sender shots drops level rush : Nat) : Claim :=
  { station := sender, askedShots := shots, askedDrops := drops, requested := level, effective := level, passed := 0,
    rush := t.keptRush sender ((rushOfCode rush).getD .none) }

/-- R57 (c): the sender holds the line or waits on it. -/
def LineRec.has (sender : Nat) (r : LineRec) : Bool :=
  r.holder.any (fun h => h.station == sender) || r.waiting.any fun c => c.station == sender

def isGrantTo (station : Nat) (e : Effect) : Bool :=
  match e with
  | .lineGranted _ h => h.station == station
  | _ => false

/-- R56 to R58: a CLAIM. The reasons are judged in the order of the table of R58 (log entry 14). -/
def Table.claim (reserve me : Nat) (t : Table) (sender line shots drops level rush : Nat) : Table × List Effect :=
  if !t.isPresent sender then t.same
  else if t.unequipped line then (t, tellIf me sender line (.claimDiscarded .notEquipped))
  else
    match t.line line with
    | none => t.same
    | some r =>
      if r.service = .out then (t, tellIf me sender line (.claimDiscarded .lineOut))
      else if LineRec.has sender r then (t, tellIf me sender line (.claimDiscarded .duplicate))
      else if !claimFieldsOk shots drops level rush then (t, tellIf me sender line (.claimDiscarded .badField))
      else
        let g := t.touchLine reserve line { r with waiting := r.waiting ++ [t.newClaim sender shots drops level rush] }
        (g.1,
          tellIf me sender line
              (.claimWaits (t.keptRush sender ((rushOfCode rush).getD .none)) (g.2.any (isGrantTo sender)))
            ++ g.2)

/-- R56, R59: a WITHDRAW. One naming an unequipped line is told as discarded (log entry 31). -/
def Table.withdraw (reserve me : Nat) (t : Table) (sender line : Nat) : Table × List Effect :=
  if !t.isPresent sender then t.same
  else if t.unequipped line then (t, tellIf me sender line .withdrawDiscarded)
  else
    match t.line line with
    | none => t.same
    | some r =>
      if r.waiting.any (fun c => c.station == sender) then
        let g := t.touchLine reserve line { r with waiting := r.waiting.filter fun c => c.station != sender }
        (g.1, tellIf me sender line .claimWithdrawn ++ g.2)
      else (t, tellIf me sender line .withdrawDiscarded)

/-- R60: whether a RELEASE matches the holding of the line. -/
def releaseMatches (sender grant : Nat) (h : Holder) : Bool := h.station == sender && h.grant == grant

/-- R65 (a) to (c): the LINE OUT effect on a line record. -/
def LineRec.out (r : LineRec) : LineRec := { r with service := .out, level := 0, holder := none, waiting := [] }

/-- R61, R62, R63: the line record after a RELEASE that applies, before grant choice. -/
def LineRec.released (r : LineRec) (drops : Nat) : LineOutcome → LineRec
  | .good => { r with holder := none, level := r.level - drops }
  | .short => { r with holder := none, level := 0 }
  | .runaway => LineRec.out r

/-- R63, R65: the tell to this station when a line goes OUT while its claim waits there. -/
def removedTell (me line : Nat) (r : LineRec) : List Effect :=
  if r.waiting.any fun c => c.station == me then [.tellLine line .claimRemoved] else []

/-- R60 to R63: a RELEASE. A bad field is judged before lateness (log entry 14); one naming an unequipped line is told as
late (log entry 31). -/
def Table.release (reserve me : Nat) (t : Table) (sender line grant drops outcome : Nat) : Table × List Effect :=
  if !t.isPresent sender then t.same
  else if t.unequipped line then (t, tellIf me sender line .releaseLate)
  else
    match t.line line with
    | none => t.same
    | some r =>
      match lineOutcomeOfCode outcome, r.holder with
      | none, _ => (t, tellIf me sender line .releaseRefused)
      | some o, h =>
        if 16383 < drops then (t, tellIf me sender line .releaseRefused)
        else
          match h with
          | none => (t, tellIf me sender line .releaseLate)
          | some h =>
            if releaseMatches sender grant h then
              let g := t.touchLine reserve line (LineRec.released r drops o)
              (g.1,
                .lineEnded line h :: tellIf me sender line (.releaseApplied (LineRec.released r drops o).level)
                  ++ (if o = .runaway then removedTell me line r else []) ++ g.2)
            else (t, tellIf me sender line .releaseLate)

/-- R64: a REFILL. -/
def Table.refill (reserve : Nat) (t : Table) (sender line level : Nat) : Table × List Effect :=
  if !t.isPresent sender || t.unequipped line || 16777215 < level then t.same
  else
    match t.line line with
    | none => t.same
    | some r => if r.service = .out then t.same else t.touchLine reserve line { r with level := level }

/-- R65: a LINE OUT. -/
def Table.lineOut (me : Nat) (t : Table) (sender line : Nat) : Table × List Effect :=
  if !t.isPresent sender || t.unequipped line then t.same
  else
    match t.line line with
    | none => t.same
    | some r =>
      if r.service = .out then t.same
      else
        (t.setLine line (LineRec.out r),
          (match r.holder with
            | some h => .lineEnded line h :: tellIf me h.station line .holdingEnded
            | none => [])
            ++ removedTell me line r)

/-- R66: a LINE RETURN. -/
def Table.lineReturn (reserve : Nat) (t : Table) (sender line level : Nat) : Table × List Effect :=
  if !t.isPresent sender || t.unequipped line || 16777215 < level then t.same
  else
    match t.line line with
    | none => t.same
    | some r => if r.service = .out then t.touchLine reserve line { r with service := .inService, level := level } else t.same

/-! ### Tokens (4.1) -/

/-- R72 (c): the sender holds a token for this tag. -/
def Tokens.heldFor (tk : Tokens) (sender tag : Nat) : Bool :=
  tk.a == some { station := sender, tag := tag } || tk.b == some { station := sender, tag := tag }

/-- R72: a RUSH TAKE. -/
def Table.rushTake (me : Nat) (t : Table) (sender tag : Nat) : Table × List Effect :=
  if !t.isPresent sender then t.same
  else
    match t.tokens with
    | none => t.same
    | some tk =>
      if !inRange 1 65535 tag then (t, bookIf me sender (.tokenRefused .badField))
      else if tk.heldFor sender tag then (t, bookIf me sender (.tokenRefused .tagHolds))
      else if tk.a = none then
        ({ t with tokens := some { tk with a := some { station := sender, tag := tag } } }, bookIf me sender (.tokenTaken .a))
      else if tk.b = none then
        ({ t with tokens := some { tk with b := some { station := sender, tag := tag } } }, bookIf me sender (.tokenTaken .b))
      else (t, bookIf me sender (.tokenRefused .noneFree))

/-- R55, R73: a freed token and the waiting claims that carried it, before grant choice. -/
def Table.freeToken (t : Table) (token : Rush) : Table :=
  { t with
    tokens := t.tokens.map fun tk =>
      match token with
      | .a => { tk with a := none }
      | .b => { tk with b := none }
      | .none => tk
    lines := t.lines.map (Option.map fun r =>
      { r with waiting := r.waiting.map fun c => { c with rush := loseRush (· == token) c.rush } })
    pool := t.pool.map fun p => { p with waiting := p.waiting.map fun c => { c with rush := loseRush (· == token) c.rush } } }

/-- R73: a RUSH DROP. -/
def Table.rushDrop (reserve me : Nat) (t : Table) (sender token : Nat) : Table × List Effect :=
  if !t.isPresent sender then t.same
  else
    match tokenOfCode token with
    | none => (t, bookIf me sender .dropDiscarded)
    | some tok =>
      if t.holdsToken sender tok then
        let g := Table.regrant reserve t (t.freeToken tok)
        (g.1, bookIf me sender .tokenDropped ++ g.2)
      else (t, bookIf me sender .dropDiscarded)

/-! ### The pool (4.4) -/

/-- R79: a MIX CLAIM. One that is a duplicate and has a bad field too is told as a duplicate (log entry 14). -/
def Table.mixClaim (me : Nat) (t : Table) (sender time level rush : Nat) : Table × List Effect :=
  if !t.isPresent sender then t.same
  else
    match t.pool with
    | none => t.same
    | some p =>
      if p.waiting.any (fun c => c.station == sender) then (t, bookIf me sender (.mixClaimDiscarded .duplicate))
      else if !(inRange 10 300 time && level ≤ 2 && (rushOfCode rush).isSome) then
        (t, bookIf me sender (.mixClaimDiscarded .badField))
      else
        let c : MixClaim :=
          { station := sender, mixTime := time, requested := level, effective := level, passed := 0,
            rush := t.keptRush sender ((rushOfCode rush).getD .none) }
        let g := t.touchPool { p with waiting := p.waiting ++ [c] }
        (g.1, bookIf me sender (.mixClaimWaits c.rush) ++ g.2)

/-- R80: a MIX WITHDRAW. -/
def Table.mixWithdraw (me : Nat) (t : Table) (sender : Nat) : Table × List Effect :=
  if !t.isPresent sender then t.same
  else
    match t.pool with
    | none => t.same
    | some p =>
      if p.waiting.any (fun c => c.station == sender) then
        let g := t.touchPool { p with waiting := p.waiting.filter fun c => c.station != sender }
        (g.1, bookIf me sender .mixClaimWithdrawn ++ g.2)
      else (t, bookIf me sender .mixWithdrawDiscarded)

/-- R81: the state of a mixer after a MIX RELEASE that applies. -/
def mixerAfter : MixOutcome → MixerState
  | .done => .free
  | .fault => .out
  | .blocked => .out

/-- R81: whether a MIX RELEASE or a REVOKE matches the holding of a mixer. -/
def mixerMatches (station grant : Nat) (r : MixRec) : Bool :=
  r.state == .held && r.holder == some station && r.grant == grant

/-- R81: a MIX RELEASE. The unequipped mixer is judged before the outcome, as R81 names them (log entry 14). The tell carries the
state that the outcome gives the mixer, as the worked sequence of 4.6 has it, though a grant at this take make it HELD again (log
entry 47). -/
def Table.mixRelease (me : Nat) (t : Table) (sender mixer grant outcome : Nat) : Table × List Effect :=
  if !t.isPresent sender then t.same
  else
    match t.pool with
    | none => t.same
    | some p =>
      match p.recs[mixer]?, mixOutcomeOfCode outcome with
      | none, _ => (t, bookIf me sender (.mixReleaseRefused .notEquipped))
      | some _, none => (t, bookIf me sender (.mixReleaseRefused .badField))
      | some r, some o =>
        if mixerMatches sender grant r then
          let g := t.touchPool
            { p with recs := p.recs.set mixer { r with state := mixerAfter o, holder := none, mixTime := none } }
          (g.1, .mixerEnded mixer sender grant :: bookIf me sender (.mixReleaseApplied (mixerAfter o)) ++ g.2)
        else (t, bookIf me sender .mixReleaseLate)

/-- R82: a MIXER RETURN. -/
def Table.mixerReturn (t : Table) (sender mixer : Nat) : Table × List Effect :=
  if !t.isPresent sender then t.same
  else
    match t.pool with
    | none => t.same
    | some p =>
      match p.recs[mixer]? with
      | none => t.same
      | some r =>
        if r.state = .out then t.touchPool { p with recs := p.recs.set mixer { r with state := .free } } else t.same

/-! ### Revocation, departure and late joins (2.3 to 2.5, 5.3, 5.4) -/

/-- R95 (b), (c): whether a REVOKE matches, in a bay with this many mixers equipped. At a joiner a subject not yet imaged cannot
be compared; the holder of a holding stands PRESENT, so the REVOKE is taken to match when the holder does (log entry 11). -/
def Table.revokeMatches (mixersEquipped : Nat) (t : Table) (subject : HoldKey) (holder grant : Nat) : Bool :=
  match subject with
  | .line n =>
    if t.unequipped n then false
    else
      match t.line n with
      | some r => r.holder.any (releaseMatches holder grant)
      | none => t.isPresent holder
  | .mixer m =>
    if mixersEquipped ≤ m then false
    else
      match t.pool with
      | some p => (p.recs[m]?).any (mixerMatches holder grant)
      | none => t.isPresent holder

/-- R95: a REVOKE. -/
def Table.revoke (reserve mixersEquipped : Nat) (t : Table) (sender : Nat) (subject : HoldKey) (holder grant : Nat) :
    Table × List Effect :=
  if !t.isPresent sender || 15 < holder || 255 < grant then t.same
  else if t.revokeMatches mixersEquipped subject holder grant then t.purge reserve holder
  else t.same

/-- R38: a LEAVE, at a station other than its sender. -/
def Table.leave (reserve : Nat) (t : Table) (sender : Nat) : Table × List Effect :=
  if t.isPresent sender then t.purge reserve sender else t.same

/-- R31 (c): the lowest-numbered PRESENT station other than the joiner. -/
def Table.chooseGiver (t : Table) (joiner : Nat) : Option Nat :=
  (List.range 16).find? fun s => s != joiner && t.isPresent s

def Table.setRoster (t : Table) (station : Nat) (r : RosterRec) : Table := { t with roster := t.roster.set station r }

/-- What a late JOIN or a silent-giver report leaves: the table, what it brings about, and the joiner's giver. -/
structure Given where
  table : Table
  effects : List Effect
  giver : Option Nat
  deriving DecidableEq, Repr

/-- R31 (b): the silent giver to purge, if any; `before` is the sender's record before the take. -/
def Table.silentGiver (t : Table) (sender : Nat) (before : RosterRec) (named : Option Nat) : Option Nat :=
  match named with
  | some S => if S ≠ sender ∧ t.isPresent S then some S else none
  | none =>
    if before.state = .joining ∧ !before.imageMark then
      match before.giver with
      | some g => if t.isPresent g then some g else none
      | none => none
    else none

/-- R98 without grant choice, where there is a station to purge. -/
def Table.stripOpt (t : Table) : Option Nat → Table
  | some S => t.strip S
  | none => t

def Table.holdingsOpt (t : Table) : Option Nat → List Effect
  | some S => t.holdingsOf S
  | none => []

/-- R31 (a): the sender of a late JOIN purged if it stands PRESENT or JOINING, and then JOINING. -/
def Table.lateSender (t : Table) (sender : Nat) : Table :=
  (if (t.rosterAt sender).state = .absent then t else t.strip sender).setRoster sender
    { state := .joining, giver := none, imageMark := false }

/-- R31 (d): whether a JOIN's digest agrees with the bay digest. -/
def Table.digestAgrees (t : Table) (digest : Nat) : Bool := t.digest == some digest

/-- R31 (d): the result held for a station. -/
def Table.joinResult (t : Table) (station : Nat) : Option Bool := t.joinResults.getD station none

/-- R31 (d): the result of a station's late JOIN, held for a later giver. -/
def Table.setJoinResult (t : Table) (station : Nat) (accepted : Bool) : Table :=
  { t with joinResults := t.joinResults.set station (some accepted) }

/-- R30: the result with which a giver chosen at a silent-giver report takes the joiner: that of R31 (d) at its JOIN. With none held
it is ACCEPTED, since R30 has the new giver queue the image at this take (log entry 10). -/
def Table.reportedResult (t : Table) (station : Nat) : Bool := (t.joinResult station).getD true

/-- R31 (a) to (d), R98, R99: a JOIN applied as a late join. Grant choice runs once, after both purges. -/
def Table.lateJoin (reserve : Nat) (t : Table) (sender digest : Nat) (silent : Option Nat) : Given :=
  let before := t.rosterAt sender
  let joined := t.lateSender sender
  let victim := joined.silentGiver sender before silent
  let stripped := joined.stripOpt victim
  let giver := stripped.chooseGiver sender
  let made := stripped.setRoster sender { state := .joining, giver := giver, imageMark := false }
  let g := Table.regrant reserve t (made.setJoinResult sender (t.digestAgrees digest))
  { table := g.1,
    effects := (if before.state = .absent then [] else t.holdingsOf sender) ++ joined.holdingsOpt victim ++ g.2,
    giver := giver }

/-- R30: whether a FORMED's sender stands JOINING with a recorded giver that is PRESENT and a clear image mark. -/
def Table.reportedGiver (t : Table) (sender : Nat) : Option Nat :=
  if (t.rosterAt sender).state = .joining ∧ !(t.rosterAt sender).imageMark then
    match (t.rosterAt sender).giver with
    | some g => if t.isPresent g then some g else none
    | none => none
  else none

/-- R30: a FORMED from a JOINING sender: its recorded giver is purged and a new one chosen. -/
def Table.silentReport (reserve : Nat) (t : Table) (sender giver : Nat) : Given :=
  let stripped := t.strip giver
  let next := stripped.chooseGiver sender
  let g := Table.regrant reserve t (stripped.setRoster sender { state := .joining, giver := next, imageMark := false })
  { table := g.1, effects := t.holdingsOf giver ++ g.2, giver := next }

/-- R33 (d): the image mark of a joiner standing JOINING. -/
def Table.markImage (t : Table) (joiner : Nat) : Table :=
  if (t.rosterAt joiner).state = .joining then t.setRoster joiner { t.rosterAt joiner with imageMark := true } else t

/-- R35: an IMAGE END at a station that applies roster takes. -/
def Table.imageEnd (t : Table) (joiner : Nat) (accepted : Bool) : Table :=
  if (t.rosterAt joiner).state = .joining then
    t.setRoster joiner (if accepted then { state := .present, giver := none, imageMark := false } else RosterRec.empty)
  else t

/-- R26, R33 (d): the image mark by an IMAGE of this sender; a non-member's is discarded. -/
def Table.markImageFrom (t : Table) (sender joiner : Nat) : Table :=
  if t.isPresent sender then t.markImage joiner else t

/-- R26, R33 (d), R35: an IMAGE END of this sender at a station that applies roster takes: the image mark, and what the result
does to the joiner's record. A non-member's is discarded; a result outside its range changes the mark alone (log entry 13). -/
def Table.imageEndFrom (t : Table) (sender joiner result : Nat) : Table :=
  if t.isPresent sender then
    match imageResultOfCode result with
    | some accepted => (t.markImage joiner).imageEnd joiner accepted
    | none => t.markImage joiner
  else t

/-! ### Formation and the joiner's table (2.3, 2.4) -/

/-- R27: a JOIN applied as a formation join. -/
def Table.formationJoin (t : Table) (sender digest : Nat) : Table :=
  match t.digest with
  | none => { t.setRoster sender { state := .present, giver := none, imageMark := false } with digest := some digest }
  | some d =>
    if d = digest then t.setRoster sender { state := .present, giver := none, imageMark := false }
    else t.setRoster sender RosterRec.empty

/-- R27, R29: the table shows formation open. -/
def Table.formationOpen (t : Table) : Bool := t.digest.isSome && !t.formed

/-- R43: a line record as built at the FORMED take. -/
def LineRec.built : LineRec := { service := .inService, level := 0, grant := 0, holder := none, waiting := [] }

/-- R74: a mixer record as built at the FORMED take. -/
def MixRec.built : MixRec := { state := .free, holder := none, grant := 0, mixTime := none }

/-- R29 (a): the table built at the FORMED take. -/
def Table.built (t : Table) (bay : BayConst) : Table :=
  { t with
    formed := true
    bayCount := some 0
    lines := List.replicate bay.linesEquipped (some LineRec.built)
    pool := some { recs := List.replicate bay.mixersEquipped MixRec.built, waiting := [] }
    tokens := some { a := none, b := none } }

/-- R32: the table of a late joiner, with nothing imaged. -/
def Table.joiner (digest linesEquipped : Nat) : Table :=
  { Table.empty with digest := some digest, formed := true, bayCount := none, lines := List.replicate linesEquipped none }

/-- R33 (a): an IMAGE applied at the joiner named. -/
def Table.applyImage (t : Table) : Image → Table
  | .rosterTokens roster a b => { t with roster := roster, tokens := some { a := a, b := b } }
  | .mixers recs waiting => { t with pool := some { recs := recs, waiting := waiting } }
  | .line n record => t.setLine n record

/-- R14: the bay count after a take delivered to the bay table; a joiner keeps none. -/
def Table.counted (t : Table) : Table := { t with bayCount := t.bayCount.map fun n => (n + 1) % 65536 }

end Sys2Proof.Machine
end

