-- ==== Sys2Proof/Machine/Dosing.lean ====
section
/-! DEFINITION. A dose channel with its metering pair: plans, claims, shots, captures, releases, stops and cuts (chapters 6
and 7), and the channel's report to the order book. -/

namespace Sys2Proof.Machine

/-! ### Plans and widths (R106, R110) -/

/-- R106 (a), (b): the plan of what remains. -/
def planOf (remaining shotSize : Nat) : Plan :=
  { full := remaining / shotSize, trim := remaining % shotSize,
    planned := remaining / shotSize + (if remaining % shotSize = 0 then 0 else 1) }

/-- R106 (c): the asked shots of a plan. -/
def askedShotsOf (mode : Mode) (shareBlock : Nat) (p : Plan) : Nat :=
  match mode with
  | .single => 1
  | .block => min p.planned shareBlock
  | .whole => min p.planned 63

/-- R106 (d), (e): the asked drops, the sum of the planned drops of the first asked shots. -/
def askedDropsOf (shotSize asked : Nat) (p : Plan) : Nat :=
  if p.trim ≠ 0 ∧ asked = p.planned then p.full * shotSize + p.trim else asked * shotSize

/-- R106 (d): whether the shot after `done` shots of a plan is its trim shot. -/
def Plan.isTrim (p : Plan) (done : Nat) : Bool := p.trim != 0 && done + 1 == p.planned

/-- R110: a width in ticks, rounded to the nearest tick with halves up, and at least 1. -/
def widthOf (fullWidth planned shotSize : Nat) : Nat := max 1 ((2 * fullWidth * planned + shotSize) / (2 * shotSize))

/-- R110: the trim corrected for the balance, within 1..shot size. -/
def correctedTrim (trim : Nat) (balance : Int) (shotSize : Nat) : Nat :=
  (max 1 (min (shotSize : Int) ((trim : Int) - balance))).toNat

/-- The planned drops of the shot after `done` shots of the grant (R106 (d), R110). -/
def Channel.plannedDrops (c : Channel) (shotSize done : Nat) : Nat := if c.plan.isTrim done then c.trimNow else shotSize

/-- R113: the tolerance of an entry. -/
def toleranceOf (ordered : Nat) : Nat := 2 + ordered / 256

/-- R113: the entry end test: the pending result, and the trims used. -/
def Channel.endTest (c : Channel) : Channel :=
  if c.ordered + toleranceOf c.ordered < c.delivered then { c with result := .failed .over }
  else if c.delivered + toleranceOf c.ordered < c.ordered then
    (if 2 ≤ c.trimsUsed then { c with result := .failed .under } else { c with trimsUsed := c.trimsUsed + 1, result := .goOn })
  else { c with result := .done }

/-! ### The metering pair (chapter 7) -/

/-- R126: the pair takes up a grant with a settle delay in ms above 0. -/
def Pair.settleStart (p : Pair) (delay : Nat) : Pair :=
  { p with
    pump := true, settleTimer := some delay, periodTimer := none, valveTimer := none, valve := false, phase := .settle }

/-- R128: a period start. -/
def Pair.periodStart (p : Pair) (shotPeriod : Nat) : Pair :=
  { p with
    pump := true, settleTimer := none, periodTimer := some shotPeriod, valveTimer := some p.nextWidth, valve := true,
    phase := .opened }

/-- R129: the valve timer's expiry. -/
def Pair.valveClose (p : Pair) : Pair := { p with valve := false, valveTimer := none, phase := .closed }

/-- R130 (e), R132: a stand-down. -/
def Pair.standDown (p : Pair) : Pair :=
  { p with
    pump := false, valve := false, settleTimer := none, periodTimer := none, valveTimer := none, phase := .stopped }

/-- R131, R132: a cut; with `lineOut` the pump request goes at once. -/
def Pair.cut (lineOut : Bool) (p : Pair) : Pair :=
  match p.phase with
  | .stopped => p
  | .settle => p.standDown
  | .opened | .closed | .drain =>
    { p with valve := false, valveTimer := none, phase := .drain, pump := p.pump && !lineOut }

/-- R130 (a), (b): the capture itself. -/
def Pair.capture (p : Pair) : Pair :=
  { p with lastShot := p.counter, lastOverflow := p.overflow, counter := 0, overflow := false }

/-- R111: the drops counted at a capture. -/
def Pair.counted (p : Pair) : Nat := if p.overflow then 4096 else p.counter

/-- R124: the pair is bound at a hand-over. -/
def Pair.bind (line : Nat) (p : Pair) : Pair := { p with bound := some line, counter := 0, overflow := false }

/-- R124: the pair is unbound as its channel returns to IDLE. -/
def Pair.unbind (p : Pair) : Pair := { p with bound := none, counter := 0, overflow := false }

/-- R125: a pulse of the bound line's tap meter. -/
def Pair.pulse (p : Pair) : Pair :=
  if p.counter = 4095 then { p with counter := 0, overflow := true } else { p with counter := p.counter + 1 }

/-! ### The notices of a channel -/

/-- R107, R142: the rush that the order book shows for a slot. -/
def Book.rushOf (b : Book) (slot : Nat) : Rush :=
  match b.request with
  | .held token s => if s = slot then token else .none
  | _ => .none

/-- R107: the level that an order in a slot claims at. -/
def State.levelOf (s : State) (slot : Nat) : Nat := ((s.order slot).map fun o => o.priority.level).getD 0

/-- R107: the CLAIM of channel k, as filled now. -/
def State.claimNotice (s : State) (k : Nat) : Notice :=
  let c := s.dc k
  let lc := s.lineConst c.line
  let asked := askedShotsOf c.mode lc.shareBlock c.plan
  .claim c.line asked (askedDropsOf lc.shotSize asked c.plan) (s.levelOf c.slot) (rushCode (s.obu.rushOf c.slot))

/-- R112: the RELEASE of channel k, its drops held to at most 16,383. -/
def State.releaseNotice (s : State) (k drops : Nat) (o : LineOutcome) : Notice :=
  .release (s.dc k).line (s.dc k).grant.number (min 16383 drops) (lineOutcomeCode o)

/-! ### Reports (R104, R143, R144) -/

/-- R104, R124: the channel reports: its entry's result is written, and channel and pair return to rest. -/
def State.writeReport (s : State) (k : Nat) (outcome : EntryOutcome) : State :=
  let c := s.dc k
  (((s.modOrder c.slot fun o => { o with results := o.results.set c.entry { outcome := outcome, delivered := c.delivered } }).modDc
    k fun _ => Channel.idle).modMp k fun p => (Pair.standDown p).unbind)

/-- R118: the stop, at channel k. -/
def State.stopChannel (s : State) (k : Nat) : State :=
  match (s.dc k).state with
  | .idle | .withdrawing => s
  | .claiming =>
    if s.blu.current.any (isClaimOf k) then (s.strike (isClaimOf k)).modDc k fun c => { c with withdrawPending := true }
    else (s.strike (isClaimOf k)).writeReport k (.failed .stopped)
  | .waiting => (s.offer (.withdraw (s.dc k).line) (.channel k)).modDc k fun c => { c with state := .withdrawing }
  | .settling =>
    ((s.offer (s.releaseNotice k 0 .good) (.channel k)).modMp k Pair.standDown).modDc k fun c =>
      { c with state := .releasing, result := .failed .stopped }
  | .shooting =>
    match (s.dc k).stopCause with
    | .none => (s.modMp k (Pair.cut false)).modDc k fun c => { c with stopCause := .stopped }
    | .ownLimit => s.modDc k fun c => { c with stopCause := .stopped }
    | .stopped | .lineOut | .detached => s
  | .releasing =>
    match (s.dc k).result with
    | .goOn => (s.strike (isClaimOf k)).modDc k fun c => { c with result := .failed .stopped }
    | .none | .done | .failed _ => s

/-- Whether channel k is busy with the order in a slot. -/
def State.worksFor (s : State) (slot k : Nat) : Bool := (s.dc k).state != .idle && (s.dc k).slot == slot

/-- R118: whether the stop of channel k strikes its CLAIM. -/
def State.stopStrikes (s : State) (k : Nat) : Bool :=
  (s.dc k).state == .claiming || (s.dc k).state == .releasing && (s.dc k).result == .goOn

/-- R144: a stop to each channel picked of those that are busy with the order's entries, lowest first. -/
def State.stopThose (s : State) (slot : Nat) (pick : State → Nat → Bool) : State :=
  [0, 1, 2, 3].foldl (fun s k => if s.worksFor slot k && pick s k then s.stopChannel k else s) s

/-- R144: a stop to every busy channel that works the order's entries. The strikes come first, for an entry that leaves the list
has the held offers admitted before any offer of this event is judged (R16 (c)). -/
def State.stopChannels (s : State) (slot : Nat) : State :=
  (s.stopThose slot State.stopStrikes).stopThose slot fun s k => !s.stopStrikes k

/-- R144 (a): the ticket reason of a channel's failure; `stopped` and `detached` put no order into stopping. -/
def stoppingReason : FailReason → Option OrderReason
  | .lineOut => some .lineOut
  | .over => some .over
  | .under => some .under
  | .runaway => some .runaway
  | .detached => none
  | .stopped => none

/-- R144: the order becomes stopping with a reason, unless it is stopping already. That its outcome and reason stay absent until it
enters REJECT is the model's reading (log entry 39). -/
def State.stopOrder (s : State) (slot : Nat) (reason : OrderReason) : State :=
  match s.order slot with
  | none => s
  | some o =>
    match o.stopping with
    | some _ => s
    | none => (s.modOrder slot fun o => { o with stopping := some reason }).stopChannels slot

/-- R104, R143, R144: a channel's report and what the order makes of it. -/
def State.report (s : State) (k : Nat) (outcome : EntryOutcome) : State :=
  match outcome with
  | .failed r =>
    match stoppingReason r with
    | some reason => (s.writeReport k outcome).stopOrder (s.dc k).slot reason
    | none => s.writeReport k outcome
  | _ => s.writeReport k outcome

/-! ### Claims and grants -/

/-- R106: the channel plans afresh from what remains. -/
def Channel.replan (shotSize : Nat) (c : Channel) : Channel := { c with plan := planOf (c.ordered - c.delivered) shotSize }

/-- R107, R112: the channel plans and offers its CLAIM, and enters the state given; refused at once, its entry fails. -/
def State.offerClaim (s : State) (k : Nat) (st : ChannelState) : State :=
  let planned := s.modDc k (Channel.replan (s.lineConst (s.dc k).line).shotSize)
  match planned.blu.offer (planned.claimNotice k) (.channel k) with
  | (_, .refused) => planned.report k (.failed .lineOut)
  | (b, _) => { planned with blu := b }.modDc k fun c => { c with state := st }

/-- R105, R124: an entry handed to channel k. -/
def State.handOver (s : State) (k slot entry : Nat) (e : DoseEntry) : State :=
  ((s.modDc k fun _ =>
    { Channel.idle with line := e.line, slot := slot, entry := entry, ordered := e.drops, mode := e.mode }).modMp k
      (Pair.bind e.line)).offerClaim k .claiming

/-- R112, R115 to R118: the grant is over: the pair stands down, the RELEASE is offered, and by the pending result a fresh
plan is claimed behind it. -/
def State.giveBack (s : State) (k drops : Nat) (o : LineOutcome) : State :=
  let s1 :=
    ((s.offer (s.releaseNotice k drops o) (.channel k)).modMp k Pair.standDown).modDc k fun c =>
      { c with state := .releasing, stopCause := .none }
  if (s.dc k).result = .goOn then s1.offerClaim k .releasing else s1

/-- R110: the width of the next shot of the grant is written, with the trim corrected for the balance as it stands. -/
def State.writeWidth (s : State) (k next : Nat) : State :=
  let c := s.dc k
  let size := (s.lineConst c.line).shotSize
  let c' := if c.plan.isTrim next then { c with trimNow := correctedTrim c.plan.trim c.balance size } else c
  (s.modDc k fun _ => c').modMp k fun p =>
    { p with nextWidth := widthOf (s.lineCal c.line).shotWidth (c'.plannedDrops size next) size }

/-- R127, R128: a period start, and the width of the following shot of the grant, if it has one. -/
def State.periodStart (s : State) (k : Nat) : State :=
  let c := s.dc k
  let s1 :=
    (s.modMp k fun p => p.periodStart (s.lineCal c.line).shotPeriod).modDc k fun c => { c with state := .shooting }
  if c.grant.shotsDone + 1 < c.grant.askedShots then s1.writeWidth k (c.grant.shotsDone + 1) else s1

/-- R109, R126: a grant begins the dose. The granted flag is set and cleared at this one event. -/
def State.beginDose (s : State) (k grant shots drops : Nat) : State :=
  let s1 :=
    (s.modDc k fun c =>
      { c with
        state := .settling
        balance := 0
        grant := { number := grant, askedShots := shots, askedDrops := drops, shotsDone := 0, drops := 0,
                   final := shots == c.plan.planned } }).writeWidth k 0
  let delay := (s.lineConst (s.dc k).line).settleDelay
  if delay = 0 then s1.periodStart k else s1.modMp k fun p => p.settleStart delay

/-- R119 (b): a grant no longer wanted is released with 0 drops. -/
def State.refuseGrant (s : State) (k grant : Nat) : State :=
  let s1 := s.modDc k fun c => { c with grant := { c.grant with number := grant }, result := .failed .stopped }
  (s1.offer (s1.releaseNotice k 0 .good) (.channel k)).modDc k fun c => { c with state := .releasing }

/-- R109, R119: the grant tell at channel k. -/
def State.grantTell (s : State) (k : Nat) (h : Holder) : State :=
  match (s.dc k).state with
  | .claiming | .waiting =>
    if (s.dc k).withdrawPending then s.refuseGrant k h.grant else s.beginDose k h.grant h.askedShots h.askedDrops
  | .withdrawing => s.refuseGrant k h.grant
  | .idle | .settling | .shooting | .releasing => s

/-- R114, 6.9: the take of the channel's RELEASE, however it fared. With more to come the channel is CLAIMING, with no grant. -/
def State.released (s : State) (k : Nat) : State :=
  if (s.dc k).state = .releasing then
    match (s.dc k).result with
    | .none => s
    | .goOn => s.modDc k fun c => { c with state := .claiming, result := .none, grant := Grant.none, balance := 0 }
    | .done => s.report k .done
    | .failed r => s.report k (.failed r)
  else s

/-- R108, R114, R119, R120: the tells about the line that channel k works. The rush as kept calls for no action (R108). The
withdraw-pending flag stands once set, until the channel is IDLE (log entry 16). -/
def State.lineTell (s : State) (k : Nat) (t : LineTell) : State :=
  match t, (s.dc k).state with
  | .claimWaits _ granted, .claiming =>
    if !(s.dc k).withdrawPending then s.modDc k fun c => { c with state := .waiting }
    else if granted then s
    else (s.offer (.withdraw (s.dc k).line) (.channel k)).modDc k fun c => { c with state := .withdrawing }
  | .claimDiscarded _, .claiming => s.report k (.failed (if (s.dc k).withdrawPending then .stopped else .lineOut))
  | .claimWithdrawn, .withdrawing => s.report k (.failed .stopped)
  | .withdrawDiscarded, .withdrawing => s.report k (.failed .stopped)
  | .releaseApplied _, .releasing => s.released k
  | .releaseLate, .releasing => s.released k
  | .releaseRefused, .releasing => s.released k
  | .holdingEnded, .settling => (s.modMp k Pair.standDown).report k (.failed .lineOut)
  | .holdingEnded, .shooting => (s.modMp k (Pair.cut true)).modDc k fun c => { c with stopCause := .lineOut }
  | .claimRemoved, .waiting => s.report k (.failed .lineOut)
  | .claimRemoved, .withdrawing => s.report k (.failed .stopped)
  | _, _ => s

/-! ### Captures and cuts -/

/-- R111: whether a shot of `m` counted against `p` planned drops is RUNAWAY. -/
def isRunaway (m p : Nat) (overflow : Bool) : Bool := p + p / 2 + 2 < m || overflow

/-- R111: the shot counted. -/
def Channel.count (c : Channel) (m p : Nat) : Channel :=
  { c with
    delivered := c.delivered + m
    balance := c.balance + (m : Int) - (p : Int)
    grant := { c.grant with shotsDone := c.grant.shotsDone + 1, drops := c.grant.drops + m } }

/-- R112, R117: whether the entry end test is due: the ordered drops are reached, or the plan's final shot is done. -/
def Channel.atEnd (c : Channel) : Bool := c.ordered ≤ c.delivered || c.grant.shotsDone == c.plan.planned

/-- R111 to R113, R115 to R118, R120, R121: what follows a counted shot of `m` against `p` planned drops. -/
def State.afterShot (s : State) (k m p : Nat) (overflow : Bool) : State :=
  let c := s.dc k
  let endOr (s : State) (r : PendingResult) : State :=
    s.modDc k fun c => if c.atEnd then c.endTest else { c with result := r }
  match c.stopCause with
  | .lineOut => (s.modMp k Pair.standDown).report k (.failed .lineOut)
  | .detached => (s.modMp k Pair.standDown).report k (.failed .detached)
  | cause =>
    if isRunaway m p overflow then
      (s.modDc k fun c => { c with result := .failed .runaway }).giveBack k c.grant.drops .runaway
    else
      match cause with
      | .ownLimit => (endOr s .goOn).giveBack k c.grant.drops .good
      | .stopped => (s.modDc k fun c => { c with result := .failed .stopped }).giveBack k c.grant.drops .good
      | _ =>
        if 2 * m < p then
          (s.modDc k fun c => if c.ordered ≤ c.delivered then c.endTest else { c with result := .goOn }).giveBack k
            c.grant.drops .short
        else if c.atEnd || c.grant.askedShots ≤ c.grant.shotsDone then (endOr s .goOn).giveBack k c.grant.drops .good
        else s.periodStart k

/-- R130: the capture of pair k, handed to its channel. -/
def State.captureShot (s : State) (k : Nat) : State :=
  let m := (s.mp k).counted
  let p := (s.dc k).plannedDrops (s.lineConst (s.dc k).line).shotSize (s.dc k).grant.shotsDone
  ((s.modMp k Pair.capture).modDc k fun c => c.count m p).afterShot k m p (s.mp k).overflow

/-- R117: the expiry of the channel's own hold timer. -/
def State.ownLimit (s : State) (k : Nat) : State :=
  match (s.dc k).state, (s.dc k).stopCause with
  | .settling, _ => (s.modDc k fun c => { c with result := .goOn }).giveBack k 0 .good
  | .shooting, .none => (s.modMp k (Pair.cut false)).modDc k fun c => { c with stopCause := .ownLimit }
  | _, _ => s

/-- R121, R137: channel k as the station leaves the bay. -/
def State.leaveChannel (s : State) (k : Nat) : State :=
  match (s.dc k).state with
  | .idle => s
  | .shooting => (s.modMp k (Pair.cut false)).modDc k fun c => { c with stopCause := .detached }
  | .settling => (s.modMp k Pair.standDown).report k (.failed .detached)
  | .claiming | .waiting | .withdrawing | .releasing => s.report k (.failed .detached)

end Sys2Proof.Machine
end

