-- ==== Sys2Proof/Machine/Drives.lean ====
section
/-! DEFINITION. The operations of the plant drive unit as the order book starts and stops them (chapter 9), each loading its
calibration from the setup held (R165). -/

namespace Sys2Proof.Machine

/-! ### Base fill (R157 to R159) -/

/-- R157: the duty timer's value in ticks: the period in ms times the duty, to the nearest tick, at least 1. -/
def dutyTicks (periodMs duty : Nat) : Nat := max 1 ((periodMs * 10 * duty + 50) / 100)

/-- R157: a period start of the fill. -/
def Fill.periodStart (f : Fill) : Fill :=
  { f with
    dutyInUse := f.dutyRegister, periodTimer := some f.cal.period, dutyTimer := some (dutyTicks f.cal.period f.dutyRegister),
    pump := true }

/-- R157, R165: the calibration a fill loads. -/
def fillCalOf (c : Calibration) : FillCal :=
  { period := c.basePeriod, fastDuty := c.fastDuty, slowDuty := c.slowDuty, slowBand := c.slowBand, tolerance := c.baseTolerance,
    limit := c.baseLimit }

/-- R157: the start of a fill, at the fast duty when the target exceeds the slow band. -/
def Fill.start (cal : FillCal) (target : Nat) : Fill :=
  Fill.periodStart
    { phase := if cal.slowBand < target then .fast else .slow, target := target, counter := 0,
      dutyRegister := if cal.slowBand < target then cal.fastDuty else cal.slowDuty, dutyInUse := 0, periodTimer := none,
      dutyTimer := none, limitTimer := some cal.limit, runOnTimer := none, valve := true, pump := true, cal := cal }

/-- R158 (b): the target is reached: the valve closes and the run-on begins. -/
def Fill.reach (f : Fill) : Fill :=
  { f with
    phase := .runOn, valve := false, pump := false, periodTimer := none, dutyTimer := none, limitTimer := none,
    runOnTimer := some f.cal.period }

/-- R158 (a): the slow duty is written; the period in progress runs out at the duty in use. -/
def Fill.slow (f : Fill) : Fill := { f with phase := .slow, dutyRegister := f.cal.slowDuty }

/-- R158: the comparison at a pulse in SLOW. -/
def Fill.compareSlow (f : Fill) : Fill := if f.target ≤ f.counter then f.reach else f

/-- R158: the counter stays at 65,535 once it gets there. -/
def Fill.countPulse (f : Fill) : Fill := { f with counter := min 65535 (f.counter + 1) }

/-- R158, R159: a base meter pulse. -/
def Fill.pulse (f : Fill) : Fill :=
  match f.phase with
  | .idle => f
  | .fast => if f.target - f.cal.slowBand ≤ f.countPulse.counter then f.countPulse.slow.compareSlow else f.countPulse
  | .slow => f.countPulse.compareSlow
  | .runOn => f.countPulse

/-- R158, R159: the fill back at IDLE, closed and off with every timer stopped. -/
def Fill.rest (f : Fill) : Fill :=
  { f with
    phase := .idle, valve := false, pump := false, periodTimer := none, dutyTimer := none, limitTimer := none,
    runOnTimer := none }

/-- R158: the fill is judged an overrun at its run-on. -/
def Fill.overrun (f : Fill) : Bool := f.target + f.cal.tolerance < f.counter

/-! ### Lid press (R160) -/

/-- R160 (a): the start of a try. -/
def Press.startTry (p : Press) (tries seatDelay pressWidth : Nat) : Press :=
  { p with
    phase := .seat, tries := tries, homeSeen := false, seatTimer := some seatDelay, seatDelay := seatDelay,
    pressWidth := pressWidth }

/-! ### Pushers, chute and runs (R161, R162, R164) -/

/-- R161: the start of a transfer or a chute pulse. -/
def OpRec.start (r : OpRec) (pulse limit : Nat) : OpRec :=
  { r with phase := .pulse, pulseTimer := some pulse, confirmTimer := none, output := true, limit := limit }

/-- R161, R162: the operation at rest. -/
def OpRec.rest (r : OpRec) : OpRec :=
  { r with phase := .idle, pulseTimer := none, confirmTimer := none, output := false }

/-- R161: the pulse has ended without arrival. -/
def OpRec.confirm (r : OpRec) : OpRec :=
  { r with phase := .confirm, pulseTimer := none, confirmTimer := some r.limit, output := false }

/-- R164 (b). -/
def RunRec.raise (mixTime : Nat) : RunRec := { phase := .running, runTimer := some mixTime, doneArmed := false, runLine := true }

/-- R164 (d), (e): the record back at IDLE. -/
def RunRec.rest : RunRec := { phase := .idle, runTimer := none, doneArmed := false, runLine := false }

/-! ### What the order book calls for -/

/-- R157: the base fill, only while it is IDLE. -/
def State.startFill (s : State) (target : Nat) : State :=
  if s.pdu.fill.phase = .idle then s.modPdu fun p => { p with fill := Fill.start (fillCalOf s.cal) target } else s

/-- R160: the lid press, only while it is IDLE. -/
def State.startPress (s : State) : State :=
  if s.pdu.press.phase = .idle then
    s.modPdu fun p => { p with press := p.press.startTry 1 s.cal.seatDelay s.cal.pressWidth }
  else s

/-- R161: a transfer, only on a pusher that is IDLE. -/
def State.startTransfer (s : State) (p : Pusher) : State :=
  if (s.pusher p).phase = .idle then s.modPusher p fun r => r.start s.cal.transferPulse s.cal.transferLimit else s

/-- R162: the reject chute, while it is IDLE; it loads no limit. -/
def State.startChute (s : State) : State :=
  if s.pdu.chute.phase = .idle then
    s.modPdu fun p => { p with chute := p.chute.start s.cal.transferPulse p.chute.limit }
  else s

/-- R164 (b): the run line, with the record IDLE. -/
def State.raiseRun (s : State) (m mixTime : Nat) : State :=
  if (s.run m).phase = .idle then s.modRun m fun _ => RunRec.raise mixTime else s

/-- R164 (e). -/
def State.dropRun (s : State) (m : Nat) : State :=
  if (s.run m).phase = .idle then s else s.modRun m fun _ => RunRec.rest

/-- R161: the arrival condition of a transfer. -/
def State.arrived (s : State) : Pusher → Bool
  | .toOutfeed => s.pins.outfeed
  | .toShelf => !s.pins.outfeed
  | .toMixer m => s.occupied m

end Sys2Proof.Machine
end

