-- ==== Sys2Proof/Machine/Orders.lean ====
section
/-! DEFINITION. The order book: admission, the cradle choice, the stages of an order, the rush request, the mixer claim, and
tickets (chapter 8). `State.settle` makes, at the end of an event, what the book makes at the first event at which its
conditions hold. -/

namespace Sys2Proof.Machine

/-! ### Places in the book -/

/-- The numbers of the slots whose order satisfies `p`. -/
def Book.slotsWhere (b : Book) (p : Order → Bool) : List Nat :=
  (List.range 8).filter fun i => ((b.slots.getD i none).map p).getD false

/-- R138: the count of live orders. -/
def Book.live (b : Book) : Nat := b.slots.countP Option.isSome

/-- The slot of the live order with a tag. -/
def Book.slotOf (b : Book) (tag : Nat) : Option Nat := (b.slotsWhere fun o => o.tag == tag).head?

/-- The stage of the order in a slot. -/
def State.stageAt (s : State) (slot : Nat) : Option Stage := (s.order slot).map Order.stage

/-- The cradle order's slot while it is in a stage. -/
def State.cradleIn (s : State) (st : Stage) : Option Nat := s.obu.cradle.filter fun slot => s.stageAt slot == some st

/-- The outfeed order's slot while it is in a stage. -/
def State.outfeedIn (s : State) (st : Stage) : Option Nat := s.obu.outfeed.filter fun slot => s.stageAt slot == some st

def State.setStage (s : State) (slot : Nat) (st : Stage) : State := s.modOrder slot fun o => { o with stage := st }

/-! ### Endings (R142, R149, R150) -/

/-- R142: a held token of the slot is offered back. -/
def State.dropToken (s : State) (slot : Nat) : State :=
  match s.obu.request with
  | .held token holder =>
    if holder = slot then (s.offer (.rushDrop (tokenCode token)) .book).modBook fun b => { b with request := .absent } else s
  | _ => s

/-- R140, R149, R150: a place that a slot holds becomes absent. -/
def releasePlace (slot : Nat) (place : Option Nat) : Option Nat := if place = some slot then none else place

/-- R150: an order enters DONE with its outcome and reason fixed, holding neither token, cradle nor outfeed. That its
mix-claim-offered mark is cleared too, where a MIX CLAIM discarded ends it, is the model's choice (log entry 50). -/
def State.finish (s : State) (slot : Nat) (outcome : OrderOutcome) (reason : OrderReason) : State :=
  ((s.dropToken slot).modOrder slot fun o =>
    { o with stage := .done, outcome := some outcome, reason := some reason, mixClaimOffered := false }).modBook fun b =>
      { b with cradle := releasePlace slot b.cradle, outfeed := releasePlace slot b.outfeed, doneOrder := b.doneOrder ++ [slot] }

/-- R142, R149: an order enters REJECT with a reason: its token is offered back and the chute is called. -/
def State.reject (s : State) (slot : Nat) (reason : OrderReason) : State :=
  ((s.dropToken slot).modOrder slot fun o =>
    { o with stage := .reject, outcome := some .spoiled, reason := some reason }).startChute

/-! ### The cradle (R140, R141) -/

/-- R140: a better cradle candidate: higher priority, or the same and older. -/
def cradleBetter (a b : Order) : Bool :=
  b.priority.rank < a.priority.rank || (a.priority.rank == b.priority.rank && a.admission < b.admission)

/-- R140: the cradle choice among slots: the best QUEUED order not on HOLD. -/
def Book.cradleChoice (b : Book) : Option Nat :=
  (b.slotsWhere fun o => o.stage == .queued && o.priority != .hold).foldl
    (fun best i =>
      match best with
      | none => some i
      | some j =>
        match b.slots.getD i none, b.slots.getD j none with
        | some oi, some oj => if cradleBetter oi oj then some i else some j
        | _, _ => some j)
    none

/-- R140, R141: a seated tin: the order enters BASE; the base fill is called, or the base is finished when it is 0. -/
def State.seat (s : State) (slot : Nat) : State :=
  let s1 := (s.modPdu fun p => { p with lamp := false }).setStage slot .base
  match s.order slot with
  | some o =>
    if o.base = 0 then s1.modOrder slot fun o => { o with baseFinished := true, baseDelivered := 0 } else s1.startFill o.base
  | none => s1

/-- R140: a tin with its size code is judged by the order in LOADING. -/
def State.judgeTin (s : State) (slot code : Nat) : State :=
  match s.order slot with
  | some o => if o.size = code then s.seat slot else s.modOrder slot fun o => { o with wrongTin := true }
  | none => s

/-- R140, R156: the cradle choice, made while the cradle order is absent; a tin already there is judged at once. -/
def State.chooseCradle (s : State) : State :=
  match s.obu.cradle, s.obu.cradleChoice with
  | none, some slot =>
    let s1 := ((s.modBook fun b => { b with cradle := some slot }).setStage slot .loading).modPdu fun p => { p with lamp := true }
    match s.pdu.arrived with
    | some code => s1.judgeTin slot code
    | none => s1
  | _, _ => s

/-! ### The rush request and the tint gate (R141, R142) -/

/-- R142: the RUSH TAKE of the order in BASE, when the station is ATTACHED and no request stands. -/
def State.requestRush (s : State) : State :=
  match s.cradleIn .base with
  | none => s
  | some slot =>
    match s.order slot with
    | some o =>
      if o.rush ∧ o.rushResult = .pending ∧ s.obu.request = .absent ∧ s.isAttached then
        (s.offer (.rushTake o.tag) .book).modBook fun b => { b with request := .requested slot }
      else s
    | none => s

/-- R141: the tint gate. -/
def State.openGate (s : State) : State :=
  match s.cradleIn .base with
  | none => s
  | some slot =>
    match s.order slot with
    | some o => if o.baseFinished ∧ s.isAttached ∧ o.rushResult ≠ .pending then s.setStage slot .tint else s
    | none => s

/-! ### Dosing (R143, R144) -/

/-- The lowest-numbered IDLE channel. -/
def State.idleChannel (s : State) : Option Nat := s.dcs.findIdx? fun c => c.state == .idle

/-- R143: the next entry goes to the lowest-numbered IDLE channel, while the order is not stopping. -/
def State.handNext (s : State) (slot : Nat) : State :=
  match s.order slot, s.idleChannel with
  | some o, some k =>
    if o.stage = .tint ∧ o.stopping = none ∧ s.isAttached then
      match o.entries[o.handed]? with
      | some e => (s.modOrder slot fun o => { o with handed := o.handed + 1 }).handOver k slot o.handed e
      | none => s
    else s
  | _, _ => s

/-- Whether some channel is busy with the order in a slot. -/
def State.anyWorks (s : State) (slot : Nat) : Bool := [0, 1, 2, 3].any fun k => s.worksFor slot k

/-- R143: an order whose entries are all DONE leaves TINT. -/
def State.leaveTint (s : State) (slot : Nat) (o : Order) : State :=
  let s1 := if o.mixTime = 0 then s.dropToken slot else s
  if o.lid then (s1.setStage slot .lid).startPress else s1.setStage slot .outfeedWait

/-- R143, R144: the end of dosing once no channel is busy with the order. -/
def State.endTint (s : State) (slot : Nat) : State :=
  match s.order slot with
  | some o =>
    if o.stage = .tint ∧ !s.anyWorks slot then
      match o.stopping with
      | some r => s.reject slot r
      | none => if o.results.all (fun r => r.outcome == .done) then s.leaveTint slot o else s
    else s
  | none => s

/-- R143, R144: hand-overs to the idle channels, four at most, and the end of dosing. -/
def State.dose (s : State) : State :=
  match s.cradleIn .tint with
  | none => s
  | some slot => ((((s.handNext slot).handNext slot).handNext slot).handNext slot).endTint slot

/-! ### Outfeed and mixer (R145, R147) -/

/-- R145: no outfeed pusher stands in PULSE or CONFIRM. -/
def State.outfeedPushersIdle (s : State) : Bool :=
  s.pdu.toShelf.phase == .idle && s.pdu.toMixer.all fun r => r.phase == .idle

/-- R145: the cradle-to-outfeed transfer of an order in OUTFEED WAIT. -/
def State.callOutfeed (s : State) : State :=
  match s.cradleIn .outfeedWait with
  | none => s
  | some _ =>
    if s.obu.outfeed = none ∧ s.outfeedPushersIdle ∧ !s.pins.outfeed then s.startTransfer .toOutfeed else s

/-- R147, R142: the MIX CLAIM of the order in a slot, as filled now. -/
def State.mixClaimNotice (s : State) (slot : Nat) : Notice :=
  .mixClaim (((s.order slot).map Order.mixTime).getD 0) (s.levelOf slot) (rushCode (s.obu.rushOf slot))

/-- R147: the MIX CLAIM of the order in MIX WAIT; refused, it is offered again at a later event. -/
def State.claimMixer (s : State) : State :=
  match s.outfeedIn .mixWait with
  | none => s
  | some slot =>
    if s.isAttached ∧ ((s.order slot).map Order.mixClaimOffered) = some false then
      match s.blu.offer (s.mixClaimNotice slot) .book with
      | (_, .refused) => s
      | (b, _) => { s with blu := b }.modOrder slot fun o => { o with mixClaimOffered := true }
    else s

/-- R147: the order that awaits a mixer. It takes up whichever mixer is granted while its mark is set, the grant of an earlier
order's claim not yet withdrawn among them (log entry 43). -/
def State.awaitsMixer (s : State) : Option Nat :=
  (s.outfeedIn .mixWait).filter fun slot => ((s.order slot).map Order.mixClaimOffered).getD false

/-! ### Tickets (R150, R153) -/

/-- R153 (g): a pending result is reported as not asked. -/
def RushResult.ticketed : RushResult → RushResult
  | .pending => .notAsked
  | r => r

/-- R153: the ticket of an order in DONE. -/
def Order.ticket (o : Order) : Ticket :=
  { tag := o.tag, outcome := o.outcome.getD .spoiled, reason := o.reason.getD .none, baseDelivered := o.baseDelivered,
    entries := o.results.map EntryResult.delivered, mixerUsed := o.mixerUsed, rushResult := o.rushResult.ticketed }

/-- R138: the admission numbers closed up over a freed one. -/
def closeUp (freed : Nat) (o : Order) : Order := if freed < o.admission then { o with admission := o.admission - 1 } else o

/-- R142: the token request once a slot has been freed: one still to be told is the gone order's, and no later order's. -/
def TokenRequest.freeing (slot : Nat) (r : TokenRequest) : TokenRequest := if r = .requested slot then .orphaned else r

/-- R138, R142, R150: a slot is freed. -/
def Book.free (b : Book) (slot : Nat) : Book :=
  match b.slots.getD slot none with
  | some o =>
    { b with
      slots := (b.slots.set slot none).map (Option.map (closeUp o.admission))
      request := b.request.freeing slot }
  | none => b

/-- R173: a ticket queued, and attention with it. -/
def Tlu.queueTicket (t : Tlu) (k : Ticket) : Tlu :=
  { t with tickets := t.tickets ++ [k], attention := attentionOf (t.tickets ++ [k]) t.unread }

/-- R150: the tickets of the orders in DONE, earliest first, while the queue holds fewer than 8; `n` at most. -/
def State.queueTickets : Nat → State → State
  | 0, s => s
  | n + 1, s =>
    match s.obu.doneOrder with
    | [] => s
    | slot :: rest =>
      if s.tlu.tickets.length < 8 then
        match s.order slot with
        | some o =>
          State.queueTickets n ((s.modBook fun b => { b.free slot with doneOrder := rest }).modTlu fun t => t.queueTicket o.ticket)
        | none => State.queueTickets n (s.modBook fun b => { b with doneOrder := rest })
      else s

/-- What the order book makes at the end of an event, each at the first event at which its conditions hold. -/
def State.settle (s : State) : State :=
  State.queueTickets 8 s.claimMixer.chooseCradle.requestRush.openGate.dose.callOutfeed

/-! ### The tells of the bay table (R142, R147, R148) -/

/-- R142, the tells at a request whose order is in BASE; `token` is none where the token is refused. -/
def State.rushSettled (s : State) (slot : Nat) (token : Rush) : State :=
  match token with
  | .none => (s.modBook fun b => { b with request := .absent }).modOrder slot fun o => { o with rushResult := .refused }
  | _ =>
    (s.modBook fun b => { b with request := .held token slot }).modOrder slot fun o =>
      { o with rushResult := if token = .a then .a else .b }

/-- R142, the tells at a request whose order has left BASE or whose slot is free. -/
def State.rushUnwanted (s : State) (token : Rush) : State :=
  match token with
  | .none => s.modBook fun b => { b with request := .absent }
  | _ => (s.offer (.rushDrop (tokenCode token)) .book).modBook fun b => { b with request := .absent }

/-- R142: the tells of this station's RUSH TAKE; `token` is none where the token is refused. -/
def State.rushTell (s : State) (token : Rush) : State :=
  match s.obu.request with
  | .requested slot => if s.stageAt slot = some .base then s.rushSettled slot token else s.rushUnwanted token
  | .orphaned => s.rushUnwanted token
  | .absent | .held _ _ => s

/-- R81, R148: the order book's MIX RELEASE. -/
def State.offerMixRelease (s : State) (owner : Owner) (m grant : Nat) (o : MixOutcome) : State :=
  s.offer (.mixRelease m grant (mixOutcomeCode o)) owner

/-- R147 (b), R142: the order takes up the grant and enters MIXING. -/
def State.enterMixing (s : State) (slot m grant mixTime : Nat) : State :=
  (s.modOrder slot fun o =>
    { o with
      stage := .mixing, mixerUsed := some m, mixClaimOffered := false, runRaised := false,
      mixGrant := some { number := grant, mixTime := mixTime } }).dropToken slot

/-- R85, R147 (b), R148 (a), (b): a mixer is granted to this station. That the RUSH DROP of the entry into MIXING goes before the
MIX RELEASE of a grant given back is the model's choice (log entry 51). -/
def State.mixerGranted (s : State) (m grant mixTime : Nat) : State :=
  match s.awaitsMixer with
  | none => s.offerMixRelease .bayTable m grant .done
  | some slot =>
    let s1 := s.enterMixing slot m grant mixTime
    if s.occupied m then
      let s2 := s1.offerMixRelease .book m grant .blocked
      if s.pins.outfeed then (s2.setStage slot .mixWait).claimMixer else s2.finish slot .mixIncomplete .cancelled
    else if s.pins.outfeed then s1.startTransfer (.toMixer m)
    else (s1.offerMixRelease .book m grant .done).finish slot .mixIncomplete .cancelled

/-- R84: the tells to the order book. -/
def State.bookTell (s : State) (t : BookTell) : State :=
  match t with
  | .tokenTaken token => s.rushTell token
  | .tokenRefused _ => s.rushTell .none
  | .mixClaimWaits _ => if s.awaitsMixer = none then s.offer .mixWithdraw .book else s
  | .mixClaimDiscarded _ =>
    match s.awaitsMixer with
    | some slot => s.finish slot .mixIncomplete .mixerFault
    | none => s
  | .tokenDropped | .dropDiscarded | .mixClaimWithdrawn | .mixWithdrawDiscarded | .mixReleaseApplied _ | .mixReleaseLate
  | .mixReleaseRefused _ => s

/-! ### The reports of the plant drive unit -/

/-- R141, R158: base finished. -/
def State.baseDone (s : State) (delivered : Nat) : State :=
  match s.cradleIn .base with
  | some slot => s.modOrder slot fun o => { o with baseDelivered := delivered, baseFinished := true }
  | none => s

/-- R141, R159: a base fault. -/
def State.baseFaulted (s : State) (delivered : Nat) (f : BaseFault) : State :=
  match s.cradleIn .base with
  | some slot =>
    (s.modOrder slot fun o => { o with baseDelivered := delivered, baseFault := some f }).reject slot .baseFault
  | none => s

/-- R145: lid home. -/
def State.lidHome (s : State) : State :=
  match s.cradleIn .lid with
  | some slot => s.setStage slot .outfeedWait
  | none => s

/-- R145: lid fault. -/
def State.lidFaulted (s : State) : State :=
  match s.cradleIn .lid with
  | some slot => s.reject slot .lidFault
  | none => s

/-- R145: the transfer to the outfeed is confirmed. -/
def State.outfeedReached (s : State) : State :=
  match s.cradleIn .outfeedWait with
  | none => s
  | some slot =>
    let s1 := s.modBook fun b => { b with cradle := none, outfeed := some slot }
    if ((s.order slot).map Order.mixTime).getD 0 = 0 then (s1.setStage slot .shelf).startTransfer .toShelf
    else s1.setStage slot .mixWait

/-- The order in MIXING on mixer m whose transfer is still to be confirmed (R148 (b)). -/
def State.transferringTo (s : State) (m : Nat) : Option Nat :=
  (s.outfeedIn .mixing).filter fun slot =>
    ((s.order slot).map fun o => o.mixerUsed == some m && !o.runRaised).getD false

/-- The order in MIXING on mixer m (R148). -/
def State.mixingOn (s : State) (m : Nat) : Option Nat :=
  (s.obu.slotsWhere fun o => o.stage == .mixing && o.mixerUsed == some m).head?

/-- R148 (b), (c): the tin has come to mixer m: the run line is raised for the mix time. -/
def State.mixerReached (s : State) (m : Nat) : State :=
  match s.transferringTo m with
  | none => s
  | some slot =>
    ((s.modBook fun b => { b with outfeed := none }).modOrder slot fun o => { o with runRaised := true }).raiseRun m
      ((((s.order slot).bind Order.mixGrant).map MixGrant.mixTime).getD 0)

/-- R148: the order in MIXING on mixer m gives its holding back and ends. -/
def State.endMix (s : State) (slot m : Nat) (o : MixOutcome) (outcome : OrderOutcome) (reason : OrderReason) : State :=
  (s.offerMixRelease .book m ((((s.order slot).bind Order.mixGrant).map MixGrant.number).getD 0) o).finish slot outcome reason

/-- R145, R146, R148: transfer confirmed. -/
def State.transferConfirmed (s : State) : Pusher → State
  | .toOutfeed => s.outfeedReached
  | .toShelf =>
    match s.outfeedIn .shelf with
    | some slot => s.finish slot .filled .none
    | none => s
  | .toMixer m => s.mixerReached m

/-- R145, R146, R148 (b): transfer not confirmed. -/
def State.transferFailed (s : State) : Pusher → State
  | .toOutfeed =>
    match s.cradleIn .outfeedWait with
    | some slot => s.reject slot .transferFault
    | none => s
  | .toShelf =>
    match s.outfeedIn .shelf with
    | some slot => s.finish slot .filled .transferFault
    | none => s
  | .toMixer m =>
    match s.transferringTo m with
    | some slot => s.endMix slot m .fault .mixIncomplete .transferFault
    | none => s

/-- R148 (d), R164 (d): mixer done. -/
def State.mixerDone (s : State) (m : Nat) : State :=
  match s.mixingOn m with
  | some slot => s.endMix slot m .done .filled .none
  | none => s

/-- R147: the outfeed shows empty while the order is in MIX WAIT: the operator has taken the tin. That the MIX WITHDRAW goes before
the RUSH DROP of a token that the order holds is the model's choice (log entry 51). -/
def State.outfeedEmptied (s : State) : State :=
  match s.outfeedIn .mixWait with
  | none => s
  | some slot =>
    let s1 :=
      if s.awaitsMixer = none then s
      else if (s.blu.list ++ s.blu.held).any isMixClaim then s.strike isMixClaim
      else s.offer .mixWithdraw .book
    s1.finish slot .mixIncomplete .cancelled

/-! ### Cancel (R151) and leaving the bay (R40, R142, R147, R148, R154) -/

/-- R159: the base fill is stopped and the amount delivered is recorded. -/
def State.stopFill (s : State) (slot : Nat) : State :=
  if s.pdu.fill.phase = .idle then s
  else
    (s.modOrder slot fun o => { o with baseDelivered := s.pdu.fill.counter }).modPdu fun p => { p with fill := p.fill.rest }

/-- R151: a CANCEL of the order in a slot, by its stage; `none` where it is too late. -/
def State.cancelOrder (s : State) (slot : Nat) : Option State :=
  match s.stageAt slot with
  | some .queued => some (s.finish slot .cancelled .cancelled)
  | some .loading => some ((s.modPdu fun p => { p with lamp := false }).finish slot .cancelled .cancelled)
  | some .base => some ((s.stopFill slot).reject slot .cancelled)
  | some .tint => some (s.stopOrder slot .cancelled)
  | _ => none

/-- R142: the token request as the station leaves the bay. -/
def State.loseRequest (s : State) : State :=
  match s.obu.request with
  | .absent => s
  | .held _ _ | .orphaned => s.modBook fun b => { b with request := .absent }
  | .requested slot =>
    (s.modBook fun b => { b with request := .absent }).modOrder slot fun o =>
      if o.rushResult = .pending then { o with rushResult := .refused } else o

/-- R144 (c), R147, R148: the order in a slot as the station leaves the bay. That the outcome and reason of the one in TINT are
written only as it enters REJECT is the model's reading (log entry 39). -/
def State.leaveOrder (s : State) (slot : Nat) : State :=
  match s.order slot with
  | none => s
  | some o =>
    match o.stage with
    | .tint => s.modOrder slot fun o => { o with stopping := some (o.stopping.getD .detached) }
    | .mixWait => s.modOrder slot fun o => { o with mixClaimOffered := false }
    | .mixing =>
      ((if o.runRaised then (match o.mixerUsed with | some m => s.dropRun m | none => s) else s).finish slot .mixIncomplete
        .detached)
    | _ => s

/-- R154: the order book as the station leaves the bay, slots in order (log entry 19). -/
def State.leaveBook (s : State) : State := (List.range 8).foldl State.leaveOrder s.loseRequest

end Sys2Proof.Machine
end

