-- ==== Sys2Proof/Machine/Station.lean ====
section
/-! DEFINITION. The station state logic, the hold timers, the image cursor, and the delivery of a take (R10, R18, R24 to R42,
R87 to R90). -/

namespace Sys2Proof.Machine

/-! ### Hold timers (R87 to R90, R94) -/

/-- The number of the hold timer of a line or mixer (5.1). -/
def timerIndex : HoldKey → Nat
  | .line n => n
  | .mixer m => 16 + m

/-- R88: what a WATCH timer runs beyond the holder's own limit, in ms. -/
def State.watchExtra (s : State) : Nat := 1000 * s.bay.grace + 100 * s.me

/-- R88: the holder's own limit for a line, in ms. -/
def State.lineLimit (s : State) (line : Nat) : Nat := 100 * (s.lineConst line).holdLimit

/-- R88: the holder's own limit for a mixer, in ms. -/
def State.mixerLimit (s : State) (mixTime : Nat) : Nat := 1000 * (mixTime + s.bay.mixerMargin)

/-- R88: a timer started for a holding with this limit. -/
def State.startTimer (s : State) (key : HoldKey) (holder grant limit : Nat) : State :=
  s.modTimer (timerIndex key) fun _ =>
    { state := .running, role := if holder = s.me then .own else .watch, holder := holder, grant := grant,
      runTime := if holder = s.me then limit else limit + s.watchExtra }

/-- R90, R94: a holding has ended: its timer stops, and this station's REVOKE for it is struck. -/
def State.endHolding (s : State) (key : HoldKey) (holder grant : Nat) : State :=
  (s.modTimer (timerIndex key) fun t => { t with state := .stopped }).strike (isRevokeOf key holder grant)

/-- R87: every timer stopped. -/
def State.stopTimers (s : State) : State := { s with htb := s.htb.map fun t => { t with state := .stopped } }

/-- R69, R88, R109: a grant on a line. -/
def State.lineGranted (s : State) (line : Nat) (h : Holder) : State :=
  let s1 := s.startTimer (.line line) h.station h.grant (s.lineLimit line)
  if h.station = s.me then
    match s.worker line with
    | some k => s1.grantTell k h
    | none => s1.offer (.release line h.grant 0 (lineOutcomeCode .good)) .bayTable
  else s1

/-- What an effect of a take does at an ATTACHED station. -/
def State.applyEffect (s : State) (e : Effect) : State :=
  match e with
  | .lineEnded line h => s.endHolding (.line line) h.station h.grant
  | .lineGranted line h => s.lineGranted line h
  | .mixerEnded m station grant => s.endHolding (.mixer m) station grant
  | .mixerGranted m station grant mixTime =>
    let s1 := s.startTimer (.mixer m) station grant (s.mixerLimit mixTime)
    if station = s.me then s1.mixerGranted m grant mixTime else s1
  | .tellLine line t =>
    match s.worker line with
    | some k => s.lineTell k t
    | none => s
  | .tellBook t => s.bookTell t

def State.applyEffects (s : State) (es : List Effect) : State := es.foldl State.applyEffect s

/-- R89: a WATCH timer for every line holder, lines numbered from `n`. -/
def watchLines (s : State) : Nat → List (Option LineRec) → State
  | _, [] => s
  | n, r :: rs =>
    match r.bind LineRec.holder with
    | some h => watchLines (s.startTimer (.line n) h.station h.grant (s.lineLimit n)) (n + 1) rs
    | none => watchLines s (n + 1) rs

/-- R89: a WATCH timer for every HELD mixer, mixers numbered from `m`. -/
def watchMixers (s : State) : Nat → List MixRec → State
  | _, [] => s
  | m, r :: rs =>
    match r.state, r.holder with
    | .held, some h => watchMixers (s.startTimer (.mixer m) h r.grant (s.mixerLimit (optZero r.mixTime))) (m + 1) rs
    | _, _ => watchMixers s (m + 1) rs

/-- R89: the timers a joiner starts as it becomes ATTACHED. -/
def State.watchAll (s : State) : State :=
  match s.bt.pool with
  | some p => watchMixers (watchLines s 0 s.bt.lines) 0 p.recs
  | none => watchLines s 0 s.bt.lines

/-! ### The image cursor (R18) -/

/-- R18: the subject after one, among the equipped lines. -/
def nextSubject (linesEquipped : Nat) : Subject → Subject
  | .rosterTokens => .mixers
  | .mixers => if 0 < linesEquipped then .line 0 else .endMark
  | .line n => if n + 1 < linesEquipped then .line (n + 1) else .endMark
  | .endMark => .endMark

/-- R15, R33: the image of a subject as the table stands now. -/
def Table.imageOf (t : Table) : Subject → Option Image
  | .rosterTokens => t.tokens.map fun tk => .rosterTokens t.roster tk.a tk.b
  | .mixers => t.pool.map fun p => .mixers p.recs p.waiting
  | .line n => (t.line n).map (.line n)
  | .endMark => none

/-- R14, R15, R18: the cursor's notice for a joiner and subject, as filled now. -/
def Table.cursorNotice (t : Table) (j : Joiner) (subject : Subject) : Notice :=
  match t.imageOf subject with
  | some img => .image j.station img
  | none => .imageEnd j.station (imageResultCode j.accepted) (t.bayCount.getD 0)

/-- R18: the first subject given to a joiner. -/
def firstSubject (accepted : Bool) : Subject := if accepted then .rosterTokens else .endMark

/-- R18: the cursor offers the notice of a subject for the joiner at its head. -/
def State.cursorOffer (s : State) (subject : Subject) : State :=
  match s.blu.cursor.joiners with
  | [] => s
  | j :: _ =>
    ({ s with blu := { s.blu with cursor := { s.blu.cursor with next := some subject } } }).offer (s.bt.cursorNotice j subject)
      .cursor

/-- R18: the cursor begins the joiner at its head. -/
def State.cursorBegin (s : State) : State :=
  match s.blu.cursor.joiners with
  | [] => { s with blu := { s.blu with cursor := Cursor.empty } }
  | j :: _ => s.cursorOffer (firstSubject j.accepted)

def State.setJoiners (s : State) (js : List Joiner) : State :=
  { s with blu := { s.blu with cursor := { s.blu.cursor with joiners := js } } }

/-- Whether a joiner stands at the head. -/
def Cursor.headIs (c : Cursor) (station : Nat) : Bool := (c.joiners.head?).any fun j => j.station == station

/-- R18: a joiner is removed; from the head, its unsent notice is struck and the next joiner begins. -/
def State.cursorDrop (s : State) (station : Nat) : State :=
  let rest := s.blu.cursor.joiners.filter fun j => j.station != station
  if s.blu.cursor.headIs station then ((s.strike (isImageFor station)).setJoiners rest).cursorBegin else s.setJoiners rest

/-- R18, R31 (e): a joiner is handed to the cursor; one already in the list starts afresh and keeps its place. -/
def State.cursorAdd (s : State) (station : Nat) (accepted : Bool) : State :=
  let js := s.blu.cursor.joiners
  if js.any (fun j => j.station == station) then
    let s1 := s.setJoiners (js.map fun j => if j.station = station then { j with accepted := accepted } else j)
    if s.blu.cursor.headIs station then (s1.strike (isImageFor station)).cursorBegin else s1
  else
    let s1 := s.setJoiners (js ++ [{ station := station, accepted := accepted }])
    if js.isEmpty then s1.cursorBegin else s1

/-- R18: joiners that stand ABSENT are dropped. -/
def State.cursorPrune (s : State) : State :=
  s.blu.cursor.joiners.foldl
    (fun s' j => if (s.bt.rosterAt j.station).state = .absent then s'.cursorDrop j.station else s') s

/-- R18: at the take of its own IMAGE the cursor goes on to the following subject. -/
def State.cursorAdvance (s : State) : State :=
  match s.blu.cursor.next with
  | some subject => s.cursorOffer (nextSubject s.bay.linesEquipped subject)
  | none => s

/-- R18, R31 (e): the giver chosen for a joiner: at the giver the cursor takes it, elsewhere the cursor drops it. -/
def State.giveImage (s : State) (joiner : Nat) (giver : Option Nat) (accepted : Bool) : State :=
  if giver = some s.me then s.cursorAdd joiner accepted else s.cursorDrop joiner

/-! ### Leaving the bay (R38, R40, R42) -/

/-- R38, R40 (a) to (e): each block gives up the station's part in the bay. -/
def State.leaveBay (s : State) (listen : Listen) : State :=
  let s1 :=
    { s with
      bt := Table.empty
      blu := s.blu.cleared listen }
  [0, 1, 2, 3].foldl State.leaveChannel s1.stopTimers.leaveBook

/-- R40 (f), R41: the station state logic on entering DETACHED. -/
def Ssl.detached (l : Ssl) (reason : DetachReason) (me : Nat) : Ssl :=
  { l with
    lastDetach := reason, lateMark := false, joinTaken := false, knownGiver := none, emptyTimeouts := 0, firstListen := none,
    formationWindow := none, imageTimer := none, rejoinTimer := some (2000 + 100 * me) }

/-- R39, R40: the station goes DETACHED. -/
def State.detach (s : State) (reason : DetachReason) : State :=
  ((s.leaveBay .following).modSsl fun l => l.detached reason s.me).enter .detached

/-- R42: the station enters REFUSED. The rule names no mark or count of the station state logic; the late mark, the join-taken
mark, the known giver and the empty-timeouts count stand (log entry 40). -/
def State.refuse (s : State) : State :=
  let s1 :=
    { s with
      bt := Table.empty
      blu := s.blu.cleared .following }
  (s1.stopTimers.modSsl fun l => { l with firstListen := none, formationWindow := none, imageTimer := none }).enter .refused

/-- R38: the take of the station's own LEAVE. -/
def State.ownLeave (s : State) : State := ((s.leaveBay .off).modSsl fun l => { l with leavePending := false }).enter .ready

/-! ### Forming and joining (R24 to R36) -/

/-- R25, R36, R41: the station's JOIN. -/
def State.offerJoin (s : State) (silent : Option Nat) : State := s.offer (.join s.me s.digest silent) .stationLogic

/-- R24: the late mark is set. -/
def State.setLateMark (s : State) : State :=
  (({ s with bt := Table.empty }).modSsl fun l => { l with lateMark := true, formationWindow := none }).strike isOwnFormed

/-- R32: the take of the station's own JOIN as a late join. -/
def State.lateJoinSelf (s : State) : State :=
  (({ s with bt := Table.joiner s.digest s.bay.linesEquipped }).modSsl fun l =>
    { l with joinTaken := true, knownGiver := none, imageTimer := some 5000 }).enter .joining

/-- R27: a JOIN taken at a FORMING station in formation. -/
def State.formationJoin (s : State) (sender digest : Nat) (own : Bool) : State :=
  ({ s with bt := s.bt.formationJoin sender digest }).modSsl fun l =>
    { l with
      joinTaken := l.joinTaken || own
      formationWindow := if s.bt.digest = none then some (1000 * s.bay.formationWindow) else l.formationWindow }

/-- R14, R25, R27, R32: a JOIN taken at a FORMING station. With the formed flag set, one that is not its own changes the bay
count alone. -/
def State.joinForming (s : State) (sender digest : Nat) (own : Bool) : State :=
  if s.ssl.lateMark || s.bt.formed then
    (if own then s.lateJoinSelf else if s.ssl.lateMark then s else s.modBt Table.counted)
  else s.formationJoin sender digest own

/-- R14, R28 to R30: a FORMED taken at a FORMING station. With the formed flag set already, it is discarded and counted. -/
def State.formedForming (s : State) : State :=
  let s1 := (s.modSsl fun l => { l with formationWindow := none }).strike isOwnFormed
  if s.ssl.lateMark then s1
  else if s.bt.formed then s1.modBt Table.counted
  else if s.bt.formationOpen then
    let built := { s1 with bt := s.bt.built s.bay }
    if s.bt.isPresent s.me then built.enter .attached
    else if s.bt.digest ≠ some s.digest then built.refuse
    else s1.setLateMark
  else { s1 with bt := { s.bt with formed := true } }

/-- R33 (a): an IMAGE applied at the joiner named. Mixer records beyond mixers equipped are zeros and no records (log entry
33). That one naming a line at or beyond lines equipped stores no record, and yet has the effects of R33 on the station state and
the JOIN, is the model's choice (log entry 53). -/
def State.imageHere (s : State) (sender : Nat) (img : Image) : State :=
  let fitted : Image :=
    match img with
    | .mixers recs waiting => .mixers (recs.take s.bay.mixersEquipped) waiting
    | other => other
  (({ s with bt := s.bt.applyImage fitted }).modSsl fun l =>
    { l with knownGiver := some sender, emptyTimeouts := 0, imageTimer := some 5000 }).strike isOwnJoin

/-- R33 (b): an IMAGE for this FORMING station, whose JOIN has been taken. -/
def State.imageForming (s : State) (sender : Nat) (img : Image) : State :=
  ((((s.modSsl fun l => { l with formationWindow := none }).strike isOwnFormed).lateJoinSelf).imageHere sender img)

/-- R24, R33, R35: a take other than JOIN and FORMED at a FORMING station. -/
def State.otherForming (s : State) (sender : Nat) (n : Notice) : State :=
  if s.ssl.joinTaken then
    match n with
    | .image joiner img => if joiner = s.me then s.imageForming sender img else s
    | .imageEnd joiner result _ => if joiner = s.me ∧ imageResultOfCode result = some false then s.refuse else s
    | _ => s
  else s.setLateMark

/-- A take at a FORMING station. -/
def State.takeForming (s : State) (sender : Nat) (n : Notice) : State :=
  match n with
  | .join _ digest _ => s.joinForming sender digest (sender == s.me)
  | .formed => s.formedForming
  | _ => s.otherForming sender n

/-- R33: the image timer restarts at any IMAGE or IMAGE END, but for one addressed to another while a re-JOIN is pending. -/
def State.restartImageTimer (s : State) (joiner : Nat) : State :=
  if joiner ≠ s.me ∧ s.blu.joinQueued then s else s.modSsl fun l => { l with imageTimer := some 5000 }

/-- R35 (a): the IMAGE END that accepts this joiner. -/
def State.accepted (s : State) (count : Nat) : State :=
  ((({ s with bt := { s.bt.imageEnd s.me true with bayCount := some ((count + 1) % 65536) } }).modSsl fun l =>
    { l with imageTimer := none }).strike isOwnJoin).enter .attached |>.watchAll

/-- R26: at a joiner that has imaged its roster, a sender that stands JOINING there: its notices other than JOIN are discarded
(log entry 45). -/
def State.fromJoiner (s : State) (sender : Nat) : Bool := (s.bt.rosterAt sender).state == .joining

/-- R26, R33 (a), (d): an IMAGE taken at a JOINING station. -/
def State.imageJoining (s : State) (sender joiner : Nat) (img : Image) : State :=
  if s.fromJoiner sender then s.restartImageTimer joiner
  else if joiner = s.me then s.imageHere sender img
  else ({ s with bt := s.bt.markImageFrom sender joiner }).restartImageTimer joiner

/-- R26, R35: an IMAGE END taken at a JOINING station. At the joiner named, a result outside its range restarts the image timer
alone (log entry 13). -/
def State.imageEndJoining (s : State) (sender joiner result count : Nat) : State :=
  if s.fromJoiner sender then s.restartImageTimer joiner
  else if joiner = s.me then
    match imageResultOfCode result with
    | some true => s.accepted count
    | some false => s.refuse
    | none => ({ s with bt := s.bt.imageEndFrom sender joiner result }).restartImageTimer joiner
  else ({ s with bt := s.bt.imageEndFrom sender joiner result }).restartImageTimer joiner

/-- What a take of another kind does to the bay table (chapters 3 to 5). -/
def Table.takeOther (reserve mixersEquipped me : Nat) (t : Table) (sender : Nat) (n : Notice) : Table × List Effect :=
  match n with
  | .leave => t.leave reserve sender
  | .claim line shots drops level rush => t.claim reserve me sender line shots drops level rush
  | .withdraw line => t.withdraw reserve me sender line
  | .release line grant drops outcome => t.release reserve me sender line grant drops outcome
  | .refill line level => t.refill reserve sender line level
  | .lineOut line => t.lineOut me sender line
  | .lineReturn line level => t.lineReturn reserve sender line level
  | .rushTake tag => t.rushTake me sender tag
  | .rushDrop token => t.rushDrop reserve me sender token
  | .mixClaim time level rush => t.mixClaim me sender time level rush
  | .mixWithdraw => t.mixWithdraw me sender
  | .mixRelease mixer grant outcome => t.mixRelease me sender mixer grant outcome
  | .mixerReturn mixer => t.mixerReturn sender mixer
  | .revoke subject holder grant => t.revoke reserve mixersEquipped sender subject holder grant
  | .join _ _ _ | .formed | .image _ _ | .imageEnd _ _ _ => t.same

/-- R30, R31 to R35: a take at a JOINING station: nothing but its own JOIN until that is taken, then the subjects imaged. It
gives no tells and runs no timers. -/
def State.takeJoining (s : State) (sender : Nat) (n : Notice) : State :=
  match n with
  | .join _ digest silent =>
    if sender = s.me then s.lateJoinSelf
    else if s.ssl.joinTaken ∧ s.bt.tokens.isSome then { s with bt := (s.bt.lateJoin s.bay.reserve sender digest silent).table }
    else s
  | .formed =>
    if s.ssl.joinTaken ∧ s.bt.tokens.isSome then
      match s.bt.reportedGiver sender with
      | some g => { s with bt := (s.bt.silentReport s.bay.reserve sender g).table }
      | none => s
    else s
  | .image joiner img => if s.ssl.joinTaken then s.imageJoining sender joiner img else s
  | .imageEnd joiner result count => if s.ssl.joinTaken then s.imageEndJoining sender joiner result count else s
  | _ => if s.ssl.joinTaken then { s with bt := (s.bt.takeOther s.bay.reserve s.bay.mixersEquipped s.me sender n).1 } else s

/-! ### A take at an ATTACHED station -/

/-- R39 (d): the takes that show this station out of step. -/
def State.outOfStep (s : State) (sender : Nat) (n : Notice) : Bool :=
  match n with
  | .join _ _ _ | .formed => false
  | .image joiner _ => joiner == s.me || (s.bt.rosterAt sender).state == .absent
  | _ => (s.bt.rosterAt sender).state == .absent

/-- The table that a take leaves, and what it brings about. The strikes come before every offer (R16 (c)): the REVOKEs of the
holdings that end (R94), then the notices for joiners that stand ABSENT, which the cursor drops (R18), and what else the take has
the cursor do; then the tells and grants. -/
def State.takeEffects (s : State) (t : Table) (es : List Effect) (cursor : State → State) : State :=
  (cursor (({ s with bt := t }).applyEffects (es.filter Effect.ends)).cursorPrune).applyEffects (es.filter fun e => !e.ends)

/-- R31: a late JOIN of another station. -/
def State.joinAttached (s : State) (sender digest : Nat) (silent : Option Nat) : State :=
  let g := s.bt.lateJoin s.bay.reserve sender digest silent
  s.takeEffects g.table g.effects fun u => u.giveImage sender g.giver (s.bt.digestAgrees digest)

/-- R30: a FORMED. A new giver's cursor takes the joiner with the result of its JOIN (log entry 10). -/
def State.formedAttached (s : State) (sender : Nat) : State :=
  match s.bt.reportedGiver sender with
  | none => s.takeEffects s.bt [] id
  | some giver =>
    let g := s.bt.silentReport s.bay.reserve sender giver
    s.takeEffects g.table g.effects fun u => u.giveImage sender g.giver (s.bt.reportedResult sender)

/-- R18, R26, R33 (d), R35: an IMAGE or IMAGE END; the giver's cursor goes on at its own. -/
def State.imageAttached (s : State) (sender joiner : Nat) : State :=
  s.takeEffects (s.bt.markImageFrom sender joiner) [] fun u => if sender = s.me then u.cursorAdvance else u

def State.imageEndAttached (s : State) (sender joiner result : Nat) : State :=
  s.takeEffects (s.bt.imageEndFrom sender joiner result) [] fun u => if sender = s.me then u.cursorDrop joiner else u

/-- What the bay table does with a take that is applied, before the count and the roster check. -/
def State.applyTake (s : State) (sender : Nat) (n : Notice) : State :=
  match n with
  | .join _ digest silent => s.joinAttached sender digest silent
  | .formed => s.formedAttached sender
  | .image joiner _ => s.imageAttached sender joiner
  | .imageEnd joiner result _ => s.imageEndAttached sender joiner result
  | _ =>
    let g := s.bt.takeOther s.bay.reserve s.bay.mixersEquipped s.me sender n
    s.takeEffects g.1 g.2 id

/-- R14, R39 (c): after a take is applied: the count rises, and a station no longer PRESENT in its own roster goes DETACHED. -/
def State.afterTake (s : State) : State :=
  let s1 := s.modBt Table.counted
  if s1.bt.isPresent s1.me then s1 else s1.detach .purged

/-- A take at an ATTACHED station. Its own JOIN is not met there; it would leave the bay and join late (log entry 36). -/
def State.takeAttached (s : State) (sender : Nat) (n : Notice) : State :=
  if s.outOfStep sender n then s.detach .outOfStep
  else if sender = s.me ∧ n = .leave then s.ownLeave
  else if sender = s.me ∧ noticeKind n = 1 then (s.leaveBay .following).lateJoinSelf
  else (s.applyTake sender n).afterTake

/-! ### The delivery of a take (R10) -/

/-- R17 (b), R118: the channel whose struck CLAIM left the list untaken reports FAILED, stopped. -/
def State.struckTell (s : State) (e : Entry) : State :=
  match e.strikeHeld, e.owner with
  | true, .channel k =>
    if isClaimOf k e && (s.dc k).state == .claiming && (s.dc k).withdrawPending then s.report k (.failed .stopped) else s
  | _, _ => s

/-- R5, R9, R17 (b): the notice in transmission, if any, goes back to waiting; `refill` after a void. -/
def State.backToWaiting (s : State) (refill : Bool) : State :=
  match s.blu.current with
  | none => s
  | some e => ({ s with blu := s.blu.backToWaiting refill }).struckTell e

/-- R10: a notice taken is this station's own when it is the one it has in transmission (log entry 7). -/
def State.isOwnTake (s : State) (sender : Nat) (n : Notice) : Bool :=
  sender == s.me && s.blu.current.any fun e => e.notice == n

/-- R10 (a) to (c): the list, the counters and the turn-spent flag at a take. A notice of this station still in transmission
when another's is taken has lost contention (log entry 5). -/
def State.bookTake (s : State) (sender : Nat) (n : Notice) : State :=
  if s.isOwnTake sender n then { s with blu := s.blu.ownTaken n }
  else (s.backToWaiting false).modBlu Blu.otherTaken

/-- R10 (d), R2: the notice handed to the bay table. -/
def State.deliver (s : State) (sender : Nat) (n : Notice) : State :=
  match s.ssl.state with
  | .forming => s.takeForming sender n
  | .joining => s.takeJoining sender n
  | .attached => s.takeAttached sender n
  | .unset | .ready | .detached | .refused => s

/-- R10: a take, with what the order book makes of it at the same event. -/
def State.take (s : State) (sender : Nat) (n : Notice) : State :=
  if s.hears then ((s.bookTake sender n).deliver sender n).settle else s

end Sys2Proof.Machine
end

