-- ==== Sys2Proof/Machine/BayLine.lean ====
section
/-! DEFINITION. The meanings of the commands of the reset input and of the bay line short of a take. -/

namespace Sys2Proof.Machine

/-- R23, R155, R166, R174: every block at its reset values. The plant inputs stand as they stand (log entry 4); the free
counter and the queue are the model's own. -/
def execHardwareReset (s : State) : Host.Outcome State Fault Refusal :=
  .next { State.reset with pins := s.pins, pending := s.pending }

/-- R1: the first wait ends. -/
def execIdleWait (s : State) : Host.Outcome State Fault Refusal :=
  .next (if s.blu.listen = .firstWait then { s with blu := { s.blu with listen := .following } } else s)

/-- R15: the payload filled in as the station wins the line: always for IMAGE and IMAGE END, and afresh after a void. -/
def State.fillNotice (s : State) (e : Entry) : Notice :=
  match e.notice, e.owner with
  | .image j img, _ =>
    let now :=
      match img with
      | .rosterTokens _ _ _ => s.bt.imageOf .rosterTokens
      | .mixers _ _ => s.bt.imageOf .mixers
      | .line n _ => s.bt.imageOf (.line n)
    .image j (now.getD img)
  | .imageEnd j r _, _ => .imageEnd j r (s.bt.bayCount.getD 0)
  | .claim line _ _ _ _, .channel k => if e.refill ∧ (s.dc k).line = line then s.claimNotice k else e.notice
  | .mixClaim _ _ _, _ => if e.refill then ((s.awaitsMixer.map s.mixClaimNotice).getD e.notice) else e.notice
  | n, _ => n

/-- R4: the head notice is eligible. -/
def headEligible (b : Blu) : Bool :=
  match b.list with
  | [] => false
  | e :: _ => e.class_ == 0 || !b.turnSpent

/-- R15 (d): the head entry, filled and in transmission. -/
def State.transmitHead (s : State) : List Entry :=
  match s.blu.list with
  | [] => []
  | e :: rest => { e with notice := s.fillNotice e, transmitting := true, refill := false } :: rest

/-- R5: the head notice's contention value. -/
def State.ownContention (s : State) : Nat :=
  match s.blu.list with
  | [] => 0
  | e :: _ => contentionValue e.class_ s.me

/-- R4, R5: the station begins its head notice; it wins unless a rival's contention value is lower (log entry 5). -/
def State.beginNotice (s : State) (rival : Option Nat) : State :=
  if s.hears ∧ headEligible s.blu ∧ !s.transmitting then
    (if rival.any (fun v => v < s.ownContention) then s else { s with blu := { s.blu with list := s.transmitHead } })
  else s

def execBeginNotice (rival : Option Nat) (s : State) : Host.Outcome State Fault Refusal := .next (s.beginNotice rival)

/-- R13: 40 idle bit times. -/
def execTurnSpentIdleClear (s : State) : Host.Outcome State Fault Refusal :=
  .next
    (if s.blu.listen = .following ∧ !s.transmitting then { s with blu := { s.blu with turnSpent := false } } else s)

/-- R9: whether the void notice is this station's own: it was in transmission, and no other contention value was heard. -/
def State.isOwnVoid (s : State) (heard : Bits) : Bool :=
  match s.blu.current with
  | none => false
  | some e =>
    match heardContention heard with
    | none => true
    | some v => v == contentionValue e.class_ s.me

/-- R9, R12: the void of this station's own notice. -/
def State.ownVoid (s : State) : State :=
  let s1 := (s.backToWaiting true).modBlu fun b => { b with voids := b.voids + 1 }
  if 8 ≤ s1.blu.voids then s1.detach .bayJammed else s1

/-- R8, R9, R11: the void of another station's notice, to which this station objects if it heard a fault. -/
def State.otherVoid (s : State) (heard : Bits) : State :=
  let s1 := s.backToWaiting false
  if receptionFaulty heard then
    let s2 := s1.modBlu fun b => { b with objections := b.objections + 1 }
    if 4 ≤ s2.blu.objections then s2.detach .objectionLimit else s2
  else s1

/-- R9: a void. -/
def State.void (s : State) (heard : Bits) : State :=
  if s.hears then (if s.isOwnVoid heard then s.ownVoid else s.otherVoid heard).settle else s

def execVoid (heard : Bits) (s : State) : Host.Outcome State Fault Refusal := .next (s.void heard)

end Sys2Proof.Machine
end

