-- ==== Sys2Proof/Machine/Metering.lean ====
section
/-! DEFINITION. The meanings of the events of the metering pairs (chapter 7). A timer that is not running does not expire (log
entry 2). -/

namespace Sys2Proof.Machine

/-- R127. -/
def State.settleExpiry (s : State) (k : Nat) : State :=
  if (s.mp k).phase = .settle ∧ (s.mp k).settleTimer.isSome then s.periodStart k else s

def execSettleExpiry (pair : Nat) (s : State) : Host.Outcome State Fault Refusal := .next (s.settleExpiry pair)

/-- R129. -/
def State.valveExpiry (s : State) (k : Nat) : State :=
  if (s.mp k).phase = .opened ∧ (s.mp k).valveTimer.isSome then s.modMp k Pair.valveClose else s

def execValveExpiry (pair : Nat) (s : State) : Host.Outcome State Fault Refusal := .next (s.valveExpiry pair)

/-- R130: the period timer of a pair in CLOSED or DRAIN expires. -/
def State.capture (s : State) (k : Nat) : State :=
  if ((s.mp k).phase = .closed ∨ (s.mp k).phase = .drain) ∧ (s.mp k).periodTimer.isSome then (s.captureShot k).settle else s

def execCapture (pair : Nat) (s : State) : Host.Outcome State Fault Refusal := .next (s.capture pair)

/-- R125: a pulse of line n's tap meter counts at the pair bound to the line, if any. -/
def State.tapMeterPulse (s : State) (line : Nat) : State :=
  { s with mps := s.mps.map fun p => if p.bound = some line then p.pulse else p }

def execTapMeterPulse (line : Nat) (s : State) : Host.Outcome State Fault Refusal := .next (s.tapMeterPulse line)

end Sys2Proof.Machine
end

