-- ==== Sys2Proof/Machine/Timers.lean ====
section
/-! DEFINITION. The meanings of the expiries of the station timers (R25, R28, R36, R41) and of the hold timers (R91 to R93). A
timer that is not running does not expire, so the command then leaves the state as it is (log entry 2). -/

namespace Sys2Proof.Machine

/-- R25. -/
def State.firstListenExpiry (s : State) : State :=
  if s.ssl.state = .forming ∧ s.ssl.firstListen.isSome then
    (s.modSsl fun l => { l with firstListen := none }).offerJoin none
  else s

def execFirstListenExpiry (s : State) : Host.Outcome State Fault Refusal := .next s.firstListenExpiry

/-- R28. -/
def State.formationWindowExpiry (s : State) : State :=
  if s.ssl.state = .forming ∧ s.ssl.formationWindow.isSome then
    let s1 := s.modSsl fun l => { l with formationWindow := none }
    if s.bt.formationOpen ∧ !s.ssl.lateMark then s1.offer .formed .stationLogic else s1
  else s

def execFormationWindowExpiry (s : State) : Host.Outcome State Fault Refusal := .next s.formationWindowExpiry

/-- R36 (a): the station gives up joining. -/
def State.giveUpJoining (s : State) : State :=
  ((({ s with bt := Table.empty }).strike isOwnJoin).modSsl fun l =>
    { l with
      emptyTimeouts := 0, lateMark := false, joinTaken := false, knownGiver := none, imageTimer := none,
      firstListen := some 500 }).enter .forming

/-- R36: the expiry is empty when no IMAGE for this station has come since its own last JOIN take, and so no giver is known. -/
def State.imageTimerExpiry (s : State) : State :=
  if s.ssl.state = .joining ∧ s.ssl.imageTimer.isSome then
    if s.ssl.knownGiver = none ∧ s.ssl.emptyTimeouts = 1 then s.giveUpJoining
    else
      (s.modSsl fun l =>
        { l with
          imageTimer := none
          emptyTimeouts := if l.knownGiver = none then l.emptyTimeouts + 1 else l.emptyTimeouts }).offerJoin s.ssl.knownGiver
  else s

def execImageTimerExpiry (s : State) : Host.Outcome State Fault Refusal := .next s.imageTimerExpiry

/-- R41: the end of the rejoin delay. -/
def State.rejoinTimerExpiry (s : State) : State :=
  if s.ssl.state = .detached ∧ s.ssl.rejoinTimer.isSome then
    if s.ssl.leavePending then
      ((s.modSsl fun l => { l with rejoinTimer := none, leavePending := false }).modBlu fun b =>
        { b with listen := .off }).enter .ready
    else ((s.modSsl fun l => { l with rejoinTimer := none, joinTaken := false }).enter .joining).offerJoin none
  else s

def execRejoinTimerExpiry (s : State) : Host.Outcome State Fault Refusal := .next s.rejoinTimerExpiry

/-- R87: whether a hold timer of a role runs, and so can expire. -/
def State.canExpire (s : State) (key : HoldKey) (role : TimerRole) : Bool :=
  (s.timer (timerIndex key)).state == .running && (s.timer (timerIndex key)).role == role

/-- R87: the timer goes to EXPIRED. -/
def State.expireTimer (s : State) (key : HoldKey) : State :=
  s.modTimer (timerIndex key) fun t => { t with state := .expired }

/-- R91, R117: the holder's own timer for a line. -/
def State.ownLineTimerExpiry (s : State) (line : Nat) : State :=
  if s.canExpire (.line line) .own then
    match s.worker line with
    | some k => ((s.expireTimer (.line line)).ownLimit k).settle
    | none => s.expireTimer (.line line)
  else s

def execOwnLineTimerExpiry (line : Nat) (s : State) : Host.Outcome State Fault Refusal := .next (s.ownLineTimerExpiry line)

/-- R148: the run line dropped if this order raised it. -/
def State.dropRunOf (s : State) (slot m : Nat) : State :=
  if ((s.order slot).map Order.runRaised).getD false then s.dropRun m else s

/-- R92, R148: the holder's own timer for a mixer. An order already gone from MIXING has offered its MIX RELEASE. -/
def State.ownMixerTimerExpiry (s : State) (m : Nat) : State :=
  if s.canExpire (.mixer m) .own then
    match s.mixingOn m with
    | some slot => ((((s.expireTimer (.mixer m)).dropRunOf slot m).endMix slot m .fault .mixIncomplete .mixerFault)).settle
    | none => s.expireTimer (.mixer m)
  else s

def execOwnMixerTimerExpiry (mixer : Nat) (s : State) : Host.Outcome State Fault Refusal := .next (s.ownMixerTimerExpiry mixer)

/-- R93: the bay table still shows the holding that a timer was loaded with. -/
def Table.shows (t : Table) (key : HoldKey) (holder grant : Nat) : Bool :=
  match key with
  | .line n => (t.line n).any fun r => r.holder.any (releaseMatches holder grant)
  | .mixer m => t.pool.any fun p => (p.recs[m]?).any (mixerMatches holder grant)

/-- R93: a WATCH timer. -/
def State.watchTimerExpiry (s : State) (key : HoldKey) : State :=
  if s.canExpire key .watch then
    let t := s.timer (timerIndex key)
    if s.bt.shows key t.holder t.grant then (s.expireTimer key).offer (.revoke key t.holder t.grant) .holdTimers
    else s.expireTimer key
  else s

def execWatchTimerExpiry (subject : HoldKey) (s : State) : Host.Outcome State Fault Refusal := .next (s.watchTimerExpiry subject)

end Sys2Proof.Machine
end

