-- ==== Sys2Proof/Machine/Plant.lean ====
section
/-! DEFINITION. The meanings of the plant's events (chapter 9). A timer that is not running does not expire, and an input that
stands as the command says does not change (log entry 2). -/

namespace Sys2Proof.Machine

/-! ### The cradle (R156) -/

/-- R156: the tin-present input rises: the seating timer starts for 100 ms. -/
def State.tinPresentRise (s : State) : State :=
  if s.pins.tinPresent then s
  else
    { s with
      pins := { s.pins with tinPresent := true }
      pdu := { s.pdu with seatingTimer := some 100 } }

def execTinPresentRise (s : State) : Host.Outcome State Fault Refusal := .next s.tinPresentRise

/-- R140, R156: tin arrived, with the code read. -/
def State.seatingTimerExpiry (s : State) (code : Nat) : State :=
  if s.pdu.seatingTimer.isSome ∧ s.pins.tinPresent then
    let s1 := s.modPdu fun p => { p with seatingTimer := none, arrived := some code }
    (match s1.cradleIn .loading with
      | some slot => s1.judgeTin slot code
      | none => s1).settle
  else s

def execSeatingTimerExpiry (code : Nat) (s : State) : Host.Outcome State Fault Refusal := .next (s.seatingTimerExpiry code)

/-- R140, R141: tin removed, at the cradle order. That the wrong-tin mark of an order cancelled out of LOADING stands while it waits
in DONE is the model's choice (log entry 49). -/
def State.tinRemoved (s : State) : State :=
  match s.obu.cradle with
  | none => s
  | some slot =>
    match s.stageAt slot with
    | some .loading => s.modOrder slot fun o => { o with wrongTin := false }
    | some .base | some .tint => (s.cancelOrder slot).getD s
    | _ => s

/-- R156: the tin-present input falls. -/
def State.tinPresentFall (s : State) : State :=
  if !s.pins.tinPresent then s
  else
    let s1 :=
      { s with
        pins := { s.pins with tinPresent := false }
        pdu := { s.pdu with seatingTimer := none, arrived := none } }
    if s.pdu.seatingTimer.isNone ∧ s.pdu.arrived.isSome then s1.tinRemoved.settle else s1

def execTinPresentFall (s : State) : Host.Outcome State Fault Refusal := .next s.tinPresentFall

/-! ### Base fill (R157 to R159) -/

def State.modFill (s : State) (f : Fill → Fill) : State := s.modPdu fun p => { p with fill := f p.fill }

/-- R158. -/
def execBaseMeterPulse (s : State) : Host.Outcome State Fault Refusal := .next (s.modFill Fill.pulse)

/-- The fill is in FAST or SLOW. -/
def Fill.running (f : Fill) : Bool := f.phase == .fast || f.phase == .slow

/-- R157: the next period starts at once. -/
def execBasePeriodExpiry (s : State) : Host.Outcome State Fault Refusal :=
  .next (if s.pdu.fill.running ∧ s.pdu.fill.periodTimer.isSome then s.modFill Fill.periodStart else s)

/-- R157: the duty timer was loaded with the whole period (its ticks are 0.1 ms, the period is in ms), so that its end is the
period's end and the pump runs on without a break (log entry 46). -/
def Fill.unbroken (f : Fill) : Bool :=
  match f.dutyTimer, f.periodTimer with
  | some duty, some period => 10 * period ≤ duty
  | _, _ => false

/-- R157: the end of the duty: the pump goes off for the rest of the period, if there is a rest. -/
def Fill.dutyEnd (f : Fill) : Fill := { f with pump := f.pump && f.unbroken, dutyTimer := none }

def execDutyTimerExpiry (s : State) : Host.Outcome State Fault Refusal :=
  .next (if s.pdu.fill.running ∧ s.pdu.fill.dutyTimer.isSome then s.modFill Fill.dutyEnd else s)

/-- R159: base fault, limit. -/
def State.fillLimitExpiry (s : State) : State :=
  if s.pdu.fill.running ∧ s.pdu.fill.limitTimer.isSome then
    ((s.modFill Fill.rest).baseFaulted s.pdu.fill.counter .limit).settle
  else s

def execFillLimitExpiry (s : State) : Host.Outcome State Fault Refusal := .next s.fillLimitExpiry

/-- R158: the fill is judged. -/
def State.runOnExpiry (s : State) : State :=
  if s.pdu.fill.phase = .runOn ∧ s.pdu.fill.runOnTimer.isSome then
    (if s.pdu.fill.overrun then (s.modFill Fill.rest).baseFaulted s.pdu.fill.counter .overrun
      else (s.modFill Fill.rest).baseDone s.pdu.fill.counter).settle
  else s

def execRunOnExpiry (s : State) : Host.Outcome State Fault Refusal := .next s.runOnExpiry

/-! ### Lid press (R160) -/

def State.modPress (s : State) (f : Press → Press) : State := s.modPdu fun p => { p with press := f p.press }

/-- R160 (b), (c): the press output is raised, with lid-home as it is at that moment. -/
def Press.lower (p : Press) (lidHome : Bool) : Press :=
  { p with phase := .press, seatTimer := none, pressTimer := some p.pressWidth, output := true, homeSeen := p.homeSeen || lidHome }

def execSeatTimerExpiry (lidHome : Bool) (s : State) : Host.Outcome State Fault Refusal :=
  .next
    (if s.pdu.press.phase = .seat ∧ s.pdu.press.seatTimer.isSome then s.modPress fun p => p.lower lidHome else s)

/-- R160 (c): lid-home comes on while the press output is up. -/
def execLidHomeOn (s : State) : Host.Outcome State Fault Refusal :=
  .next (if s.pdu.press.phase = .press then s.modPress fun p => { p with homeSeen := true } else s)

/-- R160 (d): the press output is dropped and the press is at rest. -/
def Press.lift (p : Press) : Press := { p with phase := .idle, pressTimer := none, output := false }

/-- R160 (d), R165: lid home, the second try, or lid fault. -/
def State.pressTimerExpiry (s : State) : State :=
  if s.pdu.press.phase = .press ∧ s.pdu.press.pressTimer.isSome then
    if s.pdu.press.homeSeen then (s.modPress Press.lift).lidHome.settle
    else if s.pdu.press.tries = 1 then
      s.modPress fun p => p.lift.startTry 2 s.cal.seatDelay s.cal.pressWidth
    else (s.modPress Press.lift).lidFaulted.settle
  else s

def execPressTimerExpiry (s : State) : Host.Outcome State Fault Refusal := .next s.pressTimerExpiry

/-! ### Transfers and the chute (R161 to R163) -/

/-- R161: the pulse has ended. -/
def State.pusherPulseExpiry (s : State) (p : Pusher) : State :=
  if (s.pusher p).phase = .pulse ∧ (s.pusher p).pulseTimer.isSome then
    if s.arrived p then ((s.modPusher p OpRec.rest).transferConfirmed p).settle else s.modPusher p OpRec.confirm
  else s

def execPusherPulseExpiry (pusher : Pusher) (s : State) : Host.Outcome State Fault Refusal := .next (s.pusherPulseExpiry pusher)

/-- R161: the transfer limit has run out. -/
def State.confirmTimerExpiry (s : State) (p : Pusher) : State :=
  if (s.pusher p).phase = .confirm ∧ (s.pusher p).confirmTimer.isSome then
    ((s.modPusher p OpRec.rest).transferFailed p).settle
  else s

def execConfirmTimerExpiry (pusher : Pusher) (s : State) : Host.Outcome State Fault Refusal :=
  .next (s.confirmTimerExpiry pusher)

/-- R161: a change of the sensor concerned in CONFIRM. -/
def State.confirmBySensor (s : State) (p : Pusher) : State :=
  if (s.pusher p).phase = .confirm ∧ s.arrived p then (s.modPusher p OpRec.rest).transferConfirmed p else s

/-- R147, R161, R163: the outfeed sensor changes. -/
def State.outfeedSensorChange (s : State) (on : Bool) : State :=
  if s.pins.outfeed = on then s
  else
    let s1 := ({ s with pins := { s.pins with outfeed := on } })
    if on then (s1.confirmBySensor .toOutfeed).settle else (s1.confirmBySensor .toShelf).outfeedEmptied.settle

def execOutfeedSensorChange (on : Bool) (s : State) : Host.Outcome State Fault Refusal := .next (s.outfeedSensorChange on)

/-- R148, R161: mixer m's occupied input changes. -/
def State.occupiedInputChange (s : State) (m : Nat) (on : Bool) : State :=
  if s.occupied m = on then s
  else (({ s with pins := { s.pins with occupied := s.pins.occupied.set m on } }).confirmBySensor (.toMixer m)).settle

def execOccupiedInputChange (mixer : Nat) (on : Bool) (s : State) : Host.Outcome State Fault Refusal :=
  .next (s.occupiedInputChange mixer on)

/-- R149, R162: the chute pulse has ended: the cradle is freed and the order enters DONE. -/
def State.chutePulseEnded (s : State) : State :=
  if s.pdu.chute.phase = .pulse then
    let s1 := s.modPdu fun p => { p with chute := p.chute.rest }
    (match s1.cradleIn .reject with
      | some slot => s1.finish slot .spoiled (((s1.order slot).bind Order.reason).getD .none)
      | none => s1).settle
  else s

def execChutePulseEnded (s : State) : Host.Outcome State Fault Refusal := .next s.chutePulseEnded

/-! ### Mixer drive (R164) -/

/-- R164 (c): the run line is released; the mark is set if the done input is off. -/
def RunRec.await (r : RunRec) (doneInput : Bool) : RunRec :=
  { r with phase := .awaitDone, runTimer := none, runLine := false, doneArmed := !doneInput }

def State.runTimerExpiry (s : State) (m : Nat) : State :=
  if (s.run m).phase = .running ∧ (s.run m).runTimer.isSome then s.modRun m fun r => r.await (s.doneInput m) else s

def execRunTimerExpiry (mixer : Nat) (s : State) : Host.Outcome State Fault Refusal := .next (s.runTimerExpiry mixer)

def State.setDoneInput (s : State) (m : Nat) (on : Bool) : State :=
  { s with pins := { s.pins with doneInput := s.pins.doneInput.set m on } }

/-- R148 (d), R164 (d): the done input rises. -/
def State.doneInputRise (s : State) (m : Nat) : State :=
  if s.doneInput m then s
  else if (s.run m).phase = .awaitDone ∧ (s.run m).doneArmed then
    (((s.setDoneInput m true).modRun m fun _ => RunRec.rest).mixerDone m).settle
  else s.setDoneInput m true

def execDoneInputRise (mixer : Nat) (s : State) : Host.Outcome State Fault Refusal := .next (s.doneInputRise mixer)

/-- R164 (c): the done input falls. -/
def State.doneInputFall (s : State) (m : Nat) : State :=
  if !s.doneInput m then s
  else if (s.run m).phase = .awaitDone then
    (s.setDoneInput m false).modRun m fun r => { r with doneArmed := true }
  else s.setDoneInput m false

def execDoneInputFall (mixer : Nat) (s : State) : Host.Outcome State Fault Refusal := .next (s.doneInputFall mixer)

end Sys2Proof.Machine
end

