-- ==== Sys2Proof/Machine/Takes.lean ====
section
/-! DEFINITION. The meanings of the eighteen takes (R10): each hands its notice to `State.take`. -/

namespace Sys2Proof.Machine

/-- The take of JOIN (R25, R27, R30 to R32). -/
def execJoinTaken (sender station digest : Nat) (silentGiver : Option Nat) (s : State) : Host.Outcome State Fault Refusal :=
  .next (s.take sender (.join station digest silentGiver))

/-- The take of FORMED (R28 to R30). -/
def execFormedTaken (sender : Nat) (s : State) : Host.Outcome State Fault Refusal :=
  .next (s.take sender (.formed))

/-- The take of IMAGE (R33). -/
def execImageTaken (sender joiner : Nat) (img : Image) (s : State) : Host.Outcome State Fault Refusal :=
  .next (s.take sender (.image joiner img))

/-- The take of IMAGE END (R35). -/
def execImageEndTaken (sender joiner result bayCount : Nat) (s : State) : Host.Outcome State Fault Refusal :=
  .next (s.take sender (.imageEnd joiner result bayCount))

/-- The take of LEAVE (R38). -/
def execLeaveTaken (sender : Nat) (s : State) : Host.Outcome State Fault Refusal :=
  .next (s.take sender (.leave))

/-- The take of CLAIM (R57, R58). -/
def execClaimTaken (sender line shots drops level rush : Nat) (s : State) : Host.Outcome State Fault Refusal :=
  .next (s.take sender (.claim line shots drops level rush))

/-- The take of WITHDRAW (R59). -/
def execWithdrawTaken (sender line : Nat) (s : State) : Host.Outcome State Fault Refusal :=
  .next (s.take sender (.withdraw line))

/-- The take of RELEASE (R60 to R63). -/
def execReleaseTaken (sender line grant drops outcome : Nat) (s : State) : Host.Outcome State Fault Refusal :=
  .next (s.take sender (.release line grant drops outcome))

/-- The take of REFILL (R64). -/
def execRefillTaken (sender line level : Nat) (s : State) : Host.Outcome State Fault Refusal :=
  .next (s.take sender (.refill line level))

/-- The take of LINE OUT (R65). -/
def execLineOutTaken (sender line : Nat) (s : State) : Host.Outcome State Fault Refusal :=
  .next (s.take sender (.lineOut line))

/-- The take of LINE RETURN (R66). -/
def execLineReturnTaken (sender line level : Nat) (s : State) : Host.Outcome State Fault Refusal :=
  .next (s.take sender (.lineReturn line level))

/-- The take of RUSH TAKE (R72). -/
def execRushTakeTaken (sender tag : Nat) (s : State) : Host.Outcome State Fault Refusal :=
  .next (s.take sender (.rushTake tag))

/-- The take of RUSH DROP (R73). -/
def execRushDropTaken (sender token : Nat) (s : State) : Host.Outcome State Fault Refusal :=
  .next (s.take sender (.rushDrop token))

/-- The take of MIX CLAIM (R79). -/
def execMixClaimTaken (sender mixTime level rush : Nat) (s : State) : Host.Outcome State Fault Refusal :=
  .next (s.take sender (.mixClaim mixTime level rush))

/-- The take of MIX WITHDRAW (R80). -/
def execMixWithdrawTaken (sender : Nat) (s : State) : Host.Outcome State Fault Refusal :=
  .next (s.take sender (.mixWithdraw))

/-- The take of MIX RELEASE (R81). -/
def execMixReleaseTaken (sender mixer grant outcome : Nat) (s : State) : Host.Outcome State Fault Refusal :=
  .next (s.take sender (.mixRelease mixer grant outcome))

/-- The take of MIXER RETURN (R82). -/
def execMixerReturnTaken (sender mixer : Nat) (s : State) : Host.Outcome State Fault Refusal :=
  .next (s.take sender (.mixerReturn mixer))

/-- The take of REVOKE (R95). -/
def execRevokeTaken (sender : Nat) (subject : HoldKey) (holder grant : Nat) (s : State) : Host.Outcome State Fault Refusal :=
  .next (s.take sender (.revoke subject holder grant))

end Sys2Proof.Machine
end

