-- ==== Sys2Proof/Machine/Replies.lean ====
section
/-! DEFINITION. Replies: the reports they carry (R70, R86, R171), their bytes (R177), and the one-reply discipline of the
transmitter (R168). -/

namespace Sys2Proof.Machine

/-! ### Reports -/

/-- R171 (a). The counts are 0 in UNSET as the blocks hold them; with no setup there is no station number or digest. -/
def State.stationReport (s : State) : StationReport :=
  { state := s.ssl.state, station := s.setup.map fun st => st.block.cal.station, digest := s.setup.map fun st => st.digest,
    bayCount := s.bt.bayCount.getD 0, lastDetach := s.ssl.lastDetach, leavePending := s.ssl.leavePending,
    liveOrders := s.obu.live, tickets := s.tlu.tickets.length, notices := s.blu.list.length,
    terminalNotices := terminalCount s.blu.list, objections := s.blu.objections, voids := s.blu.voids }

/-- R171 (b): the records of the channels working the order in a slot, with their pairs. Their order, by rising channel number, is
the model's choice (log entry 52). -/
def State.channelReports (s : State) (slot : Nat) : List ChannelReport :=
  ([0, 1, 2, 3].filter fun k => s.worksFor slot k).map fun k =>
    { channel := s.dc k, phase := (s.mp k).phase, bound := (s.mp k).bound, lastShot := (s.mp k).lastShot,
      lastOverflow := (s.mp k).lastOverflow }

/-- R171 (b): the fault kind, reported when the order's reason is base fault. -/
def Order.faultShown (o : Order) : Option BaseFault := if o.reason = some .baseFault then o.baseFault else none

/-- R70: the line view of an equipped line. A JOINING station before its own JOIN's take reports not imaged (log entry 12). -/
def State.lineView (s : State) (line : Nat) : LineView :=
  match s.bt.line line with
  | some r => .full line r (lineLow s.bay.reserve r) (lineStatus r)
  | none => if s.bt.lines.isEmpty ∧ s.ssl.state ≠ .joining then .noTable line else .notImaged line

/-- R86: the pool view. -/
def State.poolView (s : State) : PoolView :=
  match s.bt.pool with
  | some p => .full p s.bt.tokens
  | none => if s.bt.lines.isEmpty ∧ s.ssl.state ≠ .joining then .noTable else .notImaged s.bt.tokens

/-! ### Bytes (R176, R177). Enumerations are positions in the order in which the spec lists the values (log entry 23). -/

/-- R23, R103, R123: "set or clear": set is 0 and clear is 1. A mark listed without its values is carried alike (log entry 23). -/
def markCode (set : Bool) : Nat := if set then 0 else 1

def resultCode : ReplyResult → Nat
  | .accepted => 0
  | .queued => 1
  | .busy => 2
  | .badField => 3
  | .wrongState => 4
  | .noSlot => 5
  | .duplicateTag => 6
  | .unknownTag => 7
  | .late => 8
  | .lineOut => 9
  | .notEquipped => 10

def stationStateCode : StationState → Nat
  | .unset => 0
  | .ready => 1
  | .forming => 2
  | .joining => 3
  | .attached => 4
  | .detached => 5
  | .refused => 6

def detachReasonCode : DetachReason → Nat
  | .none => 0
  | .objectionLimit => 1
  | .bayJammed => 2
  | .purged => 3
  | .outOfStep => 4

def channelStateCode : ChannelState → Nat
  | .idle => 0
  | .claiming => 1
  | .waiting => 2
  | .settling => 3
  | .shooting => 4
  | .releasing => 5
  | .withdrawing => 6

def modeCode : Mode → Nat
  | .single => 0
  | .block => 1
  | .whole => 2

def stopCauseCode : StopCause → Nat
  | .none => 0
  | .ownLimit => 1
  | .stopped => 2
  | .lineOut => 3
  | .detached => 4

def failReasonCode : FailReason → Nat
  | .lineOut => 0
  | .over => 1
  | .under => 2
  | .runaway => 3
  | .detached => 4
  | .stopped => 5

def pairPhaseCode : PairPhase → Nat
  | .stopped => 0
  | .settle => 1
  | .opened => 2
  | .closed => 3
  | .drain => 4

def stageCode : Stage → Nat
  | .queued => 0
  | .loading => 1
  | .base => 2
  | .tint => 3
  | .lid => 4
  | .outfeedWait => 5
  | .mixWait => 6
  | .mixing => 7
  | .shelf => 8
  | .reject => 9
  | .done => 10

def priorityCode : Priority → Nat
  | .p0 => 0
  | .p1 => 1
  | .p2 => 2
  | .hold => 3

def rushResultCode : RushResult → Nat
  | .notAsked => 0
  | .pending => 1
  | .a => 2
  | .b => 3
  | .refused => 4

def ticketRushCode : RushResult → Nat
  | .notAsked => 0
  | .pending => 0
  | .a => 1
  | .b => 2
  | .refused => 3

def orderOutcomeCode : OrderOutcome → Nat
  | .filled => 0
  | .cancelled => 1
  | .spoiled => 2
  | .mixIncomplete => 3

def orderReasonCode : OrderReason → Nat
  | .none => 0
  | .cancelled => 1
  | .lineOut => 2
  | .over => 3
  | .under => 4
  | .runaway => 5
  | .baseFault => 6
  | .lidFault => 7
  | .transferFault => 8
  | .mixerFault => 9
  | .detached => 10

def baseFaultCode : BaseFault → Nat
  | .overrun => 0
  | .limit => 1

def lineStatusCode : LineStatus → Nat
  | .out => 0
  | .held => 1
  | .free => 2
  | .stalled => 3

/-- "yes or no": yes is 0. -/
def yesCode (b : Bool) : Nat := if b then 0 else 1

/-- An optional number that is no station, tag or mix time. -/
def optByte : Option Nat → Nat
  | none => Config.absentByte.toNat
  | some n => n

/-- R177: a list is carried as a count byte followed by its items. -/
def countedBytes {α : Type} (l : List α) (f : α → List ByteVal) : List ByteVal := l.length :: l.flatMap f

/-- R103: the reasons of a pending FAILED, in the order of that rule; the last two are not met there. -/
def pendingReasonCode : FailReason → Nat
  | .over => 0
  | .under => 1
  | .runaway => 2
  | .stopped => 3
  | .lineOut => 4
  | .detached => 5

/-- R138: the position of the outcome; FAILED is followed by its reason (log entry 23). -/
def entryOutcomeBytes : EntryOutcome → List ByteVal
  | .notDosed => [0]
  | .done => [1]
  | .failed r => [2, failReasonCode r]

/-- R103: the position of the pending result; FAILED is followed by its reason (log entry 23). -/
def pendingResultBytes : PendingResult → List ByteVal
  | .none => [0]
  | .goOn => [1]
  | .done => [2]
  | .failed r => [3, pendingReasonCode r]

/-- R103, R176 (a): a plan's shot count in one byte; a count past 255 has a free byte (log entry 22). -/
def planShotsByte (shots : Nat) : ByteVal := if shots < 256 then shots else (Config.manyShotsByte shots).toNat

/-- R103, R176 (b): the balance, an amount of drops, in two bytes; one below 0 has a free value (log entry 22). -/
def balanceBytes (balance : Int) : List ByteVal :=
  if 0 ≤ balance then twoBytes balance.toNat else twoBytes (Config.negativeBalance balance.natAbs).toNat

def stationReportBytes (r : StationReport) : List ByteVal :=
  [stationStateCode r.state, optStationByte r.station]
    ++ twoBytes (r.digest.getD Config.noDigest.toNat) ++ twoBytes r.bayCount
    ++ [detachReasonCode r.lastDetach, markCode r.leavePending, r.liveOrders, r.tickets, r.notices, r.terminalNotices,
      r.objections, r.voids]

/-- R103, then R123; the trims used and the final-in-grant mark in a byte of their own each (log entry 23). -/
def channelReportBytes (r : ChannelReport) : List ByteVal :=
  let c := r.channel
  [channelStateCode c.state, c.line, c.slot, c.entry] ++ twoBytes c.ordered ++ twoBytes c.delivered
    ++ [modeCode c.mode, c.trimsUsed, planShotsByte c.plan.full] ++ twoBytes c.plan.trim
    ++ [planShotsByte c.plan.planned, c.grant.number, c.grant.askedShots] ++ twoBytes c.grant.askedDrops
    ++ [c.grant.shotsDone] ++ twoBytes c.grant.drops ++ [markCode c.grant.final] ++ balanceBytes c.balance
    ++ [markCode c.granted, markCode c.withdrawPending, stopCauseCode c.stopCause] ++ pendingResultBytes c.result
    ++ [pairPhaseCode r.phase, optByte r.bound] ++ twoBytes r.lastShot ++ [markCode r.lastOverflow]

/-- R138. The entry results are carried as a list, behind their count (log entry 42), and each mark in a byte of its own (log entry
23). -/
def orderReportBytes (o : Order) : List ByteVal :=
  twoBytes o.tag ++ [o.size] ++ twoBytes o.base ++ [priorityCode o.priority, yesCode o.rush, yesCode o.lid]
    ++ twoBytes o.mixTime ++ countedBytes o.entries (fun e => e.line :: twoBytes e.drops ++ [modeCode e.mode])
    ++ [stageCode o.stage] ++ countedBytes o.results (fun r => entryOutcomeBytes r.outcome ++ twoBytes r.delivered)
    ++ twoBytes o.baseDelivered
    ++ [rushResultCode o.rushResult, optByte o.mixerUsed, optByte (o.outcome.map orderOutcomeCode),
      optByte (o.reason.map orderReasonCode), o.admission, markCode o.baseFinished, markCode o.wrongTin,
      markCode o.mixClaimOffered, markCode o.runRaised]

/-- R45, each field in its own byte or bytes. -/
def claimReportBytes (c : Claim) : List ByteVal :=
  [c.station, c.askedShots] ++ twoBytes c.askedDrops ++ [c.requested, c.effective, c.passed, rushCode c.rush]

/-- R75. -/
def mixClaimReportBytes (c : MixClaim) : List ByteVal :=
  c.station :: twoBytes c.mixTime ++ [c.requested, c.effective, c.passed, rushCode c.rush]

/-- R70: no table, not imaged or a full view, by position. An absent holder is carried as R178 has it in a notice (log
entry 41). -/
def lineViewBytes : LineView → List ByteVal
  | .noTable line => [line, 0]
  | .notImaged line => [line, 1]
  | .full line r low status =>
    [line, 2, serviceCode r.service] ++ threeBytes r.level ++ [(Config.lowByte low).toNat, lineStatusCode status, r.grant]
      ++ holderBytes r.holder ++ countedBytes r.waiting claimReportBytes

def tokensBytes : Option Tokens → List ByteVal
  | none => []
  | some tk => tokenBytes tk.a ++ tokenBytes tk.b

/-- R86: no table, not imaged or a full view, by position. The mixer records are carried as a list, behind their count (log
entry 42). -/
def poolViewBytes : PoolView → List ByteVal
  | .noTable => [0]
  | .notImaged tokens => 1 :: tokensBytes tokens
  | .full p tokens =>
    2 :: countedBytes p.recs mixRecBytes ++ countedBytes p.waiting mixClaimReportBytes ++ tokensBytes tokens

/-- R153. -/
def ticketBytes (t : Ticket) : List ByteVal :=
  twoBytes t.tag ++ [orderOutcomeCode t.outcome, orderReasonCode t.reason] ++ twoBytes t.baseDelivered
    ++ countedBytes t.entries twoBytes ++ [optByte t.mixerUsed, ticketRushCode t.rushResult]

/-- R177: the data of a reply, in the order of the rule that judges the command. QUERY ORDER's channel records are carried as a
list, behind their count (log entry 42). -/
def replyDataBytes : ReplyData → List ByteVal
  | .nothing => []
  | .slot n => [n]
  | .station r => stationReportBytes r
  | .order o channels fault =>
    orderReportBytes o ++ countedBytes channels channelReportBytes
      ++ (match fault with | some f => [baseFaultCode f] | none => [])
  | .line v => lineViewBytes v
  | .mixers v => poolViewBytes v
  | .ticket t => ticketBytes t

/-- R177: the kind byte of a reply; for a command kind of 128 or above the sum is no byte (log entry 21). -/
def replyKind (kind : Nat) : Nat := if kind < 128 then kind + 128 else (Config.replyKindByte kind).toNat

/-- R177: the frame of a reply. -/
def Reply.frame (r : Reply) : List ByteVal := frameBytes (replyKind r.kind) (resultCode r.result :: replyDataBytes r.data)

/-! ### One reply at a time (R168) -/

/-- What a command comes to: the state it leaves, and its reply. -/
structure Answer where
  state : State
  result : ReplyResult
  data : ReplyData
  deriving DecidableEq, Repr

/-- A refused command changes nothing (10.2). -/
def Answer.refuse (s : State) (r : ReplyResult) : Answer := { state := s, result := r, data := .nothing }

/-- R168: a frame of this kind arrives while a reply is being sent. -/
def Tlu.busy (t : Tlu) (kind : Nat) : Tlu :=
  match t.pendingReply with
  | none => { t with receiver := .hunting, pendingReply := some { kind := kind, result := .busy, data := .nothing } }
  | some _ => { t with receiver := .hunting }

/-- R167, R168: the transmitter takes a reply; the receiver is HUNTING again. -/
def Tlu.reply (t : Tlu) (kind : Nat) (a : Answer) : Tlu :=
  { t with receiver := .hunting, sending := some { kind := kind, result := a.result, data := a.data } }

/-- R167, R168: a command of the terminal: acted on and answered while the transmitter is IDLE. -/
def State.command (s : State) (kind : Nat) (act : State → Answer) : State :=
  match s.tlu.sending with
  | some _ => s.modTlu fun t => t.busy kind
  | none => (act s).state.modTlu fun t => t.reply kind (act s)

end Sys2Proof.Machine
end

