-- ==== Sys2Proof/Machine/Terminal.lean ====
section
/-! DEFINITION. The meanings of the terminal's commands and of the terminal link's events (chapter 10). -/

namespace Sys2Proof.Machine

/-- R21, log entry 20: the duty register of an idle fill takes the fast duty of the setup. -/
def Fill.presetDuty (fastDuty : Nat) (f : Fill) : Fill := if f.phase = .idle then { f with dutyRegister := fastDuty } else f

/-- R21, R22, R136: a SETUP accepted. -/
def State.acceptSetup (s : State) (block : SetupBlock) : State :=
  State.enter
    { s with
      setup := some { block := block, digest := bayDigest block.bay }
      blu := { s.blu with listen := .off }
      pdu := { s.pdu with fill := s.pdu.fill.presetDuty block.cal.fastDuty } }
    .ready

/-- R21, R136, R169: SETUP. -/
def State.setupAnswer (block : SetupBlock) (s : State) : Answer :=
  if s.ssl.state = .unset ∨ s.ssl.state = .ready ∨ s.ssl.state = .refused then
    if s.dcs.any (fun c => c.state != .idle) then .refuse s .busy
    else if setupInRange block then { state := s.acceptSetup block, result := .accepted, data := .nothing }
    else .refuse s .badField
  else .refuse s .wrongState

def execSetup (block : SetupBlock) (s : State) : Host.Outcome State Fault Refusal :=
  .next (s.command 1 (State.setupAnswer block))

/-- R1, R24: START accepted. -/
def State.acceptStart (s : State) : State :=
  (({ s with
      bt := Table.empty
      blu := { s.blu with listen := .firstWait } }).modSsl fun l =>
    { l with lateMark := false, joinTaken := false, knownGiver := none, firstListen := some 500 }).enter .forming

/-- R24: START. -/
def State.startAnswer (s : State) : Answer :=
  if s.ssl.state = .ready then { state := s.acceptStart, result := .accepted, data := .nothing } else .refuse s .wrongState

def execStart (s : State) : Host.Outcome State Fault Refusal := .next (s.command 2 State.startAnswer)

/-- R16 (b), R170: a notice from a terminal command: QUEUED, or BUSY with nothing left behind. -/
def State.queueTerminal (s : State) (n : Notice) (s' : Blu → State) : Answer :=
  match s.blu.offerTerminal n with
  | some b => { state := s' b, result := .queued, data := .nothing }
  | none => .refuse s .busy

/-- R37: this station holds a line or a mixer in its bay table. -/
def State.holdsAny (s : State) : Bool :=
  s.bt.lines.any (fun r => (r.bind LineRec.holder).any fun h => h.station == s.me)
    || s.bt.pool.any fun p => p.recs.any fun r => r.state == .held && r.holder == some s.me

/-- R37: every live order is in QUEUED or LOADING. -/
def State.ordersAllowLeave (s : State) : Bool :=
  s.obu.slots.all fun o => o.all fun o => o.stage == .queued || o.stage == .loading

/-- R37: LEAVE. -/
def State.leaveAnswer (s : State) : Answer :=
  if s.ssl.state = .attached ∧ !s.ssl.leavePending ∧ !s.holdsAny ∧ s.ordersAllowLeave then
    s.queueTerminal .leave fun b => ({ s with blu := b }).modSsl fun l => { l with leavePending := true }
  else .refuse s .wrongState

def execLeave (s : State) : Host.Outcome State Fault Refusal := .next (s.command 3 State.leaveAnswer)

/-- R138, R139: an order as admitted. That its base delivered is 0 until a base fill reports is the model's choice (log entry 48). -/
def newOrder (f : OrderFields) (admission : Nat) : Order :=
  { tag := f.tag, size := f.size, base := f.base, priority := (priorityOfCode f.priority).getD .hold,
    rush := (yesOfCode f.rush).getD false, lid := (yesOfCode f.lid).getD false, mixTime := f.mixTime,
    entries := f.entries.map doseEntry, stage := .queued,
    results := f.entries.map fun _ => { outcome := .notDosed, delivered := 0 }, baseDelivered := 0,
    rushResult := if yesOfCode f.rush = some true then .pending else .notAsked, mixerUsed := none, outcome := none,
    reason := none, admission := admission, baseFinished := false, wrongTin := false, mixClaimOffered := false,
    runRaised := false, stopping := none, handed := 0, baseFault := none, mixGrant := none }

/-- R139: the first refusal of an ORDER that applies, in the order of its checks. -/
def State.orderRefusal (s : State) (f : OrderFields) : Option ReplyResult :=
  if s.setup.isNone then some .wrongState
  else if !orderFieldsValid f then some .badField
  else if f.entries.any (fun e => s.bay.linesEquipped ≤ e.line) then some .notEquipped
  else if f.entries.any (fun e => (s.bt.line e.line).any fun r => r.service == .out) then some .lineOut
  else if f.mixTime ≠ 0 ∧ s.bt.pool.any (fun p => p.recs.all fun r => r.state == .out) then some .wrongState
  else if (s.obu.slotOf f.tag).isSome ∨ s.tlu.tickets.any (fun t => t.tag == f.tag) then some .duplicateTag
  else if s.obu.slots.all Option.isSome then some .noSlot
  else none

/-- R139: the lowest-numbered free slot. -/
def Book.freeSlot (b : Book) : Nat := b.slots.findIdx Option.isNone

/-- R139: ORDER. -/
def State.orderAnswer (f : OrderFields) (s : State) : Answer :=
  match s.orderRefusal f with
  | some r => .refuse s r
  | none =>
    { state := (s.modBook fun b => { b with slots := b.slots.set b.freeSlot (some (newOrder f b.live)) }).settle,
      result := .accepted, data := .slot s.obu.freeSlot }

def execOrder (fields : OrderFields) (s : State) : Host.Outcome State Fault Refusal :=
  .next (s.command 4 (State.orderAnswer fields))

/-- R151: CANCEL. -/
def State.cancelAnswer (tag : Nat) (s : State) : Answer :=
  if s.setup.isNone then .refuse s .wrongState
  else
    match s.obu.slotOf tag with
    | none => .refuse s .unknownTag
    | some slot =>
      match s.cancelOrder slot with
      | some s' => { state := s'.settle, result := .accepted, data := .nothing }
      | none => .refuse s .late

def execCancel (tag : Nat) (s : State) : Host.Outcome State Fault Refusal := .next (s.command 5 (State.cancelAnswer tag))

/-- R152: the stages in which a PRIORITY comes too late. -/
def Stage.priorityLate : Stage → Bool
  | .mixing | .shelf | .reject | .done => true
  | .queued | .loading | .base | .tint | .lid | .outfeedWait | .mixWait => false

/-- R152: a priority that the order may not have. -/
def Order.priorityBad (o : Order) (p : Priority) : Bool :=
  (o.rush && p != .p2) || (p == .hold && o.stage != .queued)

/-- R152: PRIORITY. A bad field is judged before lateness (log entry 14). -/
def State.priorityAnswer (tag level : Nat) (s : State) : Answer :=
  if s.setup.isNone then .refuse s .wrongState
  else
    match s.obu.slotOf tag with
    | none => .refuse s .unknownTag
    | some slot =>
      match s.order slot, priorityOfCode level with
      | some o, some p =>
        if o.priorityBad p then .refuse s .badField
        else if o.stage.priorityLate then .refuse s .late
        else
          { state := (s.modOrder slot fun o => { o with priority := p }).settle, result := .accepted, data := .nothing }
      | _, _ => .refuse s .badField

def execPriority (tag level : Nat) (s : State) : Host.Outcome State Fault Refusal :=
  .next (s.command 6 (State.priorityAnswer tag level))

/-- R170: the four commands that ask the bay for a change. -/
def State.askBay (equipped levelOk : Bool) (n : Notice) (s : State) : Answer :=
  if s.ssl.state ≠ .attached then .refuse s .wrongState
  else if !equipped then .refuse s .notEquipped
  else if !levelOk then .refuse s .badField
  else s.queueTerminal n fun b => { s with blu := b }

def State.refillAnswer (line level : Nat) (s : State) : Answer :=
  s.askBay (line < s.bay.linesEquipped) (level ≤ 16777215) (.refill line level)

def State.lineReturnAnswer (line level : Nat) (s : State) : Answer :=
  s.askBay (line < s.bay.linesEquipped) (level ≤ 16777215) (.lineReturn line level)

def State.lineOutAnswer (line : Nat) (s : State) : Answer := s.askBay (line < s.bay.linesEquipped) true (.lineOut line)

def State.mixerReturnAnswer (mixer : Nat) (s : State) : Answer :=
  s.askBay (mixer < s.bay.mixersEquipped) true (.mixerReturn mixer)

def execRefill (line level : Nat) (s : State) : Host.Outcome State Fault Refusal :=
  .next (s.command 7 (State.refillAnswer line level))

def execLineReturn (line level : Nat) (s : State) : Host.Outcome State Fault Refusal :=
  .next (s.command 8 (State.lineReturnAnswer line level))

def execLineOut (line : Nat) (s : State) : Host.Outcome State Fault Refusal := .next (s.command 9 (State.lineOutAnswer line))

def execMixerReturn (mixer : Nat) (s : State) : Host.Outcome State Fault Refusal :=
  .next (s.command 10 (State.mixerReturnAnswer mixer))

/-- R173: the unread-state-change flag cleared. -/
def Tlu.markRead (t : Tlu) : Tlu := { t with unread := false, attention := attentionOf t.tickets false }

/-- R171 (a): QUERY STATION clears the flag as the reply is built. -/
def State.queryStationAnswer (s : State) : Answer :=
  { state := s.modTlu Tlu.markRead, result := .accepted, data := .station s.stationReport }

def execQueryStation (s : State) : Host.Outcome State Fault Refusal := .next (s.command 11 State.queryStationAnswer)

/-- R171 (b): QUERY ORDER. -/
def State.queryOrderAnswer (tag : Nat) (s : State) : Answer :=
  if s.setup.isNone then .refuse s .wrongState
  else
    match s.obu.slotOf tag with
    | none => .refuse s .unknownTag
    | some slot =>
      match s.order slot with
      | some o => { state := s, result := .accepted, data := .order o (s.channelReports slot) o.faultShown }
      | none => .refuse s .unknownTag

def execQueryOrder (tag : Nat) (s : State) : Host.Outcome State Fault Refusal :=
  .next (s.command 12 (State.queryOrderAnswer tag))

/-- R171 (c): QUERY LINE. -/
def State.queryLineAnswer (line : Nat) (s : State) : Answer :=
  if s.setup.isNone then .refuse s .wrongState
  else if s.bay.linesEquipped ≤ line then .refuse s .notEquipped
  else { state := s, result := .accepted, data := .line (s.lineView line) }

def execQueryLine (line : Nat) (s : State) : Host.Outcome State Fault Refusal :=
  .next (s.command 13 (State.queryLineAnswer line))

/-- R171 (d): QUERY MIXERS. -/
def State.queryMixersAnswer (s : State) : Answer := { state := s, result := .accepted, data := .mixers s.poolView }

def execQueryMixers (s : State) : Host.Outcome State Fault Refusal := .next (s.command 14 State.queryMixersAnswer)

/-- R172 (b): the head ticket is removed. -/
def Tlu.dropTicket (t : Tlu) : Tlu := { t with tickets := t.tickets.tail, attention := attentionOf t.tickets.tail t.unread }

/-- R150, R172: READ TICKET; the earliest order waiting in DONE then has its ticket queued. -/
def State.readTicketAnswer (s : State) : Answer :=
  match s.tlu.tickets with
  | [] => { state := s, result := .accepted, data := .nothing }
  | k :: _ => { state := (s.modTlu Tlu.dropTicket).settle, result := .accepted, data := .ticket k }

def execReadTicket (s : State) : Host.Outcome State Fault Refusal := .next (s.command 15 State.readTicketAnswer)

/-! ### The link (R167 to R169) -/

/-- R169: a kind that names no command, or a length that does not fit: BAD FIELD. A frame that has neither fault is no such
event (log entry 2). -/
def execUnknownCommandKind (kind : Nat) (payload : List ByteVal) (s : State) : Host.Outcome State Fault Refusal :=
  .next (if commandLengthOk kind payload then s else s.command kind fun s => .refuse s .badField)

/-- R168: a frame that arrives while a reply is being sent. -/
def execCommandWhileSending (kind : Nat) (s : State) : Host.Outcome State Fault Refusal :=
  .next (if s.tlu.sending.isSome then s.modTlu fun t => t.busy kind else s)

/-- R168: the reply's last byte has been sent. -/
def Tlu.sent (t : Tlu) : Tlu := { t with sending := t.pendingReply, pendingReply := none }

def execReplySent (s : State) : Host.Outcome State Fault Refusal :=
  .next (if s.tlu.sending.isSome then s.modTlu Tlu.sent else s)

/-- R167 (a) to (c): the bytes received up to the one at which the frame is dropped (log entry 27). -/
def execFrameDropped (bytes : List LinkByte) (s : State) : Host.Outcome State Fault Refusal :=
  .next (s.modTlu fun t => { t with receiver := receiveBytes t.receiver bytes })

/-- R167 (d). -/
def execInterByteTimeout (s : State) : Host.Outcome State Fault Refusal :=
  .next (s.modTlu fun t => { t with receiver := .hunting })

end Sys2Proof.Machine
end

