-- ==== Sys2Proof/Machine/Dispatch.lean ====
section
/-! DEFINITION. The dispatch: one arm for each row of spec/opcode_table.json. -/

namespace Sys2Proof.Machine

def exec (i : Instr) (s : State) : Host.Outcome State Fault Refusal :=
  match i with
  | .hardwareReset => Sys2Proof.Machine.execHardwareReset s
  | .idleWait => Sys2Proof.Machine.execIdleWait s
  | .beginNotice rival => Sys2Proof.Machine.execBeginNotice rival s
  | .turnSpentIdleClear => Sys2Proof.Machine.execTurnSpentIdleClear s
  | .void heard => Sys2Proof.Machine.execVoid heard s
  | .joinTaken sender station digest silentGiver => Sys2Proof.Machine.execJoinTaken sender station digest silentGiver s
  | .formedTaken sender => Sys2Proof.Machine.execFormedTaken sender s
  | .imageTaken sender joiner img => Sys2Proof.Machine.execImageTaken sender joiner img s
  | .imageEndTaken sender joiner result bayCount => Sys2Proof.Machine.execImageEndTaken sender joiner result bayCount s
  | .leaveTaken sender => Sys2Proof.Machine.execLeaveTaken sender s
  | .claimTaken sender line shots drops level rush => Sys2Proof.Machine.execClaimTaken sender line shots drops level rush s
  | .withdrawTaken sender line => Sys2Proof.Machine.execWithdrawTaken sender line s
  | .releaseTaken sender line grant drops outcome => Sys2Proof.Machine.execReleaseTaken sender line grant drops outcome s
  | .refillTaken sender line level => Sys2Proof.Machine.execRefillTaken sender line level s
  | .lineOutTaken sender line => Sys2Proof.Machine.execLineOutTaken sender line s
  | .lineReturnTaken sender line level => Sys2Proof.Machine.execLineReturnTaken sender line level s
  | .rushTakeTaken sender tag => Sys2Proof.Machine.execRushTakeTaken sender tag s
  | .rushDropTaken sender token => Sys2Proof.Machine.execRushDropTaken sender token s
  | .mixClaimTaken sender mixTime level rush => Sys2Proof.Machine.execMixClaimTaken sender mixTime level rush s
  | .mixWithdrawTaken sender => Sys2Proof.Machine.execMixWithdrawTaken sender s
  | .mixReleaseTaken sender mixer grant outcome => Sys2Proof.Machine.execMixReleaseTaken sender mixer grant outcome s
  | .mixerReturnTaken sender mixer => Sys2Proof.Machine.execMixerReturnTaken sender mixer s
  | .revokeTaken sender subject holder grant => Sys2Proof.Machine.execRevokeTaken sender subject holder grant s
  | .setup block => Sys2Proof.Machine.execSetup block s
  | .start => Sys2Proof.Machine.execStart s
  | .leave => Sys2Proof.Machine.execLeave s
  | .order fields => Sys2Proof.Machine.execOrder fields s
  | .cancel tag => Sys2Proof.Machine.execCancel tag s
  | .priority tag level => Sys2Proof.Machine.execPriority tag level s
  | .refill line level => Sys2Proof.Machine.execRefill line level s
  | .lineOut line => Sys2Proof.Machine.execLineOut line s
  | .lineReturn line level => Sys2Proof.Machine.execLineReturn line level s
  | .mixerReturn mixer => Sys2Proof.Machine.execMixerReturn mixer s
  | .queryStation => Sys2Proof.Machine.execQueryStation s
  | .queryOrder tag => Sys2Proof.Machine.execQueryOrder tag s
  | .queryLine line => Sys2Proof.Machine.execQueryLine line s
  | .queryMixers => Sys2Proof.Machine.execQueryMixers s
  | .readTicket => Sys2Proof.Machine.execReadTicket s
  | .unknownCommandKind kind payload => Sys2Proof.Machine.execUnknownCommandKind kind payload s
  | .commandWhileSending kind => Sys2Proof.Machine.execCommandWhileSending kind s
  | .replySent => Sys2Proof.Machine.execReplySent s
  | .frameDropped bytes => Sys2Proof.Machine.execFrameDropped bytes s
  | .interByteTimeout => Sys2Proof.Machine.execInterByteTimeout s
  | .firstListenExpiry => Sys2Proof.Machine.execFirstListenExpiry s
  | .formationWindowExpiry => Sys2Proof.Machine.execFormationWindowExpiry s
  | .imageTimerExpiry => Sys2Proof.Machine.execImageTimerExpiry s
  | .rejoinTimerExpiry => Sys2Proof.Machine.execRejoinTimerExpiry s
  | .ownLineTimerExpiry line => Sys2Proof.Machine.execOwnLineTimerExpiry line s
  | .ownMixerTimerExpiry mixer => Sys2Proof.Machine.execOwnMixerTimerExpiry mixer s
  | .watchTimerExpiry subject => Sys2Proof.Machine.execWatchTimerExpiry subject s
  | .settleExpiry pair => Sys2Proof.Machine.execSettleExpiry pair s
  | .valveExpiry pair => Sys2Proof.Machine.execValveExpiry pair s
  | .capture pair => Sys2Proof.Machine.execCapture pair s
  | .tapMeterPulse line => Sys2Proof.Machine.execTapMeterPulse line s
  | .tinPresentRise => Sys2Proof.Machine.execTinPresentRise s
  | .seatingTimerExpiry code => Sys2Proof.Machine.execSeatingTimerExpiry code s
  | .tinPresentFall => Sys2Proof.Machine.execTinPresentFall s
  | .baseMeterPulse => Sys2Proof.Machine.execBaseMeterPulse s
  | .basePeriodExpiry => Sys2Proof.Machine.execBasePeriodExpiry s
  | .dutyTimerExpiry => Sys2Proof.Machine.execDutyTimerExpiry s
  | .fillLimitExpiry => Sys2Proof.Machine.execFillLimitExpiry s
  | .runOnExpiry => Sys2Proof.Machine.execRunOnExpiry s
  | .seatTimerExpiry lidHome => Sys2Proof.Machine.execSeatTimerExpiry lidHome s
  | .lidHomeOn => Sys2Proof.Machine.execLidHomeOn s
  | .pressTimerExpiry => Sys2Proof.Machine.execPressTimerExpiry s
  | .pusherPulseExpiry pusher => Sys2Proof.Machine.execPusherPulseExpiry pusher s
  | .confirmTimerExpiry pusher => Sys2Proof.Machine.execConfirmTimerExpiry pusher s
  | .outfeedSensorChange on => Sys2Proof.Machine.execOutfeedSensorChange on s
  | .occupiedInputChange mixer on => Sys2Proof.Machine.execOccupiedInputChange mixer on s
  | .chutePulseEnded => Sys2Proof.Machine.execChutePulseEnded s
  | .runTimerExpiry mixer => Sys2Proof.Machine.execRunTimerExpiry mixer s
  | .doneInputRise mixer => Sys2Proof.Machine.execDoneInputRise mixer s
  | .doneInputFall mixer => Sys2Proof.Machine.execDoneInputFall mixer s

end Sys2Proof.Machine
end

