-- ==== Sys2Proof/Safety.lean ====
section
/-! DEFINITION. The laws of the state: what every step keeps, given that the queued commands are well formed. Each is a
decidable condition on plain data. -/

namespace Sys2Proof.Machine

/-! ### The outgoing list (R15) -/

/-- R15: ordered by class, class 0 first. -/
def classSorted : List Entry → Bool
  | a :: b :: rest => a.class_ ≤ b.class_ && classSorted (b :: rest)
  | _ => true

/-- R15: no two CLAIMs for one line and no two MIX CLAIMs. -/
def noClash : List Entry → Bool
  | [] => true
  | e :: es => es.all (fun x => !clashes e.notice x) && noClash es

/-- R15: at most 16 notices, at most 4 of them from terminal commands, in order of class, without clashing claims. An offer
of a terminal command is never held (R16 (b)). -/
def Blu.lawful (b : Blu) : Bool :=
  b.list.length ≤ 16 && terminalCount b.list ≤ 4 && classSorted b.list && noClash (b.list ++ b.held)
    && b.held.all fun e => !e.fromTerminal

/-! ### The terminal link (R168, R172, R173) -/

/-- R172, R173, R168: at most 8 tickets; attention is raised exactly while the queue is not empty or the flag is set; no reply
is pending at an IDLE transmitter. -/
def Tlu.lawful (t : Tlu) : Bool :=
  t.tickets.length ≤ 8 && t.attention == (!t.tickets.isEmpty || t.unread) && (t.sending.isSome || t.pendingReply.isNone)

/-! ### The metering pairs (R123) -/

/-- R123: the table of phases: valve, timers and pump request by phase. -/
def Pair.lawful (p : Pair) : Bool :=
  match p.phase with
  | .stopped => !p.valve && p.settleTimer.isNone && p.periodTimer.isNone && p.valveTimer.isNone && !p.pump
  | .settle => !p.valve && p.settleTimer.isSome && p.periodTimer.isNone && p.valveTimer.isNone && p.pump
  | .opened => p.valve && p.settleTimer.isNone && p.periodTimer.isSome && p.valveTimer.isSome && p.pump
  | .closed => !p.valve && p.settleTimer.isNone && p.periodTimer.isSome && p.valveTimer.isNone && p.pump
  | .drain => !p.valve && p.settleTimer.isNone && p.periodTimer.isSome && p.valveTimer.isNone

/-! ### Channels and pairs (R103, R121, R134) -/

/-- R103, R123: a channel's state against its pair's phase. -/
def coupled (c : Channel) (p : Pair) : Bool :=
  match c.state with
  | .settling => p.phase == .settle
  | .shooting => p.phase == .opened || p.phase == .closed || p.phase == .drain
  | .idle | .claiming | .waiting | .releasing | .withdrawing => p.phase == .stopped

/-- R121: what a channel may be while the station is not ATTACHED: IDLE, or draining after a detach. -/
def parted (c : Channel) (p : Pair) : Bool :=
  c.state == .idle || (c.state == .shooting && c.stopCause == .detached && p.phase == .drain)

/-- The law of channels with their pairs. -/
def State.dosingLawful (s : State) : Bool :=
  s.dcs.length == 4 && s.mps.length == 4
    && (List.range 4).all fun k => coupled (s.dc k) (s.mp k) && (s.isAttached || parted (s.dc k) (s.mp k))

/-! ### The order book (R138, R150) -/

/-- The live orders, by slot. -/
def Book.orders (b : Book) : List Order := b.slots.filterMap id

/-- R138: the admission numbers of the live orders are 0 to (live orders − 1), each used once. -/
def Book.numbered (b : Book) : Bool :=
  b.slots.length == 8 && (List.range b.live).all fun n => (b.orders.map Order.admission).count n == 1

/-- R138: no tag appears twice among live orders and queued tickets together. -/
def State.tagsDistinct (s : State) : Bool :=
  decide ((s.obu.orders.map Order.tag ++ s.tlu.tickets.map Ticket.tag).Nodup)

/-! ### Shape -/

/-- R26, R31, R87, R103, R123, R138, R161, R164: how many records of each kind there are. -/
def State.shaped (s : State) : Bool :=
  s.bt.roster.length == 16 && s.bt.joinResults.length == 16 && s.htb.length == 20 && s.dcs.length == 4 && s.mps.length == 4 && s.obu.slots.length == 8
    && s.pdu.toMixer.length == 4 && s.pdu.runs.length == 4 && s.pins.occupied.length == 4 && s.pins.doneInput.length == 4

/-- Every queued command is well formed. -/
def State.queueWellFormed (s : State) : Bool := s.pending.all Instr.wellFormed

/-! ### Words the statements use -/

/-- The station hears the line and stands in the bay: ATTACHED, following the notices, PRESENT in its own roster (R2, R26). -/
def State.member (s : State) : Bool := s.hears && s.isAttached && s.bt.isPresent s.me

/-- R168: the state once the transmitter, IDLE before, has taken up the reply to a command. -/
def State.answered (s : State) (kind : Nat) (result : ReplyResult) (data : ReplyData) : State :=
  { s with
    tlu := { s.tlu with receiver := .hunting, sending := some { kind := kind, result := result, data := data } } }

/-- R142: the token request once the order in a slot has given its token back. -/
def TokenRequest.without (r : TokenRequest) (slot : Nat) : TokenRequest :=
  match r with
  | .held _ holder => if holder = slot then .absent else r
  | _ => r

/-- R142: the bay line unit once the order in a slot has offered its token, if it holds one, back. -/
def Blu.tokenBack (b : Blu) (r : TokenRequest) (slot : Nat) : Blu :=
  match r with
  | .held token holder => if holder = slot then (b.offer (.rushDrop (tokenCode token)) .book).1 else b
  | _ => b

/-- R150: from `s` to `u` the order in a slot enters DONE with an outcome and a reason; `o` is the order with what the event
recorded in it, `b` the bay line unit after the event's own offers. That the mix-claim-offered mark is clear in DONE is, after a MIX
CLAIM discarded, the model's choice (log entry 50). -/
def State.ordersEnd (s u : State) (b : Blu) (slot : Nat) (o : Order) (outcome : OrderOutcome) (reason : OrderReason) : Prop :=
  u.order slot = some { o with stage := .done, outcome := some outcome, reason := some reason, mixClaimOffered := false }
    ∧ (∀ j, j ≠ slot → u.order j = s.order j)
    ∧ u.obu.cradle = (if s.obu.cradle = some slot then none else s.obu.cradle)
    ∧ u.obu.outfeed = (if s.obu.outfeed = some slot then none else s.obu.outfeed)
    ∧ u.obu.doneOrder = s.obu.doneOrder ++ [slot] ∧ u.obu.request = s.obu.request.without slot
    ∧ u.blu = b.tokenBack s.obu.request slot ∧ u.dcs = s.dcs ∧ u.mps = s.mps ∧ u.tlu = s.tlu

/-- R149: from `s` to `u` the order in a slot enters REJECT with a reason, and the chute, IDLE before, pulses. -/
def State.ordersReject (s u : State) (slot : Nat) (o : Order) (reason : OrderReason) : Prop :=
  u.order slot = some { o with stage := .reject, outcome := some .spoiled, reason := some reason }
    ∧ (∀ j, j ≠ slot → u.order j = s.order j) ∧ u.obu.cradle = s.obu.cradle ∧ u.obu.outfeed = s.obu.outfeed
    ∧ u.obu.doneOrder = s.obu.doneOrder ∧ u.obu.request = s.obu.request.without slot
    ∧ u.blu = s.blu.tokenBack s.obu.request slot
    ∧ (s.pdu.chute.phase = .idle → u.pdu.chute.phase = .pulse ∧ u.pdu.chute.output = true
        ∧ u.pdu.chute.pulseTimer = some s.cal.transferPulse)
    ∧ u.dcs = s.dcs ∧ u.mps = s.mps ∧ u.tlu = s.tlu

/-- R145, R146, R148 (b), (c), R161: from `s` to `u` the transfer of a pusher is confirmed and the pusher is at rest. -/
def State.transferMade (s u : State) (p : Pusher) : Prop :=
  (u.pusher p).phase = .idle ∧ (u.pusher p).output = false ∧ (u.pusher p).pulseTimer = none ∧ (u.pusher p).confirmTimer = none
    ∧ (∀ slot o, p = .toShelf → s.outfeedIn .shelf = some slot → s.order slot = some o →
        s.ordersEnd u s.blu slot o .filled .none)
    ∧ (∀ slot o, p = .toOutfeed → s.cradleIn .outfeedWait = some slot → s.order slot = some o →
        u.obu.cradle = none ∧ u.obu.outfeed = some slot
          ∧ (o.mixTime ≠ 0 → u.order slot = some { o with stage := .mixWait })
          ∧ (o.mixTime = 0 → u.order slot = some { o with stage := .shelf }
              ∧ (s.pdu.toShelf.phase = .idle → u.pdu.toShelf.phase = .pulse ∧ u.pdu.toShelf.output = true
                  ∧ u.pdu.toShelf.pulseTimer = some s.cal.transferPulse ∧ u.pdu.toShelf.limit = s.cal.transferLimit)))
    ∧ (∀ m slot o g, p = .toMixer m → s.transferringTo m = some slot → s.order slot = some o → o.mixGrant = some g →
        m < s.pdu.runs.length → (s.run m).phase = .idle →
        u.obu.outfeed = none ∧ u.order slot = some { o with runRaised := true }
          ∧ u.run m = { phase := .running, runTimer := some g.mixTime, doneArmed := false, runLine := true })

/-- R10, R14: the state once a take is applied at a station that stays PRESENT: `t` is the table that it leaves, `es` what it brings
about, `cursor` what it has the image cursor do; the take is counted, and the order book makes what is due. -/
def State.takenWith (s : State) (sender : Nat) (n : Notice) (t : Table) (es : List Effect) (cursor : State → State) : State :=
  State.settle (State.modBt (State.takeEffects (s.bookTake sender n) t es cursor) Table.counted)

/-- A take that concerns no image cursor. -/
def State.takenBy (s : State) (sender : Nat) (n : Notice) (t : Table) (es : List Effect) : State := s.takenWith sender n t es id

/-- What no take changes outside the bay table and the working blocks. -/
def State.sameOutside (s t : State) : Prop :=
  t.setup = s.setup ∧ t.ssl = s.ssl ∧ t.pins = s.pins ∧ t.pending = s.pending

end Sys2Proof.Machine

namespace Sys2Proof

/-- The commands that change a plant input. -/
def Instr.isPin : Instr → Bool
  | .tinPresentRise | .tinPresentFall | .outfeedSensorChange _ | .occupiedInputChange _ _ | .doneInputRise _ | .doneInputFall _ =>
    true
  | _ => false

/-- The commands that act on this station's place in the bay: the takes, the void, the station timers and hold timers, SETUP,
START, LEAVE and the reset. -/
def Instr.isBay : Instr → Bool
  | .hardwareReset | .void _ | .joinTaken _ _ _ _ | .formedTaken _ | .imageTaken _ _ _ | .imageEndTaken _ _ _ _ | .leaveTaken _
  | .claimTaken _ _ _ _ _ _ | .withdrawTaken _ _ | .releaseTaken _ _ _ _ _ | .refillTaken _ _ _ | .lineOutTaken _ _
  | .lineReturnTaken _ _ _ | .rushTakeTaken _ _ | .rushDropTaken _ _ | .mixClaimTaken _ _ _ _ | .mixWithdrawTaken _
  | .mixReleaseTaken _ _ _ _ | .mixerReturnTaken _ _ | .revokeTaken _ _ _ _ | .setup _ | .start | .leave | .firstListenExpiry
  | .formationWindowExpiry | .imageTimerExpiry | .rejoinTimerExpiry | .ownLineTimerExpiry _ | .ownMixerTimerExpiry _
  | .watchTimerExpiry _ => true
  | _ => false

/-- The sender and the notice of a take (R10). -/
def Instr.taken : Instr → Option (Nat × Notice)
  | .joinTaken s station digest silent => some (s, .join station digest silent)
  | .formedTaken s => some (s, .formed)
  | .imageTaken s joiner img => some (s, .image joiner img)
  | .imageEndTaken s joiner result count => some (s, .imageEnd joiner result count)
  | .leaveTaken s => some (s, .leave)
  | .claimTaken s line shots drops level rush => some (s, .claim line shots drops level rush)
  | .withdrawTaken s line => some (s, .withdraw line)
  | .releaseTaken s line grant drops outcome => some (s, .release line grant drops outcome)
  | .refillTaken s line level => some (s, .refill line level)
  | .lineOutTaken s line => some (s, .lineOut line)
  | .lineReturnTaken s line level => some (s, .lineReturn line level)
  | .rushTakeTaken s tag => some (s, .rushTake tag)
  | .rushDropTaken s token => some (s, .rushDrop token)
  | .mixClaimTaken s time level rush => some (s, .mixClaim time level rush)
  | .mixWithdrawTaken s => some (s, .mixWithdraw)
  | .mixReleaseTaken s mixer grant outcome => some (s, .mixRelease mixer grant outcome)
  | .mixerReturnTaken s mixer => some (s, .mixerReturn mixer)
  | .revokeTaken s subject holder grant => some (s, .revoke subject holder grant)
  | _ => none

/-- The line that a line notice names (R56). -/
def Notice.lineNamed : Notice → Option Nat
  | .claim line _ _ _ _ | .withdraw line | .release line _ _ _ | .refill line _ | .lineOut line | .lineReturn line _ => some line
  | _ => none

end Sys2Proof
end

