-- ==== Sys2Proof/Certificates/Slice0/Obligations.lean ====
section
/-! DEFINITION. The statements for the provers, one `def Obligations.<Name> : Prop` each, by chapter of the spec. -/

open Sys2Proof Sys2Proof.Machine

/-! ### The step and its frame -/

/-- Asked of a block (7.06, one command at a time): a step with command `c` in front is `exec c` on the state with the queue's
rest. -/
def Obligations.StepRunsFrontCommand : Prop :=
  ∀ (c : Instr) (s : State), step { s with pending := c :: s.pending } = exec c s

/-- No command stops the controller, and none touches the queue of commands: every event of 7.06 leads to a next state. -/
def Obligations.EveryCommandAnswersNextAndLeavesQueue : Prop :=
  ∀ (c : Instr) (s : State), ∃ t, exec c s = .next t ∧ t.pending = s.pending

/-- The frame of the commands. The setup is changed by SETUP and the reset alone (R21); the plant inputs by the six commands that
say so alone (the reset leaves them, log entry 4); and the commands of orders and queries, of the link, of the metering pairs and of
the plant leave the station state logic, the bay table and the hold timers as they stand. -/
def Obligations.CommandsLeaveWhatIsNotTheirs : Prop :=
  (∀ (c : Instr) (s t : State), c ≠ .hardwareReset → (∀ b, c ≠ .setup b) → exec c s = .next t → t.setup = s.setup)
    ∧ (∀ (c : Instr) (s t : State), c.isPin = false → exec c s = .next t → t.pins = s.pins)
    ∧ (∀ (c : Instr) (s t : State), c.isBay = false → exec c s = .next t →
         t.setup = s.setup ∧ t.ssl = s.ssl ∧ t.bt = s.bt ∧ t.htb = s.htb)

/-! ### Reset -/

/-- HARDWARE_RESET puts every block at its reset values: the state is that after reset, with the plant inputs and the queue as they
stand, and every field below has the value said. The plant's outputs are all off (R166).
That the plant inputs and the queue stand, and the calibration that a drive has loaded before its first start, are the model's choice
(log entry 4), and that a result of R31 (d) is held for each station, none at first, is its reading (log entry 10). -/
def Obligations.HardwareResetLeavesResetValues : Prop :=
  ∀ s : State, ∃ t, exec .hardwareReset s = .next t
    ∧ t = { State.reset with pins := s.pins, pending := s.pending } ∧ t.setup = none ∧ t.ssl.state = .unset
    ∧ t.ssl.lastDetach = .none ∧ t.ssl.lateMark = false ∧ t.ssl.joinTaken = false ∧ t.ssl.knownGiver = none
    ∧ t.ssl.emptyTimeouts = 0 ∧ t.ssl.leavePending = false ∧ t.ssl.firstListen = none ∧ t.ssl.formationWindow = none
    ∧ t.ssl.imageTimer = none ∧ t.ssl.rejoinTimer = none ∧ t.blu.listen = .off ∧ t.blu.list = [] ∧ t.blu.held = []
    ∧ t.blu.objections = 0 ∧ t.blu.voids = 0 ∧ t.blu.turnSpent = false ∧ t.blu.cursor.joiners = [] ∧ t.blu.cursor.next = none
    ∧ (∀ n, n < 16 → t.bt.rosterAt n = { state := .absent, giver := none, imageMark := false } ∧ t.bt.joinResult n = none) ∧ t.bt.digest = none
    ∧ t.bt.formed = false ∧ t.bt.bayCount = some 0 ∧ t.bt.lines = [] ∧ t.bt.pool = none ∧ t.bt.tokens = none
    ∧ (∀ i, i < 20 → t.timer i = { state := .stopped, role := .own, holder := 0, grant := 0, runTime := 0 })
    ∧ (∀ k, k < 4 →
        t.dc k =
          { state := .idle, line := 0, slot := 0, entry := 0, ordered := 0, delivered := 0, mode := .single, trimsUsed := 0,
            plan := { full := 0, trim := 0, planned := 0 }, trimNow := 0,
            grant := { number := 0, askedShots := 0, askedDrops := 0, shotsDone := 0, drops := 0, final := false },
            balance := 0, granted := false, withdrawPending := false, stopCause := .none, result := .none }
        ∧ t.mp k =
          { phase := .stopped, bound := none, settleTimer := none, periodTimer := none, valveTimer := none, nextWidth := 0,
            counter := 0, overflow := false, lastShot := 0, lastOverflow := false, pump := false, valve := false })
    ∧ (∀ n, n < 16 → t.tapValve n = false ∧ t.pumpRequest n = false)
    ∧ (∀ slot, slot < 8 → t.order slot = none) ∧ t.obu.cradle = none ∧ t.obu.outfeed = none ∧ t.obu.request = .absent
    ∧ t.obu.doneOrder = [] ∧ t.pdu.seatingTimer = none ∧ t.pdu.arrived = none ∧ t.pdu.lamp = false
    ∧ t.pdu.fill =
        { phase := .idle, target := 0, counter := 0, dutyRegister := 0, dutyInUse := 0, periodTimer := none, dutyTimer := none,
          limitTimer := none, runOnTimer := none, valve := false, pump := false,
          cal := { period := 0, fastDuty := 0, slowDuty := 0, slowBand := 0, tolerance := 0, limit := 0 } }
    ∧ t.pdu.press =
        { phase := .idle, tries := 1, homeSeen := false, seatTimer := none, pressTimer := none, output := false, seatDelay := 0,
          pressWidth := 0 }
    ∧ (∀ p, t.pusher p = { phase := .idle, pulseTimer := none, confirmTimer := none, output := false, limit := 0 })
    ∧ t.pdu.chute = { phase := .idle, pulseTimer := none, confirmTimer := none, output := false, limit := 0 }
    ∧ (∀ m, m < 4 → t.run m = { phase := .idle, runTimer := none, doneArmed := false, runLine := false })
    ∧ t.tlu.receiver = .hunting ∧ t.tlu.sending = none ∧ t.tlu.pendingReply = none ∧ t.tlu.tickets = [] ∧ t.tlu.unread = false
    ∧ t.tlu.attention = false ∧ t.pins = s.pins ∧ t.pending = s.pending

/-! ### The bay line (chapter 1) -/

/-- R6: the class of every notice kind; the class makes the first two of the six contention bits, and class 0 is eligible whatever
the turn-spent flag holds. -/
def Obligations.NoticeClassesFollowTheTable : Prop :=
  (∀ k h g, noticeClass (.revoke k h g) = 0) ∧ (∀ l, noticeClass (.lineOut l) = 0) ∧ noticeClass .formed = 0
    ∧ (∀ j i, noticeClass (.image j i) = 0) ∧ (∀ j r c, noticeClass (.imageEnd j r c) = 0)
    ∧ (∀ l g d o, noticeClass (.release l g d o) = 1) ∧ (∀ m g o, noticeClass (.mixRelease m g o) = 1)
    ∧ (∀ l, noticeClass (.withdraw l) = 1) ∧ noticeClass .mixWithdraw = 1 ∧ (∀ t, noticeClass (.rushDrop t) = 1)
    ∧ noticeClass .leave = 1 ∧ (∀ l v, noticeClass (.refill l v) = 2) ∧ (∀ l v, noticeClass (.lineReturn l v) = 2)
    ∧ (∀ m, noticeClass (.mixerReturn m) = 2) ∧ (∀ t, noticeClass (.rushTake t) = 2)
    ∧ (∀ l a d v r, noticeClass (.claim l a d v r) = 3) ∧ (∀ t v r, noticeClass (.mixClaim t v r) = 3)
    ∧ (∀ st d g, noticeClass (.join st d g) = 3)
    ∧ (∀ (n : Notice) (station : Nat), station < 16 → contentionValue (noticeClass n) station / 16 = noticeClass n
        ∧ contentionValue (noticeClass n) station < 64)
    ∧ (∀ (b : Blu) (e : Entry) (rest : List Entry), b.list = e :: rest → noticeClass e.notice = 0 → headEligible b = true)

/-- R1, R13: IDLE_WAIT ends the first wait, and changes nothing else or nothing; 40 idle bit times clear the turn-spent flag and
nothing else. -/
def Obligations.WaitsOnTheIdleLine : Prop :=
  (∀ s : State,
     (s.blu.listen = .firstWait → exec .idleWait s = .next { s with blu := { s.blu with listen := .following } })
       ∧ (s.blu.listen ≠ .firstWait → exec .idleWait s = .next s))
    ∧ (∀ s : State, s.blu.listen = .following → s.transmitting = false →
         exec .turnSpentIdleClear s = .next { s with blu := { s.blu with turnSpent := false } })

/-- R4, R5, R10 (a) to (c), R13, R15 (d). A station that hears the line begins its head notice when its class is 0 or the turn-spent
flag is clear. It wins unless a rival's contention value is lower; winning, the head is in transmission, its payload filled in, and
nothing else changes; losing, or with no eligible head, nothing changes. The payload is the one offered, but that an IMAGE carries
its subject and an IMAGE END the bay count as they stand, and a CLAIM or MIX CLAIM that a void has sent back is filled afresh.
A take clears the objection counter. The station's own notice leaves the list, its void counter clears, and the turn is spent by
class 1, 2 or 3; at another's take the turn-spent flag clears, and a notice of this station in transmission goes back to waiting.
That a rival comes as an operand is the model's choice (log entry 5); how a station knows its own notice is log entry 7; and that a
notice of another kind sent again after a void carries what it carried, R15's payload filled afresh being the same, is the model's
reading (log entry 32). -/
def Obligations.NoticesAreBegunAndTakesBooked : Prop :=
  (∀ (s : State) (e : Entry) (rest : List Entry) (rival : Option Nat), s.hears = true → s.blu.list = e :: rest →
     s.transmitting = false →
     (((noticeClass e.notice = 0 ∨ s.blu.turnSpent = false)
         ∧ (∀ v, rival = some v → contentionValue (noticeClass e.notice) s.me ≤ v)) →
       exec (.beginNotice rival) s = .next { s with
         blu := { s.blu with
           list := { e with notice := s.fillNotice e, transmitting := true, refill := false } :: rest } })
       ∧ ((¬ (noticeClass e.notice = 0 ∨ s.blu.turnSpent = false)
           ∨ ∃ v, rival = some v ∧ v < contentionValue (noticeClass e.notice) s.me) →
         exec (.beginNotice rival) s = .next s))
    ∧ (∀ (s : State) (e : Entry),
         (noticeKind e.notice ≠ 3 → noticeKind e.notice ≠ 4 →
           (e.refill = false ∨ (noticeKind e.notice ≠ 6 ∧ noticeKind e.notice ≠ 14)) → s.fillNotice e = e.notice)
         ∧ (∀ j roster a b tk, e.notice = .image j (.rosterTokens roster a b) → s.bt.tokens = some tk →
             s.fillNotice e = .image j (.rosterTokens s.bt.roster tk.a tk.b))
         ∧ (∀ j recs waiting p, e.notice = .image j (.mixers recs waiting) → s.bt.pool = some p →
             s.fillNotice e = .image j (.mixers p.recs p.waiting))
         ∧ (∀ j n r now, e.notice = .image j (.line n r) → s.bt.line n = some now →
             s.fillNotice e = .image j (.line n now))
         ∧ (∀ j result count, e.notice = .imageEnd j result count →
             s.fillNotice e = .imageEnd j result (s.bt.bayCount.getD 0))
         ∧ (∀ line shots drops level rush k asked, e.notice = .claim line shots drops level rush → e.owner = .channel k →
             e.refill = true → (s.dc k).line = line →
             asked = askedShotsOf (s.dc k).mode (s.lineConst line).shareBlock (s.dc k).plan →
             s.fillNotice e = .claim line asked (askedDropsOf (s.lineConst line).shotSize asked (s.dc k).plan)
               (s.levelOf (s.dc k).slot) (rushCode (s.obu.rushOf (s.dc k).slot)))
         ∧ (∀ time level rush slot o, e.notice = .mixClaim time level rush → e.refill = true → s.awaitsMixer = some slot →
             s.order slot = some o →
             s.fillNotice e = .mixClaim o.mixTime o.priority.level (rushCode (s.obu.rushOf slot))))
    ∧ (∀ (s : State) (sender : Nat) (n : Notice),
         (s.isOwnTake sender n = true ↔ sender = s.me ∧ ∃ e, s.blu.current = some e ∧ e.notice = n)
           ∧ (s.isOwnTake sender n = true → (s.bookTake sender n).blu = Blu.admitHeld
               { s.blu with
                 list := s.blu.list.filter fun e => !e.transmitting
                 voids := 0
                 objections := 0
                 turnSpent := s.blu.turnSpent || noticeClass n != 0 })
           ∧ (s.isOwnTake sender n = false → s.transmitting = false →
               (s.bookTake sender n).blu = { s.blu with turnSpent := false, objections := 0 })
           ∧ (s.isOwnTake sender n = false → s.transmitting = true →
               (s.bookTake sender n).blu = { s.blu.backToWaiting false with turnSpent := false, objections := 0 })
           ∧ (s.bookTake sender n).ssl = s.ssl ∧ (s.bookTake sender n).bt = s.bt ∧ (s.bookTake sender n).htb = s.htb)

/-- R9, R11, R12, R39, R40: a void at a station that hears the line. Of its own notice: the void counter rises, and the eighth
makes the station DETACHED, bay jammed. Of another's in which it found a fault: the objection counter rises, and the fourth makes
it DETACHED, objection limit. Of another's that it received whole: both counters stand. No void reaches the bay table of a station
that stays.
That the bits heard come as an operand is the model's choice (log entry 6). -/
def Obligations.VoidRaisesTheRightCounter : Prop :=
  ∀ (s : State) (heard : Bits), s.hears = true → ∃ t, exec (.void heard) s = .next t ∧ t.setup = s.setup ∧ t.pins = s.pins
    ∧ (s.isOwnVoid heard = true →
        (s.blu.voids < 7 → t.blu.voids = s.blu.voids + 1 ∧ t.blu.objections = s.blu.objections ∧ t.ssl = s.ssl ∧ t.bt = s.bt
          ∧ t.blu.turnSpent = s.blu.turnSpent)
          ∧ (7 ≤ s.blu.voids → t.ssl.state = .detached ∧ t.ssl.lastDetach = .bayJammed ∧ t.bt = Table.empty))
    ∧ (s.isOwnVoid heard = false → receptionFaulty heard = true →
        (s.blu.objections < 3 → t.blu.objections = s.blu.objections + 1 ∧ t.blu.voids = s.blu.voids ∧ t.ssl = s.ssl
          ∧ t.bt = s.bt ∧ t.blu.turnSpent = s.blu.turnSpent)
          ∧ (3 ≤ s.blu.objections → t.ssl.state = .detached ∧ t.ssl.lastDetach = .objectionLimit ∧ t.bt = Table.empty))
    ∧ (s.isOwnVoid heard = false → receptionFaulty heard = false →
        t.blu.objections = s.blu.objections ∧ t.blu.voids = s.blu.voids ∧ t.ssl = s.ssl ∧ t.bt = s.bt
          ∧ t.blu.turnSpent = s.blu.turnSpent)

/-- R15 to R17: an offer of a block is refused while a CLAIM for the line, or a MIX CLAIM, is queued already; held while the list is
full; else it enters behind every entry of its class and ahead of the higher classes. A strike takes a waiting notice out of the
list, or an offer out of those held; against one in transmission it is held, and at the loss of contention or a void the struck
notice leaves the list, while one not struck goes back to waiting. As entries leave, held offers are admitted, lowest class first and
of one class the one held longest. That held offers are searched for a clash too is the model's choice (log entry 8). -/
def Obligations.OffersAndStrikes : Prop :=
  (∀ (b : Blu) (n : Notice) (o : Owner),
     (((b.list ++ b.held).any (clashes n) = true → b.offer n o = (b, .refused)))
       ∧ ((b.list ++ b.held).any (clashes n) = false → 16 ≤ b.list.length →
           b.offer n o = ({ b with held := b.held ++ [Entry.fresh n o false] }, .held))
       ∧ ((b.list ++ b.held).any (clashes n) = false → b.list.length < 16 → classSorted b.list = true →
           ∃ before after, b.list = before ++ after ∧ (∀ e ∈ before, e.class_ ≤ noticeClass n)
             ∧ (∀ e ∈ after, noticeClass n < e.class_)
             ∧ b.offer n o = ({ b with list := before ++ Entry.fresh n o false :: after }, .admitted)))
    ∧ (∀ (n : Notice) (e : Entry), clashes n e = true ↔
         (∃ line a d v r a' d' v' r', n = .claim line a d v r ∧ e.notice = .claim line a' d' v' r')
           ∨ ∃ time v r time' v' r', n = .mixClaim time v r ∧ e.notice = .mixClaim time' v' r')
    ∧ (∀ (p : Entry → Bool) (e : Entry) (refill : Bool),
         (p e = true → e.transmitting = false → strikeEntry p e = none)
           ∧ (p e = true → e.transmitting = true → strikeEntry p e = some { e with strikeHeld := true })
           ∧ (p e = false → strikeEntry p e = some e)
           ∧ (e.transmitting = true → e.strikeHeld = true → backEntry refill e = none)
           ∧ (e.transmitting = true → e.strikeHeld = false →
               backEntry refill e = some { e with transmitting := false, refill := e.refill || refill })
           ∧ (e.transmitting = false → backEntry refill e = some e))
    ∧ (∀ (b : Blu) (p : Entry → Bool) (refill : Bool),
         b.strike p = Blu.admitHeld { b with list := b.list.filterMap (strikeEntry p), held := b.held.filter fun e => !p e }
           ∧ b.backToWaiting refill = Blu.admitHeld { b with list := b.list.filterMap (backEntry refill) })
    ∧ (∀ b : Blu,
         ((16 ≤ b.list.length ∨ b.held = []) → b.admitHeld = b)
           ∧ (∀ before e after, b.list.length < 16 → b.held = before ++ e :: after → (∀ x ∈ before, e.class_ < x.class_) →
               (∀ x ∈ after, e.class_ ≤ x.class_) →
               b.admitHeld = Blu.admitHeld { b with list := insertEntry e b.list, held := before ++ after }))
    ∧ (∀ (e : Entry) (l : List Entry), classSorted l = true → ∃ before after, l = before ++ after
         ∧ (∀ x ∈ before, x.class_ ≤ e.class_) ∧ (∀ x ∈ after, e.class_ < x.class_) ∧ insertEntry e l = before ++ e :: after)

/-- R3: a receiver that removes the stuff bits has the bits the sender meant. -/
def Obligations.DestuffingUndoesStuffing : Prop :=
  ∀ bits : Bits, destuff (stuff bits) = some bits

/-! ### Takes on the colorant lines (chapter 3), at a station that stands in the bay -/

/-- R26, R56, R72, R73, R79, R81, R82, R95: notices that are discarded: the bay table keeps every record, and the bay count advances.
So it is with a CLAIM, WITHDRAW, RELEASE, REFILL, LINE OUT or LINE RETURN that names a line without a record; with every notice of a
station that stands JOINING, but for JOIN, FORMED, IMAGE and IMAGE END: the six of the lines, LEAVE, RUSH TAKE, RUSH DROP, MIX CLAIM,
MIX WITHDRAW, MIX RELEASE, MIXER RETURN and REVOKE; with a MIX RELEASE or MIXER RETURN of an unequipped mixer; and with a REVOKE whose
line or mixer is not equipped, whose holder or grant number is outside its range, or that matches no holding.
(The tells of such a line notice are log entry 31.) -/
def Obligations.NoticesOfNonMembersOrUnequippedSubjectsAreDiscarded : Prop :=
  (∀ (c : Instr) (s : State) (sender line : Nat) (n : Notice), c.taken = some (sender, n) → n.lineNamed = some line →
     s.member = true → (s.bt.rosterAt sender).state ≠ .absent → (s.bt.unequipped line = true ∨ s.bt.isPresent sender = false) →
       ∃ t, exec c s = .next t ∧ t.bt = s.bt.counted ∧ s.sameOutside t)
    ∧ (∀ (c : Instr) (s : State) (sender : Nat) (n : Notice), c.taken = some (sender, n) → 5 ≤ noticeKind n → s.member = true →
         (s.bt.rosterAt sender).state = .joining → ∃ t, exec c s = .next t ∧ t.bt = s.bt.counted ∧ s.sameOutside t)
    ∧ (∀ (s : State) (sender mixer grant outcome : Nat) (p : Pool), s.member = true → s.bt.isPresent sender = true →
         s.bt.pool = some p → p.recs[mixer]? = none →
           (∃ t, exec (.mixReleaseTaken sender mixer grant outcome) s = .next t ∧ t.bt = s.bt.counted ∧ s.sameOutside t)
             ∧ (∃ t, exec (.mixerReturnTaken sender mixer) s = .next t ∧ t.bt = s.bt.counted ∧ s.sameOutside t))
    ∧ (∀ (s : State) (sender holder grant n : Nat), s.member = true → s.bt.isPresent sender = true →
         (s.bt.unequipped n = true ∨ 15 < holder ∨ 255 < grant
           ∨ (∃ r, s.bt.line n = some r ∧ ∀ h, r.holder = some h → h.station ≠ holder ∨ h.grant ≠ grant)) →
           ∃ t, exec (.revokeTaken sender (.line n) holder grant) s = .next t ∧ t.bt = s.bt.counted ∧ s.sameOutside t)
    ∧ (∀ (s : State) (sender holder grant m : Nat), s.member = true → s.bt.isPresent sender = true →
         (s.bay.mixersEquipped ≤ m ∨ 15 < holder ∨ 255 < grant
           ∨ (∃ p r, s.bt.pool = some p ∧ p.recs[m]? = some r
               ∧ (r.state ≠ .held ∨ r.holder ≠ some holder ∨ r.grant ≠ grant))) →
           ∃ t, exec (.revokeTaken sender (.mixer m) holder grant) s = .next t ∧ t.bt = s.bt.counted ∧ s.sameOutside t)

/-- R57 to R59, R68: a valid CLAIM is appended and grant choice runs, any other is discarded; a WITHDRAW removes the sender's waiting
claim and grant choice runs, and with no such claim it is discarded. Each take tells the channel of its own sender what became of it,
the grant that follows coming after the tell. A take brings its effects about in this order: the holdings that end, with their
timers and REVOKEs (R16 (c), R90, R94); the image cursor; then the tells and grants, a tell about a line to the channel that works it.
The order of the reasons of a discarded CLAIM is log entry 14, the order of unlike effects log entry 9, and the tell of a WITHDRAW of
an unequipped line log entry 31: these are the model's choice. -/
def Obligations.ClaimAndWithdrawTakes : Prop :=
  (∀ (s : State) (sender line shots drops level rush : Nat) (r : LineRec), s.member = true → s.bt.isPresent sender = true →
     s.bt.line line = some r → ∃ t, exec (.claimTaken sender line shots drops level rush) s = .next t ∧ s.sameOutside t
       ∧ (∀ ru, r.service = .inService → (∀ h, r.holder = some h → h.station ≠ sender) → (∀ c ∈ r.waiting, c.station ≠ sender) →
           1 ≤ shots → shots ≤ 63 → 1 ≤ drops → drops ≤ 16383 → level ≤ 2 → rushOfCode rush = some ru →
           t.bt = (s.bt.setLine line (LineRec.grantChoice s.bay.reserve
             { r with waiting := r.waiting ++
                 [{ station := sender, askedShots := shots, askedDrops := drops, requested := level, effective := level, passed := 0,
                    rush := if s.bt.holdsToken sender ru then ru else .none }] })).counted)
       ∧ ((r.service = .out ∨ (∃ h, r.holder = some h ∧ h.station = sender) ∨ (∃ c ∈ r.waiting, c.station = sender)
             ∨ shots = 0 ∨ 63 < shots ∨ drops = 0 ∨ 16383 < drops ∨ 2 < level ∨ rushOfCode rush = none) →
           t.bt = s.bt.counted))
    ∧ (∀ (s : State) (sender line : Nat) (r : LineRec), s.member = true → s.bt.isPresent sender = true → s.bt.line line = some r →
         ∃ t, exec (.withdrawTaken sender line) s = .next t ∧ s.sameOutside t
           ∧ ((∃ c ∈ r.waiting, c.station = sender) →
               t.bt = (s.bt.setLine line (LineRec.grantChoice s.bay.reserve
                 { r with waiting := r.waiting.filter fun c => c.station != sender })).counted)
           ∧ ((∀ c ∈ r.waiting, c.station ≠ sender) → t.bt = s.bt.counted))
    ∧ (∀ (s : State) (sender line shots drops level rush : Nat) (take : Table → List Effect → State) (tell : DiscardReason → List Effect),
         s.member = true → s.bt.isPresent sender = true → take = s.takenBy sender (.claim line shots drops level rush) →
         tell = (fun reason => tellIf s.me sender line (.claimDiscarded reason)) →
           (s.bt.unequipped line = true →
             exec (.claimTaken sender line shots drops level rush) s = .next (take s.bt (tell .notEquipped)))
           ∧ (∀ r, s.bt.line line = some r →
             (∀ ru kept after, r.service = .inService → (∀ h, r.holder = some h → h.station ≠ sender) →
               (∀ c ∈ r.waiting, c.station ≠ sender) → 1 ≤ shots → shots ≤ 63 → 1 ≤ drops → drops ≤ 16383 → level ≤ 2 →
               rushOfCode rush = some ru → kept = (if s.bt.holdsToken sender ru then ru else .none) →
               after = LineRec.grantChoice s.bay.reserve
                 { r with waiting := r.waiting ++
                     [{ station := sender, askedShots := shots, askedDrops := drops, requested := level, effective := level,
                        passed := 0, rush := kept }] } →
                 exec (.claimTaken sender line shots drops level rush) s = .next (take (s.bt.setLine line after)
                   (tellIf s.me sender line (.claimWaits kept (after.holder.any fun h => h.station == sender))
                     ++ grantMade line r after)))
             ∧ (r.service = .out → exec (.claimTaken sender line shots drops level rush) s = .next (take s.bt (tell .lineOut)))
             ∧ (r.service = .inService →
               (((∃ h, r.holder = some h ∧ h.station = sender) ∨ (∃ c ∈ r.waiting, c.station = sender)) →
                 exec (.claimTaken sender line shots drops level rush) s = .next (take s.bt (tell .duplicate)))
               ∧ ((∀ h, r.holder = some h → h.station ≠ sender) → (∀ c ∈ r.waiting, c.station ≠ sender) →
                 (shots = 0 ∨ 63 < shots ∨ drops = 0 ∨ 16383 < drops ∨ 2 < level ∨ rushOfCode rush = none) →
                 exec (.claimTaken sender line shots drops level rush) s = .next (take s.bt (tell .badField))))))
    ∧ (∀ (s : State) (sender line : Nat) (take : Table → List Effect → State), s.member = true → s.bt.isPresent sender = true →
         take = s.takenBy sender (.withdraw line) →
           (s.bt.unequipped line = true →
             exec (.withdrawTaken sender line) s = .next (take s.bt (tellIf s.me sender line .withdrawDiscarded)))
           ∧ (∀ r, s.bt.line line = some r →
             (∀ after, (∃ c ∈ r.waiting, c.station = sender) →
               after = LineRec.grantChoice s.bay.reserve { r with waiting := r.waiting.filter fun c => c.station != sender } →
                 exec (.withdrawTaken sender line) s = .next (take (s.bt.setLine line after)
                   (tellIf s.me sender line .claimWithdrawn ++ grantMade line r after)))
             ∧ ((∀ c ∈ r.waiting, c.station ≠ sender) →
               exec (.withdrawTaken sender line) s = .next (take s.bt (tellIf s.me sender line .withdrawDiscarded)))))
    ∧ (∀ (me sender line : Nat) (tell : LineTell) (book : BookTell) (before after : LineRec),
         (sender = me → tellIf me sender line tell = [.tellLine line tell] ∧ bookIf me sender book = [.tellBook book])
           ∧ (sender ≠ me → tellIf me sender line tell = [] ∧ bookIf me sender book = [])
           ∧ (∀ h, before.holder = none → after.holder = some h → grantMade line before after = [.lineGranted line h])
           ∧ ((before.holder ≠ none ∨ after.holder = none) → grantMade line before after = []))
    ∧ (∀ (s : State) (t : Table) (es : List Effect) (cursor : State → State),
         s.takeEffects t es cursor =
           (es.filter fun e => !e.ends).foldl State.applyEffect
             (cursor (State.cursorPrune ((es.filter Effect.ends).foldl State.applyEffect { s with bt := t }))))
    ∧ (∀ e : Effect, e.ends = true ↔ (∃ n h, e = .lineEnded n h) ∨ ∃ m station grant, e = .mixerEnded m station grant)
    ∧ (∀ (s : State) (line m station grant time : Nat) (h : Holder) (tell : LineTell) (book : BookTell),
         s.applyEffect (.lineEnded line h) = s.endHolding (.line line) h.station h.grant
           ∧ s.applyEffect (.mixerEnded m station grant) = s.endHolding (.mixer m) station grant
           ∧ s.applyEffect (.lineGranted line h) = s.lineGranted line h
           ∧ (station = s.me → s.applyEffect (.mixerGranted m station grant time) =
               State.mixerGranted (s.startTimer (.mixer m) station grant (s.mixerLimit time)) m grant time)
           ∧ (station ≠ s.me → s.applyEffect (.mixerGranted m station grant time) =
               s.startTimer (.mixer m) station grant (s.mixerLimit time))
           ∧ (∀ k, s.worker line = some k → s.applyEffect (.tellLine line tell) = s.lineTell k tell)
           ∧ (s.worker line = none → s.applyEffect (.tellLine line tell) = s)
           ∧ s.applyEffect (.tellBook book) = s.bookTell book
           ∧ (∀ k, s.worker line = some k → k < s.dcs.length ∧ (s.dc k).state ≠ .idle ∧ (s.dc k).line = line
               ∧ ∀ j, j < k → (s.dc j).state = .idle ∨ (s.dc j).line ≠ line)
           ∧ (s.worker line = none → ∀ k, (s.dc k).state = .idle ∨ (s.dc k).line ≠ line))

/-- R60 to R63, R68: a RELEASE that matches the holding ends it, with the level charged by its outcome, and grant choice runs; RUNAWAY
takes the line out. Any other RELEASE is discarded and the holding stands. The sender's channel is told which, and after a RUNAWAY the
channel of this station that waits on the line. That a bad field is judged before lateness is log entry 14, and the tell of a RELEASE
of an unequipped line log entry 31: these are the model's choice. -/
def Obligations.ReleaseTakeEndsTheHolding : Prop :=
  (∀ (s : State) (sender line grant drops outcome : Nat) (r : LineRec), s.member = true → s.bt.isPresent sender = true →
     s.bt.line line = some r → ∃ t, exec (.releaseTaken sender line grant drops outcome) s = .next t ∧ s.sameOutside t
       ∧ (∀ h, r.holder = some h → h.station = sender → h.grant = grant → drops ≤ 16383 →
           (outcome = 0 → t.bt = (s.bt.setLine line (LineRec.grantChoice s.bay.reserve
               { r with holder := none, level := r.level - drops })).counted)
             ∧ (outcome = 1 → t.bt = (s.bt.setLine line (LineRec.grantChoice s.bay.reserve
                 { r with holder := none, level := 0 })).counted)
             ∧ (outcome = 2 → t.bt =
                 (s.bt.setLine line { r with service := .out, level := 0, holder := none, waiting := [] }).counted))
       ∧ (((∀ h, r.holder = some h → h.station ≠ sender ∨ h.grant ≠ grant) ∨ 16383 < drops ∨ 2 < outcome) →
           t.bt = s.bt.counted))
    ∧ (∀ (s : State) (sender line grant drops outcome : Nat) (take : Table → List Effect → State) (tell : LineTell → List Effect),
         s.member = true → s.bt.isPresent sender = true → take = s.takenBy sender (.release line grant drops outcome) →
         tell = tellIf s.me sender line →
           (s.bt.unequipped line = true →
             exec (.releaseTaken sender line grant drops outcome) s = .next (take s.bt (tell .releaseLate)))
           ∧ (∀ r, s.bt.line line = some r →
             (∀ h after level, r.holder = some h → h.station = sender → h.grant = grant → drops ≤ 16383 →
               ((outcome = 0 ∧ level = r.level - drops) ∨ (outcome = 1 ∧ level = 0)) →
               after = LineRec.grantChoice s.bay.reserve { r with holder := none, level := level } →
                 exec (.releaseTaken sender line grant drops outcome) s = .next (take (s.bt.setLine line after)
                   (.lineEnded line h :: tell (.releaseApplied level) ++ grantMade line { r with holder := none } after)))
             ∧ (∀ h, r.holder = some h → h.station = sender → h.grant = grant → drops ≤ 16383 → outcome = 2 →
                 exec (.releaseTaken sender line grant drops outcome) s = .next (take
                   (s.bt.setLine line { r with service := .out, level := 0, holder := none, waiting := [] })
                   (.lineEnded line h :: tell (.releaseApplied 0)
                     ++ (if r.waiting.any fun c => c.station == s.me then [.tellLine line .claimRemoved] else []))))
             ∧ ((16383 < drops ∨ 2 < outcome) →
                 exec (.releaseTaken sender line grant drops outcome) s = .next (take s.bt (tell .releaseRefused)))
             ∧ (drops ≤ 16383 → outcome ≤ 2 → (∀ h, r.holder = some h → h.station ≠ sender ∨ h.grant ≠ grant) →
                 exec (.releaseTaken sender line grant drops outcome) s = .next (take s.bt (tell .releaseLate)))))

/-- R64, R65, R66, R68: REFILL sets the level of an IN line and runs grant choice; LINE OUT takes an IN line out of service; LINE RETURN
puts an OUT line back at the stated level. Each is discarded in the other case. A LINE OUT ends the holding of the line, and tells the
channel of this station that held it (holding ended), or waited on it (claim removed). -/
def Obligations.RefillLineOutAndLineReturnTakes : Prop :=
  (∀ (s : State) (sender line level : Nat) (r : LineRec), s.member = true → s.bt.isPresent sender = true →
    s.bt.line line = some r → level ≤ 16777215 →
      (∃ t, exec (.refillTaken sender line level) s = .next t ∧ s.sameOutside t
        ∧ (r.service = .inService →
            t.bt = (s.bt.setLine line (LineRec.grantChoice s.bay.reserve { r with level := level })).counted)
        ∧ (r.service = .out → t.bt = s.bt.counted))
      ∧ (∃ t, exec (.lineOutTaken sender line) s = .next t ∧ s.sameOutside t
        ∧ (r.service = .inService →
            t.bt = (s.bt.setLine line { r with service := .out, level := 0, holder := none, waiting := [] }).counted)
        ∧ (r.service = .out → t.bt = s.bt.counted))
      ∧ (∃ t, exec (.lineReturnTaken sender line level) s = .next t ∧ s.sameOutside t
        ∧ (r.service = .out → t.bt = (s.bt.setLine line (LineRec.grantChoice s.bay.reserve
            { r with service := .inService, level := level })).counted)
        ∧ (r.service = .inService → t.bt = s.bt.counted)))
    ∧ (∀ (s : State) (sender line level : Nat) (r : LineRec), s.member = true → s.bt.isPresent sender = true →
         s.bt.line line = some r → level ≤ 16777215 →
           (∀ after, r.service = .inService → after = LineRec.grantChoice s.bay.reserve { r with level := level } →
             exec (.refillTaken sender line level) s = .next
               (s.takenBy sender (.refill line level) (s.bt.setLine line after) (grantMade line r after)))
           ∧ (∀ after, r.service = .out →
             after = LineRec.grantChoice s.bay.reserve { r with service := .inService, level := level } →
             exec (.lineReturnTaken sender line level) s = .next
               (s.takenBy sender (.lineReturn line level) (s.bt.setLine line after) (grantMade line r after)))
           ∧ (∀ removed, r.service = .inService →
             removed = (if r.waiting.any fun c => c.station == s.me then [Effect.tellLine line .claimRemoved] else []) →
             (r.holder = none →
               exec (.lineOutTaken sender line) s = .next (s.takenBy sender (.lineOut line)
                 (s.bt.setLine line { r with service := .out, level := 0, holder := none, waiting := [] }) removed))
             ∧ (∀ h, r.holder = some h →
               exec (.lineOutTaken sender line) s = .next (s.takenBy sender (.lineOut line)
                 (s.bt.setLine line { r with service := .out, level := 0, holder := none, waiting := [] })
                 (.lineEnded line h :: (if h.station = s.me then [.tellLine line .holdingEnded] else []) ++ removed)))))

/-- R48: the status of a line record, and LOW. An IN line with no holder and a claim waiting is granted by grant choice or left
STALLED. -/
def Obligations.LineStatusAndLow : Prop :=
  ∀ (reserve : Nat) (r : LineRec),
    (r.service = .out → lineStatus r = .out)
      ∧ (∀ h, r.service = .inService → r.holder = some h → lineStatus r = .held)
      ∧ (r.service = .inService → r.holder = none → r.waiting = [] → lineStatus r = .free)
      ∧ (r.service = .inService → r.holder = none → r.waiting ≠ [] → lineStatus r = .stalled)
      ∧ (lineLow reserve r = true ↔ r.level < reserve) ∧ lineLow 0 r = false
      ∧ (r.service = .out → r.level = 0 → 0 < reserve → lineLow reserve r = true)
      ∧ (r.service = .inService → r.holder = none → r.waiting ≠ [] →
          (lineStatus (LineRec.grantChoice reserve r) = .held ∨ (LineRec.grantChoice reserve r = r ∧ lineStatus r = .stalled)))

/-- R49 to R53: the best claim is eligible; it carries rush A, or none that waits does and it carries rush B, or no claim carries a
rush and it is the earliest of the highest effective level; there is none exactly when no claim is eligible. Grant choice makes at
most one grant: on an IN line with no holder, to the best claim when its asked drops do not exceed the level; else the record stands,
and no other claim is looked at. -/
def Obligations.GrantChoiceGrantsTheBestClaimOrStalls : Prop :=
  (∀ (reserve : Nat) (r : LineRec),
     (∀ i, LineRec.best reserve r = some i → ∃ c, r.waiting[i]? = some c
       ∧ ¬ (r.level < reserve ∧ c.rush = .none ∧ c.effective = 0)
       ∧ (c.rush = .a
         ∨ ((∀ x ∈ r.waiting, x.rush ≠ .a)
           ∧ (c.rush = .b
             ∨ ((∀ x ∈ r.waiting, x.rush ≠ .b)
               ∧ ∀ j x, r.waiting[j]? = some x → ¬ (r.level < reserve ∧ x.rush = .none ∧ x.effective = 0) →
                   x.effective ≤ c.effective ∧ (x.effective = c.effective → i ≤ j))))))
       ∧ (LineRec.best reserve r = none ↔ ∀ x ∈ r.waiting, r.level < reserve ∧ x.rush = .none ∧ x.effective = 0))
    ∧ (∀ (reserve : Nat) (r : LineRec),
         (∀ i c, r.service = .inService → r.holder = none → LineRec.best reserve r = some i → r.waiting[i]? = some c →
           (c.askedDrops ≤ r.level → LineRec.grantChoice reserve r =
             { r with
               grant := (r.grant + 1) % 256
               holder := some { station := c.station, grant := (r.grant + 1) % 256, askedShots := c.askedShots,
                                askedDrops := c.askedDrops, rush := c.rush, levelAtGrant := r.level }
               waiting := (r.waiting.take i).map Claim.aged ++ r.waiting.drop (i + 1) })
             ∧ (r.level < c.askedDrops → LineRec.grantChoice reserve r = r))
           ∧ ((r.service = .out ∨ r.holder ≠ none ∨ LineRec.best reserve r = none) → LineRec.grantChoice reserve r = r))

/-! ### Tokens and the mixer pool (chapter 4) -/

/-- R55, R72, R73, R84: a RUSH TAKE gives A if it is free, else B if it is free, else nothing, and nothing for a tag that holds a token
already. A RUSH DROP of a token that its sender holds frees it, takes it from every waiting claim that carries it, and runs grant
choice where that changed a record; any other is discarded. The sender's order book is told which, and after a drop the grants that
it led to follow. -/
def Obligations.RushTokensAreTakenAndDropped : Prop :=
  (∀ (s : State) (sender tag : Nat) (tk : Tokens), s.member = true → s.bt.isPresent sender = true → s.bt.tokens = some tk →
     ∃ t, exec (.rushTakeTaken sender tag) s = .next t ∧ s.sameOutside t
       ∧ (1 ≤ tag → tag ≤ 65535 → tk.a ≠ some { station := sender, tag := tag } → tk.b ≠ some { station := sender, tag := tag } →
           (tk.a = none → t.bt = Table.counted { s.bt with tokens := some { tk with a := some { station := sender, tag := tag } } })
             ∧ (tk.a ≠ none → tk.b = none →
                 t.bt = Table.counted { s.bt with tokens := some { tk with b := some { station := sender, tag := tag } } })
             ∧ (tk.a ≠ none → tk.b ≠ none → t.bt = s.bt.counted))
       ∧ ((tag = 0 ∨ 65535 < tag ∨ tk.a = some { station := sender, tag := tag } ∨ tk.b = some { station := sender, tag := tag }) →
           t.bt = s.bt.counted))
    ∧ (∀ (s : State) (sender token : Nat) (tk : Tokens), s.member = true → s.bt.isPresent sender = true → s.bt.tokens = some tk →
         ∃ t, exec (.rushDropTaken sender token) s = .next t ∧ s.sameOutside t ∧ t.bt.roster = s.bt.roster
           ∧ (∀ ru, tokenOfCode token = some ru → s.bt.holdsToken sender ru = true →
               t.bt.tokens = some (if ru = .a then { tk with a := none } else { tk with b := none })
                 ∧ (∀ n r, s.bt.line n = some r →
                     t.bt.line n = some
                       (if r.waiting.any (fun c => c.rush == ru) then
                         LineRec.grantChoice s.bay.reserve
                           { r with waiting := r.waiting.map fun c => if c.rush = ru then { c with rush := .none } else c }
                       else r))
                 ∧ (∀ p, s.bt.pool = some p →
                     t.bt.pool = some
                       (if p.waiting.any (fun c => c.rush == ru) then
                         (Pool.grantChoice
                           { p with waiting := p.waiting.map fun c => if c.rush = ru then { c with rush := .none } else c }).1
                       else p)))
           ∧ ((tokenOfCode token = none ∨ ∃ ru, tokenOfCode token = some ru ∧ s.bt.holdsToken sender ru = false) →
               t.bt = s.bt.counted))
    ∧ (∀ (s : State) (sender tag : Nat) (tk : Tokens) (take : Table → List Effect → State) (tell : BookTell → List Effect),
         s.member = true → s.bt.isPresent sender = true → s.bt.tokens = some tk → take = s.takenBy sender (.rushTake tag) →
         tell = bookIf s.me sender →
           ((tag = 0 ∨ 65535 < tag) →
             exec (.rushTakeTaken sender tag) s = .next (take s.bt (tell (.tokenRefused .badField))))
           ∧ (1 ≤ tag → tag ≤ 65535 →
             ((tk.a = some { station := sender, tag := tag } ∨ tk.b = some { station := sender, tag := tag }) →
               exec (.rushTakeTaken sender tag) s = .next (take s.bt (tell (.tokenRefused .tagHolds))))
             ∧ (tk.a ≠ some { station := sender, tag := tag } → tk.b ≠ some { station := sender, tag := tag } →
               (tk.a = none → exec (.rushTakeTaken sender tag) s = .next (take
                 { s.bt with tokens := some { tk with a := some { station := sender, tag := tag } } } (tell (.tokenTaken .a))))
               ∧ (tk.a ≠ none → tk.b = none → exec (.rushTakeTaken sender tag) s = .next (take
                 { s.bt with tokens := some { tk with b := some { station := sender, tag := tag } } } (tell (.tokenTaken .b))))
               ∧ (tk.a ≠ none → tk.b ≠ none →
                 exec (.rushTakeTaken sender tag) s = .next (take s.bt (tell (.tokenRefused .noneFree)))))))
    ∧ (∀ (s : State) (sender token : Nat) (take : Table → List Effect → State) (tell : BookTell → List Effect),
         s.member = true → s.bt.isPresent sender = true → take = s.takenBy sender (.rushDrop token) → tell = bookIf s.me sender →
           ((tokenOfCode token = none ∨ ∃ ru, tokenOfCode token = some ru ∧ s.bt.holdsToken sender ru = false) →
             exec (.rushDropTaken sender token) s = .next (take s.bt (tell .dropDiscarded)))
           ∧ (∀ ru, tokenOfCode token = some ru → s.bt.holdsToken sender ru = true →
             ∃ (t : Table) (lines pool : List Effect),
               exec (.rushDropTaken sender token) s = .next (take t (tell .tokenDropped ++ (lines ++ pool)))
               ∧ (∀ e, e ∈ lines ↔ ∃ n r after h, s.bt.line n = some r ∧ t.line n = some after ∧ r.holder = none
                   ∧ after.holder = some h ∧ e = .lineGranted n h)
               ∧ (s.bt.pool = none → pool = [])
               ∧ (∀ p, s.bt.pool = some p → pool =
                   (if p.waiting.any (fun c => c.rush == ru) then
                     (Pool.grantChoice
                       { p with waiting := p.waiting.map fun c => if c.rush = ru then { c with rush := .none } else c }).2
                   else []))))

/-- R79, R80, R84: a valid MIX CLAIM is appended and pool grant choice runs; a MIX WITHDRAW removes the sender's claim and pool grant
choice runs; each is discarded otherwise. The sender's order book is told which, and the grants follow. That a duplicate is judged
before a bad field is the model's choice (log entry 14). -/
def Obligations.MixClaimAndMixWithdrawTakes : Prop :=
  (∀ (s : State) (sender time level rush : Nat) (p : Pool), s.member = true → s.bt.isPresent sender = true →
    s.bt.pool = some p →
      (∃ t, exec (.mixClaimTaken sender time level rush) s = .next t ∧ s.sameOutside t
        ∧ (∀ ru, (∀ c ∈ p.waiting, c.station ≠ sender) → 10 ≤ time → time ≤ 300 → level ≤ 2 → rushOfCode rush = some ru →
            t.bt = Table.counted { s.bt with
              pool := some (Pool.grantChoice { p with waiting := p.waiting ++
                [{ station := sender, mixTime := time, requested := level, effective := level, passed := 0,
                   rush := if s.bt.holdsToken sender ru then ru else .none }] }).1 })
        ∧ (((∃ c ∈ p.waiting, c.station = sender) ∨ time < 10 ∨ 300 < time ∨ 2 < level ∨ rushOfCode rush = none) →
            t.bt = s.bt.counted))
      ∧ (∃ t, exec (.mixWithdrawTaken sender) s = .next t ∧ s.sameOutside t
        ∧ ((∃ c ∈ p.waiting, c.station = sender) →
            t.bt = Table.counted { s.bt with
              pool := some (Pool.grantChoice { p with waiting := p.waiting.filter fun c => c.station != sender }).1 })
        ∧ ((∀ c ∈ p.waiting, c.station ≠ sender) → t.bt = s.bt.counted)))
    ∧ (∀ (s : State) (sender time level rush : Nat) (p : Pool) (take : Table → List Effect → State) (tell : BookTell → List Effect),
         s.member = true → s.bt.isPresent sender = true → s.bt.pool = some p →
         take = s.takenBy sender (.mixClaim time level rush) → tell = bookIf s.me sender →
           (∀ ru kept g, (∀ c ∈ p.waiting, c.station ≠ sender) → 10 ≤ time → time ≤ 300 → level ≤ 2 → rushOfCode rush = some ru →
             kept = (if s.bt.holdsToken sender ru then ru else .none) →
             g = Pool.grantChoice { p with waiting := p.waiting ++
               [{ station := sender, mixTime := time, requested := level, effective := level, passed := 0, rush := kept }] } →
               exec (.mixClaimTaken sender time level rush) s = .next
                 (take { s.bt with pool := some g.1 } (tell (.mixClaimWaits kept) ++ g.2)))
           ∧ ((∃ c ∈ p.waiting, c.station = sender) →
               exec (.mixClaimTaken sender time level rush) s = .next (take s.bt (tell (.mixClaimDiscarded .duplicate))))
           ∧ ((∀ c ∈ p.waiting, c.station ≠ sender) → (time < 10 ∨ 300 < time ∨ 2 < level ∨ rushOfCode rush = none) →
               exec (.mixClaimTaken sender time level rush) s = .next (take s.bt (tell (.mixClaimDiscarded .badField)))))
    ∧ (∀ (s : State) (sender : Nat) (p : Pool) (take : Table → List Effect → State) (tell : BookTell → List Effect),
         s.member = true → s.bt.isPresent sender = true → s.bt.pool = some p → take = s.takenBy sender .mixWithdraw →
         tell = bookIf s.me sender →
           (∀ g, (∃ c ∈ p.waiting, c.station = sender) →
             g = Pool.grantChoice { p with waiting := p.waiting.filter fun c => c.station != sender } →
               exec (.mixWithdrawTaken sender) s = .next
                 (take { s.bt with pool := some g.1 } (tell .mixClaimWithdrawn ++ g.2)))
           ∧ ((∀ c ∈ p.waiting, c.station ≠ sender) →
               exec (.mixWithdrawTaken sender) s = .next (take s.bt (tell .mixWithdrawDiscarded))))

/-- R81, R82, R84: a MIX RELEASE that matches a holding makes the mixer FREE (DONE) or OUT (FAULT, BLOCKED); a MIXER RETURN makes an OUT
mixer FREE; both then run pool grant choice, and each is discarded otherwise. The order book of the MIX RELEASE's sender is told which,
and the grants follow. That the unequipped mixer is judged before the outcome (log entry 14), and that the tell carries the state the
outcome gives the mixer (log entry 47), are the model's choice and reading. -/
def Obligations.MixReleaseAndMixerReturnTakes : Prop :=
  (∀ (s : State) (sender mixer grant outcome : Nat) (p : Pool) (r : MixRec), s.member = true → s.bt.isPresent sender = true →
    s.bt.pool = some p → p.recs[mixer]? = some r →
      (∃ t, exec (.mixReleaseTaken sender mixer grant outcome) s = .next t ∧ s.sameOutside t
        ∧ (r.state = .held → r.holder = some sender → r.grant = grant → outcome ≤ 2 →
            t.bt = Table.counted { s.bt with
              pool := some (Pool.grantChoice
                { p with
                  recs := p.recs.set mixer
                    { state := if outcome = 0 then .free else .out, holder := none, grant := r.grant, mixTime := none } }).1 })
        ∧ ((r.state ≠ .held ∨ r.holder ≠ some sender ∨ r.grant ≠ grant ∨ 2 < outcome) → t.bt = s.bt.counted))
      ∧ (∃ t, exec (.mixerReturnTaken sender mixer) s = .next t ∧ s.sameOutside t
        ∧ (r.state = .out → t.bt = Table.counted { s.bt with
            pool := some (Pool.grantChoice { p with recs := p.recs.set mixer { r with state := .free } }).1 })
        ∧ (r.state ≠ .out → t.bt = s.bt.counted)))
    ∧ (∀ (s : State) (sender mixer grant outcome : Nat) (p : Pool) (take : Table → List Effect → State)
         (tell : BookTell → List Effect), s.member = true → s.bt.isPresent sender = true → s.bt.pool = some p →
         take = s.takenBy sender (.mixRelease mixer grant outcome) → tell = bookIf s.me sender →
           (p.recs[mixer]? = none →
             exec (.mixReleaseTaken sender mixer grant outcome) s = .next (take s.bt (tell (.mixReleaseRefused .notEquipped))))
           ∧ (∀ r, p.recs[mixer]? = some r →
             (2 < outcome →
               exec (.mixReleaseTaken sender mixer grant outcome) s = .next (take s.bt (tell (.mixReleaseRefused .badField))))
             ∧ (outcome ≤ 2 → (r.state ≠ .held ∨ r.holder ≠ some sender ∨ r.grant ≠ grant) →
               exec (.mixReleaseTaken sender mixer grant outcome) s = .next (take s.bt (tell .mixReleaseLate)))
             ∧ (∀ st g, outcome ≤ 2 → r.state = .held → r.holder = some sender → r.grant = grant →
               st = (if outcome = 0 then MixerState.free else .out) →
               g = Pool.grantChoice
                 { p with recs := p.recs.set mixer { state := st, holder := none, grant := r.grant, mixTime := none } } →
                 exec (.mixReleaseTaken sender mixer grant outcome) s = .next (take { s.bt with pool := some g.1 }
                   (.mixerEnded mixer sender grant :: tell (.mixReleaseApplied st) ++ g.2)))
             ∧ (∀ g, r.state = .out → g = Pool.grantChoice { p with recs := p.recs.set mixer { r with state := .free } } →
                 exec (.mixerReturnTaken sender mixer) s = .next
                   (s.takenBy sender (.mixerReturn mixer) { s.bt with pool := some g.1 } g.2))))

/-- R54, R77, R78: the best claim of the pool carries rush A, or none that waits does and it carries rush B, or no claim carries a rush
and it is the earliest of the highest effective level; there is none exactly when no claim waits. Pool grant choice goes on while a
mixer is FREE and a claim waits: the best claim gets the FREE mixer of lowest number, and the claims ahead of it are aged; each grant
comes about in its turn. A claim without rush that a grant passes, on a line or in the pool, counts the pass, and
its effective level rises at every fourth, to 2 at most. -/
def Obligations.PoolGrantChoiceAndAging : Prop :=
  (∀ p : Pool,
     (∀ i, p.best = some i → ∃ c, p.waiting[i]? = some c
       ∧ ((c.rush = .a ∧ ∀ j x, j < i → p.waiting[j]? = some x → x.rush ≠ .a)
         ∨ ((∀ x ∈ p.waiting, x.rush ≠ .a)
           ∧ ((c.rush = .b ∧ ∀ j x, j < i → p.waiting[j]? = some x → x.rush ≠ .b)
             ∨ ((∀ x ∈ p.waiting, x.rush ≠ .b)
               ∧ ∀ j x, p.waiting[j]? = some x →
                   x.effective ≤ c.effective ∧ (x.effective = c.effective → i ≤ j))))))
       ∧ (p.best = none ↔ p.waiting = []))
    ∧ (∀ p : Pool,
     (p.grantChoice.1.waiting = [] ∨ ∀ r ∈ p.grantChoice.1.recs, r.state ≠ .free)
       ∧ ((p.waiting = [] ∨ ∀ r ∈ p.recs, r.state ≠ .free) → p.grantChoice = (p, []))
       ∧ (∀ i m c r, p.best = some i → p.waiting[i]? = some c → p.recs[m]? = some r → r.state = .free →
           (∀ j x, j < m → p.recs[j]? = some x → x.state ≠ .free) →
           p.grantChoice.1 = (Pool.grantChoice
             { recs := p.recs.set m { state := .held, holder := some c.station, grant := (r.grant + 1) % 256,
                                      mixTime := some c.mixTime },
               waiting := (p.waiting.take i).map MixClaim.aged ++ p.waiting.drop (i + 1) }).1
           ∧ p.grantChoice.2 = .mixerGranted m c.station ((r.grant + 1) % 256) c.mixTime :: (Pool.grantChoice
             { recs := p.recs.set m { state := .held, holder := some c.station, grant := (r.grant + 1) % 256,
                                      mixTime := some c.mixTime },
               waiting := (p.waiting.take i).map MixClaim.aged ++ p.waiting.drop (i + 1) }).2))
    ∧ (∀ (c : Claim) (m : MixClaim),
         (c.rush ≠ .none → Claim.aged c = c)
           ∧ (c.rush = .none → c.passed < 3 → Claim.aged c = { c with passed := c.passed + 1 })
           ∧ (c.rush = .none → c.passed = 3 → c.effective < 2 → Claim.aged c = { c with passed := 0, effective := c.effective + 1 })
           ∧ (c.rush = .none → c.passed = 3 → 2 ≤ c.effective → Claim.aged c = { c with passed := 0 })
           ∧ (m.rush ≠ .none → MixClaim.aged m = m)
           ∧ (m.rush = .none → m.passed < 3 → MixClaim.aged m = { m with passed := m.passed + 1 })
           ∧ (m.rush = .none → m.passed = 3 → m.effective < 2 → MixClaim.aged m = { m with passed := 0, effective := m.effective + 1 })
           ∧ (m.rush = .none → m.passed = 3 → 2 ≤ m.effective → MixClaim.aged m = { m with passed := 0 }))

/-! ### Purges and revocation (chapters 2 and 5) -/

/-- R30, R31, R38, R67, R83, R95, R98: purges. The take of another station's LEAVE, or of a REVOKE that matches a holding of another
station, purges that station: its record stands ABSENT, every other station's as it was, its tokens are free, and each line record
and the pool are the purged ones, with grant choice where the purge changed them. The take of another station's JOIN purges its
sender, if that stands PRESENT or JOINING, and the silent giver it names, or the giver of an unmarked JOINING sender that names none;
a FORMED of a JOINING sender whose giver is PRESENT and whose mark is clear purges that giver; the sender is then JOINING, with the
lowest PRESENT station as giver. Tokens, line records and pool are at these takes the purged ones too, with grant choice
where the purge changed them. A FORMED of any other sender changes the count alone. A purge ends the station's holding, charging
the asked drops against the level, 0 at the least, removes its claims, frees the claims that carried its tokens of their rush, and
puts its mixers OUT. Here the purged station is another, and this station stays as it is; the purge of this station itself is
TakesThatDetachThisStation. That the result of R31 (d) is held for a JOIN's sender is the model's reading (log entry 10). -/
def Obligations.LeaveAndRevokePurgeTheStation : Prop :=
  (∀ (c : Instr) (s : State) (S : Nat), s.member = true → s.bt.isPresent S = true → S < 16 → S ≠ s.me →
     (c = .leaveTaken S
       ∨ (∃ sender n h r, c = .revokeTaken sender (.line n) S h.grant ∧ s.bt.isPresent sender = true ∧ s.bt.line n = some r
           ∧ r.holder = some h ∧ h.station = S ∧ h.grant ≤ 255)
       ∨ (∃ sender m p r, c = .revokeTaken sender (.mixer m) S r.grant ∧ s.bt.isPresent sender = true ∧ s.bt.pool = some p
           ∧ m < s.bay.mixersEquipped ∧ p.recs[m]? = some r ∧ r.state = .held ∧ r.holder = some S ∧ r.grant ≤ 255)) →
       ∃ t, exec c s = .next t ∧ s.sameOutside t ∧ t.bt.rosterAt S = RosterRec.empty
         ∧ (∀ q, q ≠ S → t.bt.rosterAt q = s.bt.rosterAt q) ∧ t.bt.digest = s.bt.digest ∧ t.bt.formed = s.bt.formed
         ∧ (∀ tk, s.bt.tokens = some tk → t.bt.tokens = some { a := freeHolder S tk.a, b := freeHolder S tk.b })
         ∧ (∀ n r, s.bt.line n = some r →
             t.bt.line n = some
               (if LineRec.purge S (s.bt.holdsToken S) r = r then r
                 else LineRec.grantChoice s.bay.reserve (LineRec.purge S (s.bt.holdsToken S) r)))
         ∧ (∀ p, s.bt.pool = some p →
             t.bt.pool = some
               (if Pool.purge S (s.bt.holdsToken S) p = p then p
                 else (Pool.grantChoice (Pool.purge S (s.bt.holdsToken S) p)).1)))
    ∧ (∀ (s : State) (sender station digest : Nat) (silent victim : Option Nat) (before : RosterRec), s.member = true →
         s.bt.roster.length = 16 → sender < 16 → sender ≠ s.me → before = s.bt.rosterAt sender → victim ≠ some s.me →
         (∀ S, victim = some S → s.bt.isPresent S = true ∧ S ≠ sender) →
         ((silent = victim ∧ silent ≠ none) ∨ (silent = none ∧ before.state = .joining ∧ before.imageMark = false
             ∧ victim = before.giver)
           ∨ (silent = none ∧ victim = none ∧ (before.state ≠ .joining ∨ before.imageMark = true
               ∨ ∀ S, before.giver = some S → s.bt.isPresent S = false))
           ∨ ∃ S, silent = some S ∧ victim = none ∧ (S = sender ∨ s.bt.isPresent S = false)) →
           ∃ t g, exec (.joinTaken sender station digest silent) s = .next t ∧ s.sameOutside t
             ∧ t.bt.rosterAt sender = { state := .joining, giver := some g, imageMark := false }
             ∧ s.bt.isPresent g = true ∧ g ≠ sender ∧ victim ≠ some g
             ∧ (∀ q, q < g → q ≠ sender → victim ≠ some q → s.bt.isPresent q = false)
             ∧ (∀ S, victim = some S → S < 16 → t.bt.rosterAt S = RosterRec.empty)
             ∧ (∀ q, q ≠ sender → victim ≠ some q → t.bt.rosterAt q = s.bt.rosterAt q)
             ∧ (∀ n r own both, s.bt.line n = some r →
                 own = (if before.state = .absent then r else LineRec.purge sender (s.bt.holdsToken sender) r) →
                 both = (match victim with
                   | some S => LineRec.purge S (s.bt.holdsToken S) own
                   | none => own) →
                 t.bt.line n = some (if both = r then r else LineRec.grantChoice s.bay.reserve both))
             ∧ (∀ p own both, s.bt.pool = some p →
                 own = (if before.state = .absent then p else Pool.purge sender (s.bt.holdsToken sender) p) →
                 both = (match victim with
                   | some S => Pool.purge S (s.bt.holdsToken S) own
                   | none => own) →
                 t.bt.pool = some (if both = p then p else (Pool.grantChoice both).1))
             ∧ (∀ tk own both : Tokens, s.bt.tokens = some tk →
                 own = (if before.state = .absent then tk else { a := freeHolder sender tk.a, b := freeHolder sender tk.b }) →
                 both = (match victim with
                   | some S => { a := freeHolder S own.a, b := freeHolder S own.b }
                   | none => own) →
                 t.bt.tokens = some both)
             ∧ t.bt.digest = s.bt.digest ∧ t.bt.formed = s.bt.formed
             ∧ t.bt.joinResults = s.bt.joinResults.set sender (some (s.bt.digest == some digest)))
    ∧ (∀ (s : State) (sender : Nat), s.member = true → s.bt.roster.length = 16 → sender < 16 →
         (((s.bt.rosterAt sender).state ≠ .joining ∨ (s.bt.rosterAt sender).imageMark = true
             ∨ (∀ S, (s.bt.rosterAt sender).giver = some S → s.bt.isPresent S = false)) →
           ∃ t, exec (.formedTaken sender) s = .next t ∧ s.sameOutside t ∧ t.bt = s.bt.counted)
         ∧ (∀ S, (s.bt.rosterAt sender).state = .joining → (s.bt.rosterAt sender).imageMark = false →
             (s.bt.rosterAt sender).giver = some S → s.bt.isPresent S = true → S < 16 → S ≠ s.me →
             ∃ t g, exec (.formedTaken sender) s = .next t ∧ s.sameOutside t
               ∧ t.bt.rosterAt S = RosterRec.empty
               ∧ t.bt.rosterAt sender = { state := .joining, giver := some g, imageMark := false }
               ∧ s.bt.isPresent g = true ∧ g ≠ S ∧ (∀ q, q < g → q ≠ S → s.bt.isPresent q = false)
               ∧ (∀ q, q ≠ sender → q ≠ S → t.bt.rosterAt q = s.bt.rosterAt q)
               ∧ (∀ n r, s.bt.line n = some r →
                   t.bt.line n = some
                     (if LineRec.purge S (s.bt.holdsToken S) r = r then r
                       else LineRec.grantChoice s.bay.reserve (LineRec.purge S (s.bt.holdsToken S) r)))
               ∧ (∀ p, s.bt.pool = some p →
                   t.bt.pool = some
                     (if Pool.purge S (s.bt.holdsToken S) p = p then p
                       else (Pool.grantChoice (Pool.purge S (s.bt.holdsToken S) p)).1))
               ∧ (∀ tk, s.bt.tokens = some tk → t.bt.tokens = some { a := freeHolder S tk.a, b := freeHolder S tk.b })
               ∧ t.bt.digest = s.bt.digest ∧ t.bt.formed = s.bt.formed ∧ t.bt.joinResults = s.bt.joinResults))
    ∧ (∀ (S : Nat) (h : Option TokenHolder),
         (∀ x, h = some x → x.station = S → freeHolder S h = none) ∧ ((∀ x, h = some x → x.station ≠ S) → freeHolder S h = h))
    ∧ (∀ (S : Nat) (freed : Rush → Bool) (r : LineRec) (kept : List Claim),
         kept = ((r.waiting.filter fun c => c.station != S).map fun c =>
           if c.rush ≠ .none ∧ freed c.rush = true then { c with rush := .none } else c) →
           (∀ h, r.holder = some h → h.station = S →
             LineRec.purge S freed r = { r with holder := none, level := r.level - h.askedDrops, waiting := kept })
           ∧ ((∀ h, r.holder = some h → h.station ≠ S) → LineRec.purge S freed r = { r with waiting := kept }))
    ∧ (∀ (S : Nat) (freed : Rush → Bool) (p : Pool),
         (Pool.purge S freed p).waiting = ((p.waiting.filter fun c => c.station != S).map fun c =>
             if c.rush ≠ .none ∧ freed c.rush = true then { c with rush := .none } else c)
           ∧ (Pool.purge S freed p).recs.length = p.recs.length
           ∧ (∀ (m : Nat) (r : MixRec), p.recs[m]? = some r → (Pool.purge S freed p).recs[m]? = some
               (if r.state = .held ∧ r.holder = some S then { r with state := .out, holder := none, mixTime := none } else r)))


/-- R30, R31, R39, R40, R100: a take that purges this station makes it DETACHED, purged: a REVOKE that matches a holding of its own,
of a line or of a mixer; another station's JOIN that names it as silent giver, or, naming none, comes from an unmarked JOINING sender
whose recorded giver it is; a FORMED of such a sender. A notice other than JOIN and FORMED from a sender that stands ABSENT, or an
IMAGE addressed to the station itself, makes it DETACHED, out of step. Its table is then empty and its rejoin timer runs. -/
def Obligations.TakesThatDetachThisStation : Prop :=
  (∀ (s : State) (sender n : Nat) (h : Holder) (r : LineRec), s.member = true → s.bt.isPresent sender = true → s.me < 16 →
     s.bt.line n = some r → r.holder = some h → h.station = s.me → h.grant ≤ 255 →
       ∃ t, exec (.revokeTaken sender (.line n) s.me h.grant) s = .next t ∧ t.ssl.state = .detached ∧ t.ssl.lastDetach = .purged
         ∧ t.bt = Table.empty ∧ t.ssl.rejoinTimer = some (2000 + 100 * s.me) ∧ (∀ i, (t.timer i).state = .stopped)
         ∧ t.setup = s.setup ∧ t.pins = s.pins)
    ∧ (∀ (c : Instr) (s : State) (sender : Nat) (n : Notice), c.taken = some (sender, n) → s.hears = true → s.ssl.state = .attached →
         ((noticeKind n ≠ 1 ∧ noticeKind n ≠ 2 ∧ (s.bt.rosterAt sender).state = .absent) ∨ ∃ img, n = .image s.me img) →
           ∃ t, exec c s = .next t ∧ t.ssl.state = .detached ∧ t.ssl.lastDetach = .outOfStep ∧ t.bt = Table.empty
             ∧ t.ssl.rejoinTimer = some (2000 + 100 * s.me) ∧ t.setup = s.setup ∧ t.pins = s.pins)
    ∧ (∀ (c : Instr) (s : State) (sender : Nat), s.member = true → s.bt.roster.length = 16 → s.me < 16 → sender < 16 →
         ((∃ m p r, c = .revokeTaken sender (.mixer m) s.me r.grant ∧ s.bt.isPresent sender = true ∧ s.bt.pool = some p
             ∧ m < s.bay.mixersEquipped ∧ p.recs[m]? = some r ∧ r.state = .held ∧ r.holder = some s.me ∧ r.grant ≤ 255)
           ∨ (∃ station digest, c = .joinTaken sender station digest (some s.me) ∧ sender ≠ s.me)
           ∨ (∃ station digest, c = .joinTaken sender station digest none ∧ (s.bt.rosterAt sender).state = .joining
               ∧ (s.bt.rosterAt sender).imageMark = false ∧ (s.bt.rosterAt sender).giver = some s.me)
           ∨ (c = .formedTaken sender ∧ (s.bt.rosterAt sender).state = .joining ∧ (s.bt.rosterAt sender).imageMark = false
               ∧ (s.bt.rosterAt sender).giver = some s.me)) →
           ∃ t, exec c s = .next t ∧ t.ssl.state = .detached ∧ t.ssl.lastDetach = .purged ∧ t.bt = Table.empty
             ∧ t.blu.list = [] ∧ t.blu.held = [] ∧ t.blu.cursor.joiners = []
             ∧ t.ssl.rejoinTimer = some (2000 + 100 * s.me) ∧ (∀ i, (t.timer i).state = .stopped) ∧ t.setup = s.setup
             ∧ t.pins = s.pins)

/-! ### Forming, joining and leaving (chapter 2) -/

/-- R27: a JOIN in formation: the first opens it and starts the formation window; a later one makes its sender PRESENT when its
digest is the bay's and ABSENT when it is not. -/
def Obligations.FormationJoinEntersByDigest : Prop :=
  ∀ (s : State) (sender station digest : Nat) (silent : Option Nat), s.hears = true → s.ssl.state = .forming →
    s.ssl.lateMark = false → s.bt.formed = false → sender < s.bt.roster.length →
      ∃ t, exec (.joinTaken sender station digest silent) s = .next t ∧ t.ssl.state = .forming ∧ t.setup = s.setup
        ∧ (∀ q, q ≠ sender → t.bt.rosterAt q = s.bt.rosterAt q) ∧ t.bt.formed = false
        ∧ (sender = s.me → t.ssl.joinTaken = true) ∧ (sender ≠ s.me → t.ssl.joinTaken = s.ssl.joinTaken)
        ∧ (s.bt.digest = none → t.bt.digest = some digest ∧ (t.bt.rosterAt sender).state = .present
            ∧ t.ssl.formationWindow = some (1000 * s.bay.formationWindow))
        ∧ (s.bt.digest = some digest → t.bt.digest = some digest ∧ (t.bt.rosterAt sender).state = .present
            ∧ t.ssl.formationWindow = s.ssl.formationWindow)
        ∧ (∀ d, s.bt.digest = some d → d ≠ digest → t.bt.digest = some d ∧ (t.bt.rosterAt sender).state = .absent
            ∧ t.ssl.formationWindow = s.ssl.formationWindow)

/-- R14, R29, R30: the take of FORMED at a FORMING station. With formation open: a PRESENT station builds its records and becomes
ATTACHED; one whose digest differs becomes REFUSED; else it sets the late mark. With no digest heard only the formed flag is set. With
the formed flag set already it is discarded, and the bay count advances. With the late mark set nothing is applied. -/
def Obligations.FormedTakeClosesFormation : Prop :=
  ∀ (s : State) (sender : Nat), s.hears = true → s.ssl.state = .forming →
    ∃ t, exec (.formedTaken sender) s = .next t ∧ t.setup = s.setup ∧ t.pins = s.pins ∧ t.ssl.formationWindow = none
      ∧ (s.ssl.lateMark = false → s.bt.formed = false → s.bt.digest ≠ none →
          (s.bt.isPresent s.me = true → t.ssl.state = .attached ∧ t.bt.roster = s.bt.roster ∧ t.bt.digest = s.bt.digest
              ∧ t.bt.formed = true ∧ t.bt.bayCount = some 0
              ∧ t.bt.lines = List.replicate s.bay.linesEquipped
                  (some { service := .inService, level := 0, grant := 0, holder := none, waiting := [] })
              ∧ t.bt.pool = some { recs := List.replicate s.bay.mixersEquipped
                                     { state := .free, holder := none, grant := 0, mixTime := none },
                                   waiting := [] }
              ∧ t.bt.tokens = some { a := none, b := none })
            ∧ (s.bt.isPresent s.me = false → s.bt.digest ≠ some s.digest → t.ssl.state = .refused ∧ t.bt = Table.empty)
            ∧ (s.bt.isPresent s.me = false → s.bt.digest = some s.digest →
                t.ssl.state = .forming ∧ t.ssl.lateMark = true ∧ t.bt = Table.empty))
      ∧ (s.ssl.lateMark = false → s.bt.formed = false → s.bt.digest = none →
          t.ssl.state = .forming ∧ t.bt = { s.bt with formed := true })
      ∧ (s.ssl.lateMark = false → s.bt.formed = true →
          t.ssl = { s.ssl with formationWindow := none } ∧ t.bt = s.bt.counted)
      ∧ (s.ssl.lateMark = true → t.ssl.state = .forming ∧ t.bt = s.bt)

/-- R14, R24, R32: at a FORMING station whose own JOIN has not been taken, a take other than JOIN and FORMED sets the late mark and
discards the table. The take of the station's own JOIN as a late join discards its table, marks nothing imaged, and the image timer
runs. Another station's JOIN taken there once the formed flag is set changes the bay count alone; once the late mark is set, nothing. -/
def Obligations.LateStationsJoin : Prop :=
  (∀ (c : Instr) (s : State) (sender : Nat) (n : Notice), c.taken = some (sender, n) → s.hears = true → s.ssl.state = .forming →
     s.ssl.joinTaken = false → noticeKind n ≠ 1 → noticeKind n ≠ 2 →
       ∃ t, exec c s = .next t ∧ t.ssl = { s.ssl with lateMark := true, formationWindow := none } ∧ t.bt = Table.empty
         ∧ t.setup = s.setup ∧ (∀ e ∈ t.blu.list, isOwnFormed e = true → e.strikeHeld = true))
    ∧ (∀ (s : State) (station digest : Nat) (silent : Option Nat), s.hears = true →
         ((s.ssl.state = .forming ∧ (s.ssl.lateMark = true ∨ s.bt.formed = true)) ∨ s.ssl.state = .joining) →
           ∃ t, exec (.joinTaken s.me station digest silent) s = .next t ∧ t.ssl.state = .joining ∧ t.ssl.joinTaken = true
             ∧ t.ssl.knownGiver = none ∧ t.ssl.imageTimer = some 5000 ∧ t.bt.digest = some s.digest ∧ t.bt.formed = true
             ∧ t.bt.bayCount = none ∧ t.bt.tokens = none ∧ t.bt.pool = none
             ∧ t.bt.lines = List.replicate s.bay.linesEquipped none ∧ (∀ q, (t.bt.rosterAt q).state = .absent) ∧ t.setup = s.setup)
    ∧ (∀ (s : State) (sender station digest : Nat) (silent : Option Nat), s.hears = true → s.ssl.state = .forming →
         sender ≠ s.me →
           (s.ssl.lateMark = false → s.bt.formed = true →
             ∃ t, exec (.joinTaken sender station digest silent) s = .next t ∧ s.sameOutside t ∧ t.bt = s.bt.counted)
           ∧ (s.ssl.lateMark = true →
             ∃ t, exec (.joinTaken sender station digest silent) s = .next t ∧ s.sameOutside t ∧ t.bt = s.bt))

/-- R18, R30, R31: a late JOIN of a station that stands ABSENT, naming no silent giver: it becomes JOINING, its giver is the
lowest-numbered PRESENT station, and where that is this station, its image cursor takes the joiner with the result of the digest. No
record but the sender's changes, and the result of R31 (d) is held for it. The cursor gives a joiner ROSTER-TOKENS, MIXERS, the equipped lines in order and END, one notice at a time,
or END alone where the digest differs; it goes on at the take of each of its own; a joiner new to its list goes last, one listed
already starts afresh in its place; a joiner dropped from the head has its unsent notice struck, and the next begins. Joiners that
stand ABSENT after a take are dropped at it, by a purge as by any other, and so is a joiner at whose JOIN another station is chosen.
At its own IMAGE the cursor goes on, and at its own IMAGE END the joiner leaves. At a FORMED the new giver's cursor takes the joiner
with the result of its JOIN, and with ACCEPTED where this station has applied no JOIN of it. That R30 means that result is the model's
reading (log entry 10), and the place of the cursor's part within the take is its choice (log entry 9). -/
def Obligations.LateJoinChoosesTheLowestGiver : Prop :=
  (∀ (s : State) (sender station digest : Nat), s.member = true → s.bt.roster.length = 16 → sender < 16 → sender ≠ s.me →
     (s.bt.rosterAt sender).state = .absent →
       ∃ t g, exec (.joinTaken sender station digest none) s = .next t ∧ s.sameOutside t
         ∧ (t.bt.rosterAt sender) = { state := .joining, giver := some g, imageMark := false }
         ∧ s.bt.isPresent g = true ∧ g ≠ sender ∧ (∀ q, q < g → q ≠ sender → s.bt.isPresent q = false)
         ∧ (∀ q, q ≠ sender → t.bt.rosterAt q = s.bt.rosterAt q) ∧ t.bt.lines = s.bt.lines ∧ t.bt.pool = s.bt.pool
         ∧ t.bt.tokens = s.bt.tokens ∧ t.bt.joinResults = s.bt.joinResults.set sender (some (s.bt.digest == some digest))
         ∧ (g = s.me → { station := sender, accepted := s.bt.digest == some digest } ∈ t.blu.cursor.joiners))
    ∧ (∀ lines : Nat, 1 ≤ lines → nextSubject lines .rosterTokens = .mixers ∧ nextSubject lines .mixers = .line 0
         ∧ (∀ n, n + 1 < lines → nextSubject lines (.line n) = .line (n + 1))
         ∧ nextSubject lines (.line (lines - 1)) = .endMark)
    ∧ (∀ (t : Table) (j : Joiner),
         (∀ tk, t.tokens = some tk → t.cursorNotice j .rosterTokens = .image j.station (.rosterTokens t.roster tk.a tk.b))
           ∧ (∀ p, t.pool = some p → t.cursorNotice j .mixers = .image j.station (.mixers p.recs p.waiting))
           ∧ (∀ n r, t.line n = some r → t.cursorNotice j (.line n) = .image j.station (.line n r))
           ∧ t.cursorNotice j .endMark = .imageEnd j.station (if j.accepted then 0 else 1) (t.bayCount.getD 0))
    ∧ (∀ (s : State) (j : Joiner) (rest : List Joiner) (subject : Subject), s.blu.cursor.joiners = j :: rest →
         (s.blu.cursor.next = some subject → s.cursorAdvance = { s with
             blu := (Blu.offer
               { s.blu with cursor := { joiners := j :: rest, next := some (nextSubject s.bay.linesEquipped subject) } }
               (s.bt.cursorNotice j (nextSubject s.bay.linesEquipped subject)) .cursor).1 })
           ∧ s.cursorBegin = { s with
               blu := (Blu.offer
                 { s.blu with cursor := { joiners := j :: rest, next := some (if j.accepted then .rosterTokens else .endMark) } }
                 (s.bt.cursorNotice j (if j.accepted then .rosterTokens else .endMark)) .cursor).1 })
    ∧ (∀ s : State, s.blu.cursor.joiners = [] → s.cursorBegin = { s with blu := { s.blu with cursor := Cursor.empty } })
    ∧ (∀ (s : State) (j : Joiner) (rest : List Joiner) (station : Nat), s.blu.cursor.joiners = j :: rest →
         (j.station = station → s.cursorDrop station =
             State.cursorBegin ((s.strike (isImageFor station)).setJoiners (rest.filter fun x => x.station != station)))
           ∧ (j.station ≠ station → s.cursorDrop station =
               s.setJoiners (j :: rest.filter fun x => x.station != station)))
    ∧ (∀ (s : State) (station : Nat) (accepted : Bool),
         (s.blu.cursor.joiners = [] → s.cursorAdd station accepted =
             State.cursorBegin (s.setJoiners [{ station := station, accepted := accepted }]))
           ∧ (s.blu.cursor.joiners ≠ [] → (∀ x ∈ s.blu.cursor.joiners, x.station ≠ station) → s.cursorAdd station accepted =
               s.setJoiners (s.blu.cursor.joiners ++ [{ station := station, accepted := accepted }]))
           ∧ (∀ j rest, s.blu.cursor.joiners = j :: rest → j.station = station → (∀ x ∈ rest, x.station ≠ station) →
               s.cursorAdd station accepted = State.cursorBegin
                 ((s.setJoiners ({ station := station, accepted := accepted } :: rest)).strike (isImageFor station)))
           ∧ (∀ before x after, s.blu.cursor.joiners = before ++ x :: after → before ≠ [] → x.station = station →
               (∀ y ∈ before ++ after, y.station ≠ station) →
               s.cursorAdd station accepted = s.setJoiners (before ++ { station := station, accepted := accepted } :: after)))
    ∧ (∀ (s : State) (x : Joiner), x ∈ s.cursorPrune.blu.cursor.joiners →
         x ∈ s.blu.cursor.joiners ∧ (s.bt.rosterAt x.station).state ≠ .absent)
    ∧ (∀ s : State, (∀ x ∈ s.blu.cursor.joiners, (s.bt.rosterAt x.station).state ≠ .absent) → s.cursorPrune = s)
    ∧ (∀ (s : State) (j : Joiner) (rest : List Joiner), s.blu.cursor.joiners = j :: rest →
         (s.bt.rosterAt j.station).state = .absent → (∀ x ∈ rest, x.station ≠ j.station ∧ (s.bt.rosterAt x.station).state ≠ .absent) →
           s.cursorPrune = State.cursorBegin ((s.strike (isImageFor j.station)).setJoiners rest))
    ∧ (∀ (c : Instr) (s t : State) (sender : Nat) (n : Notice), c.taken = some (sender, n) → s.member = true →
         s.bt.roster.length = 16 → sender < 16 → exec c s = .next t →
           ∀ x ∈ t.blu.cursor.joiners, (t.bt.rosterAt x.station).state ≠ .absent)
    ∧ (∀ (c : Instr) (s : State) (sender : Nat) (n : Notice) (g : Table × List Effect), c.taken = some (sender, n) →
         s.member = true → 5 ≤ noticeKind n → (s.bt.rosterAt sender).state ≠ .absent → (n = .leave → sender ≠ s.me) →
         g = s.bt.takeOther s.bay.reserve s.bay.mixersEquipped s.me sender n → g.1.isPresent s.me = true →
           exec c s = .next (s.takenBy sender n g.1 g.2))
    ∧ (∀ (s : State) (sender station digest : Nat) (silent : Option Nat) (g : Given), s.member = true → sender ≠ s.me →
         g = s.bt.lateJoin s.bay.reserve sender digest silent → g.table.isPresent s.me = true →
           (g.giver = some s.me → exec (.joinTaken sender station digest silent) s = .next
               (s.takenWith sender (.join station digest silent) g.table g.effects fun u =>
                 u.cursorAdd sender (s.bt.digest == some digest)))
           ∧ (g.giver ≠ some s.me → exec (.joinTaken sender station digest silent) s = .next
               (s.takenWith sender (.join station digest silent) g.table g.effects fun u => u.cursorDrop sender)))
    ∧ (∀ (s : State) (sender silent : Nat) (g : Given), s.member = true → s.bt.reportedGiver sender = some silent →
         g = s.bt.silentReport s.bay.reserve sender silent → g.table.isPresent s.me = true →
           (∀ accepted, g.giver = some s.me →
             (s.bt.joinResult sender = some accepted ∨ (s.bt.joinResult sender = none ∧ accepted = true)) →
             exec (.formedTaken sender) s = .next
               (s.takenWith sender .formed g.table g.effects fun u => u.cursorAdd sender accepted))
           ∧ (g.giver ≠ some s.me → exec (.formedTaken sender) s = .next
               (s.takenWith sender .formed g.table g.effects fun u => u.cursorDrop sender)))
    ∧ (∀ (s : State) (joiner result count : Nat) (img : Image) (mark done : RosterRec) (t : RosterRec → Table), s.member = true →
         mark = { s.bt.rosterAt joiner with imageMark := true } → result ≤ 1 →
         done = (if result = 0 then { state := .present, giver := none, imageMark := false } else RosterRec.empty) →
         t = (fun r => if (s.bt.rosterAt joiner).state = .joining then s.bt.setRoster joiner r else s.bt) →
           (joiner ≠ s.me → exec (.imageTaken s.me joiner img) s = .next
               (s.takenWith s.me (.image joiner img) (t mark) [] State.cursorAdvance))
           ∧ exec (.imageEndTaken s.me joiner result count) s = .next
               (s.takenWith s.me (.imageEnd joiner result count) (t done) [] fun u => u.cursorDrop joiner))

/-- R26, R30, R31, R33 to R35: an IMAGE taken at the joiner it names replaces the subject's records. At the members of the bay it sets the image
mark of the joiner, and an IMAGE END makes a JOINING joiner PRESENT (ACCEPTED) or ABSENT (DIGEST DIFFERS); one whose sender stands
JOINING is discarded, at the members and at a joiner. A joiner whose JOIN has been taken applies the takes of the other kinds to the
subjects it has imaged, as the members do, and to no others; no tell, timer or drive acts on them. It applies another's JOIN as a late
join, and a FORMED of a JOINING station as a silent-giver report, once it has imaged the roster.
(That the image timer of a joiner restarts at a discarded IMAGE too, log entry 45, and that an IMAGE of a line at or beyond lines
equipped has every effect but a record, log entry 53, are the model's choice.) -/
def Obligations.ImagesReplaceSubjectsAndMarkJoiners : Prop :=
  (∀ (s : State) (sender : Nat) (img : Image), s.hears = true → s.ssl.state = .joining → s.ssl.joinTaken = true →
     ((s.bt.rosterAt sender).state ≠ .joining →
       ∃ t, exec (.imageTaken sender s.me img) s = .next t
         ∧ t.ssl = { s.ssl with knownGiver := some sender, emptyTimeouts := 0, imageTimer := some 5000 }
         ∧ t.setup = s.setup ∧ (∀ e ∈ t.blu.held, isOwnJoin e = false)
         ∧ (∀ e ∈ t.blu.list, isOwnJoin e = true → e.strikeHeld = true)
         ∧ (∀ roster a b, img = .rosterTokens roster a b →
             t.bt = { s.bt with roster := roster, tokens := some { a := a, b := b } })
         ∧ (∀ recs waiting, img = .mixers recs waiting → recs.length = s.bay.mixersEquipped →
             t.bt = { s.bt with pool := some { recs := recs, waiting := waiting } })
         ∧ (∀ n r, img = .line n r → t.bt = s.bt.setLine n r))
     ∧ ((s.bt.rosterAt sender).state = .joining →
       ∃ t, exec (.imageTaken sender s.me img) s = .next t ∧ t.ssl = { s.ssl with imageTimer := some 5000 } ∧ t.bt = s.bt
         ∧ t.setup = s.setup))
    ∧ (∀ (s : State) (sender joiner count : Nat) (img : Image), s.member = true → s.bt.isPresent sender = true → joiner ≠ s.me →
         (s.bt.rosterAt joiner).state = .joining → joiner < s.bt.roster.length →
           (∃ t, exec (.imageTaken sender joiner img) s = .next t ∧ s.sameOutside t
             ∧ t.bt = (s.bt.setRoster joiner { s.bt.rosterAt joiner with imageMark := true }).counted)
           ∧ (∃ t, exec (.imageEndTaken sender joiner 0 count) s = .next t ∧ s.sameOutside t
             ∧ t.bt = (s.bt.setRoster joiner { state := .present, giver := none, imageMark := false }).counted)
           ∧ (∃ t, exec (.imageEndTaken sender joiner 1 count) s = .next t ∧ s.sameOutside t
             ∧ t.bt = (s.bt.setRoster joiner RosterRec.empty).counted))
    ∧ (∀ (s : State) (sender joiner result count : Nat) (img : Image), s.member = true →
         (s.bt.rosterAt sender).state = .joining → joiner ≠ s.me →
           (∃ t, exec (.imageTaken sender joiner img) s = .next t ∧ s.sameOutside t ∧ t.bt = s.bt.counted)
           ∧ (∃ t, exec (.imageEndTaken sender joiner result count) s = .next t ∧ s.sameOutside t ∧ t.bt = s.bt.counted))
    ∧ (∀ (s : State) (sender station digest : Nat) (silent : Option Nat), s.hears = true → s.ssl.state = .joining →
         s.ssl.joinTaken = true →
           (sender ≠ s.me →
             (s.bt.tokens = none → exec (.joinTaken sender station digest silent) s = .next
                 (s.bookTake sender (.join station digest silent)).settle)
             ∧ (s.bt.tokens ≠ none → exec (.joinTaken sender station digest silent) s = .next
                 (State.settle { s.bookTake sender (.join station digest silent) with
                   bt := (s.bt.lateJoin s.bay.reserve sender digest silent).table })))
           ∧ ((s.bt.tokens = none ∨ s.bt.reportedGiver sender = none) →
               exec (.formedTaken sender) s = .next (s.bookTake sender .formed).settle)
           ∧ (∀ g, s.bt.tokens ≠ none → s.bt.reportedGiver sender = some g → exec (.formedTaken sender) s = .next
               (State.settle { s.bookTake sender .formed with bt := (s.bt.silentReport s.bay.reserve sender g).table })))
    ∧ (∀ (t : Table) (sender g : Nat), t.reportedGiver sender = some g ↔
         (t.rosterAt sender).state = .joining ∧ (t.rosterAt sender).imageMark = false ∧ (t.rosterAt sender).giver = some g
           ∧ t.isPresent g = true)
    ∧ (∀ (c : Instr) (s : State) (sender : Nat) (n : Notice), c.taken = some (sender, n) → s.hears = true →
         s.ssl.state = .joining → s.ssl.joinTaken = true → 5 ≤ noticeKind n →
           ∃ t u : State, exec c s = .next t ∧ t = u.settle
             ∧ t.bt = (s.bt.takeOther s.bay.reserve s.bay.mixersEquipped s.me sender n).1
             ∧ u = { s.bookTake sender n with bt := t.bt } ∧ t.ssl = s.ssl ∧ t.htb = s.htb ∧ t.setup = s.setup ∧ t.pins = s.pins
             ∧ (∀ line, n.lineNamed = some line → s.bt.line line = none → t.bt = s.bt)
             ∧ (s.bt.pool = none → (noticeKind n = 14 ∨ noticeKind n = 15 ∨ noticeKind n = 16 ∨ noticeKind n = 17) → t.bt = s.bt)
             ∧ (s.bt.tokens = none → (noticeKind n = 12 ∨ noticeKind n = 13) → t.bt = s.bt)
             ∧ (∀ line a d v r rec ru, n = .claim line a d v r → s.bt.line line = some rec → s.bt.isPresent sender = true →
                 rec.service = .inService → (∀ h, rec.holder = some h → h.station ≠ sender) →
                 (∀ x ∈ rec.waiting, x.station ≠ sender) → 1 ≤ a → a ≤ 63 → 1 ≤ d → d ≤ 16383 → v ≤ 2 →
                 rushOfCode r = some ru →
                 t.bt = s.bt.setLine line (LineRec.grantChoice s.bay.reserve
                   { rec with waiting := rec.waiting ++
                       [{ station := sender, askedShots := a, askedDrops := d, requested := v, effective := v, passed := 0,
                          rush := if s.bt.holdsToken sender ru then ru else .none }] })))

/-- R14, R26, R33, R35, R89: the IMAGE END at the joiner it names: ACCEPTED makes it ATTACHED with the carried count plus 1 and a WATCH timer
for every line holding and every HELD mixer; DIGEST DIFFERS makes it REFUSED. One of a sender that stands JOINING is discarded.
That such a one is discarded by R26, and yet starts the image timer again as R33 has every IMAGE END addressed to the station do, is
the model's choice (log entries 13 and 45). -/
def Obligations.ImageEndEndsTheJoin : Prop :=
  ∀ (s : State) (sender count : Nat), s.hears = true → s.ssl.state = .joining → s.ssl.joinTaken = true → s.htb.length = 20 →
    s.bt.lines.length ≤ 16 → (∀ p, s.bt.pool = some p → p.recs.length ≤ 4) → s.obu.request = .absent →
      ((s.bt.rosterAt sender).state ≠ .joining →
        (∃ t, exec (.imageEndTaken sender s.me 0 count) s = .next t ∧ t.ssl.state = .attached ∧ t.ssl.imageTimer = none
          ∧ t.bt.bayCount = some ((count + 1) % 65536) ∧ t.bt.lines = s.bt.lines ∧ t.bt.pool = s.bt.pool ∧ t.setup = s.setup
          ∧ ((s.bt.rosterAt s.me).state = .joining → s.me < s.bt.roster.length → t.bt.isPresent s.me = true)
          ∧ (∀ n r h, s.bt.line n = some r → r.holder = some h → h.station ≠ s.me →
              t.timer n = { state := .running, role := .watch, holder := h.station, grant := h.grant,
                            runTime := 100 * (s.lineConst n).holdLimit + 1000 * s.bay.grace + 100 * s.me })
          ∧ (∀ p m r h time, s.bt.pool = some p → p.recs[m]? = some r → r.state = .held → r.holder = some h → h ≠ s.me →
              r.mixTime = some time →
              t.timer (16 + m) = { state := .running, role := .watch, holder := h, grant := r.grant,
                                   runTime := 1000 * (time + s.bay.mixerMargin) + 1000 * s.bay.grace + 100 * s.me }))
        ∧ (∃ t, exec (.imageEndTaken sender s.me 1 count) s = .next t ∧ t.ssl.state = .refused ∧ t.bt = Table.empty
          ∧ t.blu.list = [] ∧ (∀ i, (t.timer i).state = .stopped) ∧ t.setup = s.setup))
      ∧ ((s.bt.rosterAt sender).state = .joining → ∀ result,
          ∃ t, exec (.imageEndTaken sender s.me result count) s = .next t ∧ t.ssl = { s.ssl with imageTimer := some 5000 }
            ∧ t.bt = s.bt ∧ t.setup = s.setup)

/-- R20, R38, R40, R121, R142, R144, R147, R148, R154: the take of the station's own LEAVE clears its table, its list and its timers,
ends every channel's part in the bay and leads to READY, not listening; entering DETACHED, from whatever state, does the same, and
the bay line unit goes on following. As the station leaves, its order book's token request is gone, a request still to be told is
refused, the order in TINT is stopping, one in MIX WAIT has no claim, one in MIXING ends, MIX INCOMPLETE, detached, with the run line
it raised dropped, and every other order stands; the entry results alone then change, by the channels' reports.
That the order in TINT, SPOILED and detached by R40 (e), has its outcome and reason absent until it enters REJECT, the reason of its
stopping standing in a field of its own, is the model's choice (log entry 39). -/
def Obligations.LeavingTheBay : Prop :=
  (∀ s : State, s.member = true →
     ∃ t, exec (.leaveTaken s.me) s = .next t ∧ t.ssl.state = .ready ∧ t.ssl.leavePending = false
       ∧ t.ssl.lastDetach = s.ssl.lastDetach ∧ t.bt = Table.empty
       ∧ t.blu = { listen := .off, list := [], held := [], objections := 0, voids := 0, turnSpent := false,
                   cursor := { joiners := [], next := none } }
       ∧ (∀ i, (t.timer i).state = .stopped) ∧ t.obu.request = .absent ∧ t.setup = s.setup ∧ t.pins = s.pins
       ∧ (s.dosingLawful = true → (∀ k, k < 4 → (s.mp k).lawful = true) →
           ∀ k, k < 4 → (t.mp k).valve = false
             ∧ ((t.dc k).state = .idle ∨ ((t.dc k).state = .shooting ∧ (t.mp k).phase = .drain))))
    ∧ (∀ (s : State) (reason : DetachReason), s.dosingLawful = true →
         (∀ k, k < 4 → (s.mp k).lawful = true) → s.ssl.state ≠ .detached →
         (s.detach reason).ssl.state = .detached ∧ (s.detach reason).ssl.lastDetach = reason ∧ (s.detach reason).ssl.lateMark = false
           ∧ (s.detach reason).ssl.joinTaken = false ∧ (s.detach reason).ssl.knownGiver = none
           ∧ (s.detach reason).ssl.emptyTimeouts = 0 ∧ (s.detach reason).ssl.firstListen = none
           ∧ (s.detach reason).ssl.formationWindow = none ∧ (s.detach reason).ssl.imageTimer = none
           ∧ (s.detach reason).ssl.rejoinTimer = some (2000 + 100 * s.me) ∧ (s.detach reason).ssl.leavePending = s.ssl.leavePending
           ∧ (s.detach reason).bt = Table.empty ∧ (s.detach reason).blu = s.blu.cleared .following
           ∧ (s.detach reason).tlu.unread = true ∧ (s.detach reason).tlu.attention = true
           ∧ (∀ i, ((s.detach reason).timer i).state = .stopped)
           ∧ (∀ k, k < 4 → ((s.detach reason).mp k).valve = false
               ∧ (((s.detach reason).dc k).state = .idle
                 ∨ (((s.detach reason).dc k).state = .shooting ∧ ((s.detach reason).mp k).phase = .drain)))
           ∧ (s.detach reason).setup = s.setup ∧ (s.detach reason).pins = s.pins
           ∧ (s.detach reason).obu.request = .absent ∧ (s.detach reason).obu.cradle = s.leaveBook.obu.cradle
           ∧ (s.detach reason).obu.outfeed = s.leaveBook.obu.outfeed ∧ (s.detach reason).obu.doneOrder = s.leaveBook.obu.doneOrder
           ∧ (∀ slot, ((s.detach reason).order slot).map (fun o => { o with results := [] }) =
               (s.leaveBook.order slot).map fun o => { o with results := [] }))
    ∧ (∀ s : State, s.leaveBook.obu.request = .absent ∧ s.leaveBook.blu = s.blu ∧ s.leaveBook.obu.cradle = (match s.obu.cradle with
           | some slot => if slot < 8 ∧ s.stageAt slot = some .mixing then none else some slot
           | none => none)
         ∧ (∀ slot o v, slot < 8 → s.order slot = some o →
             v = (if s.obu.request = .requested slot ∧ o.rushResult = .pending then { o with rushResult := .refused } else o) →
             (o.stage = .tint → s.leaveBook.order slot = some { v with stopping := some (o.stopping.getD .detached) })
               ∧ (o.stage = .mixWait → s.leaveBook.order slot = some { v with mixClaimOffered := false })
               ∧ (o.stage = .mixing →
                   s.leaveBook.order slot = some { v with
                     stage := .done, outcome := some .mixIncomplete, reason := some .detached, mixClaimOffered := false }
                   ∧ slot ∈ s.leaveBook.obu.doneOrder ∧ s.leaveBook.obu.outfeed ≠ some slot
                   ∧ (∀ m, o.runRaised = true → o.mixerUsed = some m → (s.run m).phase ≠ .idle →
                       s.leaveBook.run m = { phase := .idle, runTimer := none, doneArmed := false, runLine := false }))
               ∧ (o.stage ≠ .tint → o.stage ≠ .mixWait → o.stage ≠ .mixing → s.leaveBook.order slot = some v)))


/-! ### The station timers and hold timers (chapters 2 and 5) -/

/-- R25, R28, R36, R41: the end of the first listen offers the JOIN; the end of the formation window, with formation open and no late
mark, offers FORMED; an image timer's expiry offers a re-JOIN that names the known giver, and the second empty one in a row sends the
station back to FORMING; the end of the rejoin delay leads to JOINING with a JOIN offered, or to READY when a LEAVE was pending. -/
def Obligations.StationTimerExpiries : Prop :=
  (∀ s : State, s.ssl.state = .forming →
     (s.ssl.firstListen.isSome = true → exec .firstListenExpiry s = .next
         { s with
           ssl := { s.ssl with firstListen := none }
           blu := (s.blu.offer (.join s.me s.digest none) .stationLogic).1 })
       ∧ (s.ssl.formationWindow.isSome = true → s.bt.digest ≠ none → s.bt.formed = false → s.ssl.lateMark = false →
         exec .formationWindowExpiry s = .next
           { s with
             ssl := { s.ssl with formationWindow := none }
             blu := (s.blu.offer .formed .stationLogic).1 }))
    ∧ (∀ s : State, s.ssl.state = .joining → s.ssl.imageTimer.isSome = true →
         ∃ t, exec .imageTimerExpiry s = .next t ∧ t.ssl.imageTimer = none ∧ t.setup = s.setup ∧ t.htb = s.htb ∧ t.pdu = s.pdu
           ∧ (s.ssl.knownGiver = none → s.ssl.emptyTimeouts = 1 → t.ssl.state = .forming ∧ t.ssl.firstListen = some 500
               ∧ t.ssl.emptyTimeouts = 0 ∧ t.ssl.lateMark = false ∧ t.ssl.joinTaken = false ∧ t.bt = Table.empty
               ∧ (∀ e ∈ t.blu.list, isOwnJoin e = true → e.strikeHeld = true))
           ∧ (s.ssl.knownGiver = none → s.ssl.emptyTimeouts = 0 → t.ssl.state = .joining ∧ t.ssl.emptyTimeouts = 1 ∧ t.bt = s.bt
               ∧ t.blu = (s.blu.offer (.join s.me s.digest none) .stationLogic).1)
           ∧ (∀ g, s.ssl.knownGiver = some g → t.ssl.state = .joining ∧ t.ssl.emptyTimeouts = s.ssl.emptyTimeouts ∧ t.bt = s.bt
               ∧ t.blu = (s.blu.offer (.join s.me s.digest (some g)) .stationLogic).1))
    ∧ (∀ s : State, s.ssl.state = .detached → s.ssl.rejoinTimer.isSome = true →
         ∃ t, exec .rejoinTimerExpiry s = .next t ∧ t.ssl.rejoinTimer = none ∧ t.bt = s.bt ∧ t.setup = s.setup ∧ t.tlu.unread = true
           ∧ (s.ssl.leavePending = false → t.ssl.state = .joining ∧ t.ssl.joinTaken = false
               ∧ t.blu = (s.blu.offer (.join s.me s.digest none) .stationLogic).1)
           ∧ (s.ssl.leavePending = true → t.ssl.state = .ready ∧ t.ssl.leavePending = false
               ∧ t.blu = { s.blu with listen := .off }))

/-- R88, R90 to R94, R117, R148: the timer a grant starts runs by its role. The end of a holding stops its timer and strikes this
station's REVOKE for it, as the take of a RELEASE with no claim waiting shows. A WATCH timer's expiry offers a REVOKE for the holding
if the table still shows it. The own timer of a line closes the valve of its SHOOTING channel, which drains; the own timer of a mixer
drops the run line, where the order has raised it, offers MIX RELEASE with FAULT and ends the order, MIX INCOMPLETE, mixer fault. -/
def Obligations.HoldTimersRunAndExpire : Prop :=
  (∀ (s : State) (n m holder grant mixTime : Nat), n < 16 → m < 4 → s.htb.length = 20 →
     (s.startTimer (.line n) holder grant (s.lineLimit n)).timer n =
         (if holder = s.me then
           { state := .running, role := .own, holder := holder, grant := grant, runTime := 100 * (s.lineConst n).holdLimit }
         else
           { state := .running, role := .watch, holder := holder, grant := grant,
             runTime := 100 * (s.lineConst n).holdLimit + 1000 * s.bay.grace + 100 * s.me })
       ∧ (s.startTimer (.mixer m) holder grant (s.mixerLimit mixTime)).timer (16 + m) =
         (if holder = s.me then
           { state := .running, role := .own, holder := holder, grant := grant, runTime := 1000 * (mixTime + s.bay.mixerMargin) }
         else
           { state := .running, role := .watch, holder := holder, grant := grant,
             runTime := 1000 * (mixTime + s.bay.mixerMargin) + 1000 * s.bay.grace + 100 * s.me })
       ∧ (∀ i, i ≠ n → (s.startTimer (.line n) holder grant (s.lineLimit n)).timer i = s.timer i)
       ∧ (∀ i, i ≠ 16 + m → (s.startTimer (.mixer m) holder grant (s.mixerLimit mixTime)).timer i = s.timer i))
    ∧ (∀ (s : State) (key : HoldKey), (s.timer (timerIndex key)).state = .running → (s.timer (timerIndex key)).role = .watch →
         ∃ t, exec (.watchTimerExpiry key) s = .next t
           ∧ t.timer (timerIndex key) = { s.timer (timerIndex key) with state := .expired }
           ∧ t.bt = s.bt ∧ t.ssl = s.ssl ∧ t.dcs = s.dcs ∧ t.mps = s.mps ∧ t.obu = s.obu ∧ t.pdu = s.pdu ∧ t.tlu = s.tlu
           ∧ (s.bt.shows key (s.timer (timerIndex key)).holder (s.timer (timerIndex key)).grant = true →
               t.blu = (s.blu.offer (.revoke key (s.timer (timerIndex key)).holder (s.timer (timerIndex key)).grant) .holdTimers).1)
           ∧ (s.bt.shows key (s.timer (timerIndex key)).holder (s.timer (timerIndex key)).grant = false → t.blu = s.blu))
    ∧ (∀ (t : Table) (n m holder grant : Nat),
         (t.shows (.line n) holder grant = true ↔
             ∃ r h, t.line n = some r ∧ r.holder = some h ∧ h.station = holder ∧ h.grant = grant)
           ∧ (t.shows (.mixer m) holder grant = true ↔
             ∃ p r, t.pool = some p ∧ p.recs[m]? = some r ∧ r.state = .held ∧ r.holder = some holder ∧ r.grant = grant))
    ∧ (∀ (s : State) (key : HoldKey) (holder grant : Nat), timerIndex key < s.htb.length →
         (s.endHolding key holder grant).timer (timerIndex key) = { s.timer (timerIndex key) with state := .stopped }
           ∧ (∀ i, i ≠ timerIndex key → (s.endHolding key holder grant).timer i = s.timer i)
           ∧ (s.endHolding key holder grant).blu = s.blu.strike (isRevokeOf key holder grant)
           ∧ (∀ e, isRevokeOf key holder grant e = true ↔ e.notice = .revoke key holder grant))
    ∧ (∀ (s : State) (sender line drops : Nat) (r : LineRec) (h : Holder), s.member = true → s.bt.isPresent sender = true →
         s.bt.line line = some r → r.holder = some h → h.station = sender → r.waiting = [] → drops ≤ 16383 →
         line < s.htb.length →
           ∃ t, exec (.releaseTaken sender line h.grant drops 0) s = .next t
             ∧ t.timer line = { s.timer line with state := .stopped } ∧ ∀ i, i ≠ line → t.timer i = s.timer i)
    ∧ (∀ (s : State) (line k : Nat), k < 4 → s.dosingLawful = true → (s.timer line).state = .running →
         (s.timer line).role = .own → s.worker line = some k → (s.dc k).state = .shooting → (s.dc k).stopCause = .none →
           ∃ t u : State, exec (.ownLineTimerExpiry line) s = .next t ∧ t = u.settle ∧ (t.timer line).state = .expired
             ∧ (u.mp k).valve = false ∧ (u.mp k).phase = .drain ∧ (u.mp k).periodTimer = (s.mp k).periodTimer
             ∧ (u.dc k).state = .shooting ∧ (u.dc k).stopCause = .ownLimit
             ∧ (∀ j, j ≠ k → u.dc j = s.dc j ∧ u.mp j = s.mp j) ∧ u.obu = s.obu ∧ u.blu = s.blu ∧ u.pdu = s.pdu ∧ u.tlu = s.tlu
             ∧ t.setup = s.setup ∧ t.ssl = s.ssl ∧ t.bt = s.bt ∧ t.pins = s.pins)
    ∧ (∀ (s : State) (m slot : Nat) (o : Order), m < 4 → (s.timer (16 + m)).state = .running → (s.timer (16 + m)).role = .own →
         s.mixingOn m = some slot → s.order slot = some o → (o.runRaised = true → s.pdu.runs.length = 4 ∧ (s.run m).phase ≠ .idle) →
           ∃ t u : State, exec (.ownMixerTimerExpiry m) s = .next t ∧ t = u.settle ∧ (t.timer (16 + m)).state = .expired
             ∧ (o.runRaised = true → (u.run m).runLine = false) ∧ (o.runRaised = false → u.pdu = s.pdu)
             ∧ (∃ v, u.order slot = some v ∧ v.stage = .done ∧ v.outcome = some .mixIncomplete ∧ v.reason = some .mixerFault)
             ∧ (s.obu.request = .absent → u.blu =
                 (s.blu.offer (.mixRelease m ((o.mixGrant.map MixGrant.number).getD 0) 1) .book).1)
             ∧ t.ssl = s.ssl ∧ t.bt = s.bt ∧ t.pins = s.pins)

/-! ### Dose channels and metering pairs (chapters 6 and 7) -/

/-- R106, R110, R111, R113, R127, R128: a plan with its asked shots and asked drops, the sum of the planned drops of the first asked
shots; the width of a shot, rounded to the nearest tick with halves up and at least 1, and the trim corrected for the balance, within
1 to the shot size; the RUNAWAY test; the entry end test. The width of a shot is written one period ahead: a period start loads both
timers, opens the valve, and writes the width of the following shot of the grant, if it has one, its trim corrected for the balance
as it then stands. -/
def Obligations.PlansWidthsAndTests : Prop :=
  (∀ (remaining size share : Nat), 8 ≤ size →
     (planOf remaining size).full = remaining / size ∧ (planOf remaining size).trim = remaining % size
       ∧ (planOf remaining size).planned = remaining / size + (if remaining % size = 0 then 0 else 1)
       ∧ askedShotsOf .single share (planOf remaining size) = 1
       ∧ askedShotsOf .block share (planOf remaining size) = min (planOf remaining size).planned share
       ∧ askedShotsOf .whole share (planOf remaining size) = min (planOf remaining size).planned 63
       ∧ (∀ asked, asked ≤ (planOf remaining size).planned →
           askedDropsOf size asked (planOf remaining size) =
             ((List.range asked).map fun done =>
               if (planOf remaining size).isTrim done then (planOf remaining size).trim else size).sum)
       ∧ askedDropsOf size (planOf remaining size).planned (planOf remaining size) = remaining)
    ∧ (∀ (full planned size trim : Nat) (balance : Int), 8 ≤ size → 1 ≤ full →
         1 ≤ widthOf full planned size
           ∧ 2 * full * planned < (2 * widthOf full planned size + 1) * size
           ∧ (1 < widthOf full planned size → (2 * widthOf full planned size - 1) * size ≤ 2 * full * planned)
           ∧ widthOf full size size = full
           ∧ (planned ≤ size → widthOf full planned size ≤ full)
           ∧ ((trim : Int) - balance < 1 → correctedTrim trim balance size = 1)
           ∧ ((size : Int) < trim - balance → correctedTrim trim balance size = size)
           ∧ (1 ≤ (trim : Int) - balance → (trim : Int) - balance ≤ size → (correctedTrim trim balance size : Int) = trim - balance))
    ∧ (∀ (m p : Nat) (overflow : Bool), isRunaway m p overflow = true ↔ (p + p / 2 + 2 < m ∨ overflow = true))
    ∧ (∀ c : Channel,
         (c.delivered ≤ c.ordered + (2 + c.ordered / 256) → c.ordered ≤ c.delivered + (2 + c.ordered / 256) →
           c.endTest = { c with result := .done })
           ∧ (c.ordered + (2 + c.ordered / 256) < c.delivered → c.endTest = { c with result := .failed .over })
           ∧ (c.delivered + (2 + c.ordered / 256) < c.ordered → c.trimsUsed ≤ 1 →
               c.endTest = { c with result := .goOn, trimsUsed := c.trimsUsed + 1 })
           ∧ (c.delivered + (2 + c.ordered / 256) < c.ordered → 2 ≤ c.trimsUsed → c.endTest = { c with result := .failed .under }))
    ∧ (∀ (p : Plan) (done : Nat), p.isTrim done = true ↔ p.trim ≠ 0 ∧ done + 1 = p.planned)
    ∧ (∀ (s : State) (k next size trim : Nat) (c : Channel), k < s.dcs.length → k < s.mps.length → c = s.dc k →
         size = (s.lineConst c.line).shotSize →
         trim = (if c.plan.isTrim next then correctedTrim c.plan.trim c.balance size else c.trimNow) →
           s.writeWidth k next = { s with
             dcs := s.dcs.set k { c with trimNow := trim }
             mps := s.mps.set k { s.mp k with
               nextWidth := widthOf (s.lineCal c.line).shotWidth (if c.plan.isTrim next then trim else size) size } })
    ∧ (∀ (s u : State) (k : Nat) (c : Channel), k < s.dcs.length → k < s.mps.length → c = s.dc k →
         u = { s with
           dcs := s.dcs.set k { c with state := .shooting }
           mps := s.mps.set k { s.mp k with
             pump := true, settleTimer := none, periodTimer := some (s.lineCal c.line).shotPeriod,
             valveTimer := some (s.mp k).nextWidth, valve := true, phase := .opened } } →
           (c.grant.shotsDone + 1 < c.grant.askedShots → s.periodStart k = u.writeWidth k (c.grant.shotsDone + 1))
             ∧ (c.grant.askedShots ≤ c.grant.shotsDone + 1 → s.periodStart k = u))

/-- R69, R109, R110, R119, R126, R128: a grant reaching a channel in CLAIMING or WAITING begins the dose: the grant is copied, the first
width written, the pump request asserted, and the settle timer runs for the line's settle delay, or, with a delay of 0, the first
period starts, with the width of the second shot written. One reaching a channel in WITHDRAWING, or in CLAIMING or WAITING with the
withdraw-pending flag set, is released at once with 0 drops, and the pair is not started. A grant on a line starts the hold timer; to
this station it is told to the channel that works the line, and with none it is released by the bay table; a take that grants the
line to this station's claim, as a REFILL can, begins that channel's dose. -/
def Obligations.GrantsBeginOrAreGivenBack : Prop :=
  (∀ (s : State) (k first size : Nat) (h : Holder) (c : Channel), k < s.dcs.length → k < s.mps.length → c = s.dc k →
     (c.state = .claiming ∨ c.state = .waiting) → c.withdrawPending = false → size = (s.lineConst c.line).shotSize →
     first = widthOf (s.lineCal c.line).shotWidth (if c.plan.isTrim 0 then correctedTrim c.plan.trim 0 size else size) size →
       ((s.grantTell k h).dc k).grant.number = h.grant ∧ ((s.grantTell k h).dc k).grant.askedShots = h.askedShots
         ∧ ((s.grantTell k h).dc k).grant.askedDrops = h.askedDrops ∧ ((s.grantTell k h).dc k).grant.shotsDone = 0
         ∧ ((s.grantTell k h).dc k).grant.drops = 0 ∧ ((s.grantTell k h).dc k).balance = 0
         ∧ ((s.grantTell k h).dc k).grant.final = (h.askedShots == c.plan.planned)
         ∧ ((s.grantTell k h).mp k).pump = true ∧ ((s.grantTell k h).mp k).counter = (s.mp k).counter
         ∧ ((s.lineConst c.line).settleDelay ≠ 0 →
             ((s.grantTell k h).dc k).state = .settling ∧ ((s.grantTell k h).mp k).phase = .settle
               ∧ ((s.grantTell k h).mp k).settleTimer = some (s.lineConst c.line).settleDelay
               ∧ ((s.grantTell k h).mp k).periodTimer = none ∧ ((s.grantTell k h).mp k).valveTimer = none
               ∧ ((s.grantTell k h).mp k).nextWidth = first ∧ ((s.grantTell k h).mp k).valve = false)
         ∧ ((s.lineConst c.line).settleDelay = 0 →
             ((s.grantTell k h).dc k).state = .shooting ∧ ((s.grantTell k h).mp k).phase = .opened
               ∧ ((s.grantTell k h).mp k).settleTimer = none
               ∧ ((s.grantTell k h).mp k).periodTimer = some (s.lineCal c.line).shotPeriod
               ∧ ((s.grantTell k h).mp k).valveTimer = some first
               ∧ (h.askedShots ≤ 1 → ((s.grantTell k h).mp k).nextWidth = first)
               ∧ (1 < h.askedShots → ((s.grantTell k h).mp k).nextWidth = widthOf (s.lineCal c.line).shotWidth
                   (if c.plan.isTrim 1 then correctedTrim c.plan.trim 0 size else size) size)
               ∧ ((s.grantTell k h).mp k).valve = true)
         ∧ (∀ j, j ≠ k → (s.grantTell k h).dc j = s.dc j ∧ (s.grantTell k h).mp j = s.mp j)
         ∧ (s.grantTell k h).blu = s.blu ∧ (s.grantTell k h).obu = s.obu)
    ∧ (∀ (s : State) (k : Nat) (h : Holder), k < s.dcs.length →
         ((s.dc k).state = .withdrawing
           ∨ (((s.dc k).state = .claiming ∨ (s.dc k).state = .waiting) ∧ (s.dc k).withdrawPending = true)) →
         ((s.grantTell k h).dc k).state = .releasing ∧ ((s.grantTell k h).dc k).result = .failed .stopped
           ∧ ((s.grantTell k h).dc k).grant.number = h.grant ∧ (s.grantTell k h).mps = s.mps
           ∧ (s.grantTell k h).blu = (s.blu.offer (.release (s.dc k).line h.grant 0 0) (.channel k)).1
           ∧ (∀ j, j ≠ k → (s.grantTell k h).dc j = s.dc j))
    ∧ (∀ (s u : State) (line : Nat) (h : Holder), u = s.startTimer (.line line) h.station h.grant (s.lineLimit line) →
         (h.station ≠ s.me → s.lineGranted line h = u)
           ∧ (∀ k, h.station = s.me → s.worker line = some k → s.lineGranted line h = u.grantTell k h)
           ∧ (h.station = s.me → s.worker line = none →
               s.lineGranted line h = { u with blu := (s.blu.offer (.release line h.grant 0 0) .bayTable).1 }))
    ∧ (∀ (s : State) (sender line level k i : Nat) (r : LineRec) (c : Claim), s.member = true → s.transmitting = false →
         s.bt.isPresent sender = true → s.bt.line line = some r → r.service = .inService → r.holder = none → level ≤ 16777215 →
         LineRec.best s.bay.reserve { r with level := level } = some i → r.waiting[i]? = some c → c.station = s.me →
         c.askedDrops ≤ level → line < s.htb.length → s.worker line = some k → (s.dc k).state = .waiting →
         (s.dc k).withdrawPending = false → k < s.dcs.length → k < s.mps.length →
           ∃ t u : State, exec (.refillTaken sender line level) s = .next t ∧ t = u.settle
             ∧ (u.dc k).grant.number = (r.grant + 1) % 256 ∧ (u.dc k).grant.askedShots = c.askedShots
             ∧ (u.dc k).grant.askedDrops = c.askedDrops ∧ ((u.dc k).state = .settling ∨ (u.dc k).state = .shooting)
             ∧ (u.mp k).pump = true
             ∧ t.timer line = { state := .running, role := .own, holder := s.me, grant := (r.grant + 1) % 256,
                                runTime := 100 * (s.lineConst line).holdLimit })

/-- R68, R104, R108, R114, R117 to R120, R124, R131: the stop of a channel acts by its state; a LINE OUT that ends the holding of a
SHOOTING channel closes its valve and releases its pump request at once, and the period runs on to the drain capture. A stopped
channel in CLAIMING strikes its claim and fails, or marks it withdraw-pending while the claim is in transmission, and fails when that
goes back; one in RELEASING that was to go on fails at the take. A stop of an order stops every channel busy with it and no other,
those whose stop strikes a claim before those whose stop makes an offer (R16 (c)). The tells about a line move its channel by the
tables of chapter 6, and a tell that fits no state of it changes nothing. A report writes the entry's result, returns channel and
pair to rest, and, by LINE OUT, OVER, UNDER or RUNAWAY, stops the order. That the withdraw-pending flag stands until the channel is
IDLE, and that the balance and the grant are cleared at the take of the RELEASE behind which the channel claims again (log entry 16),
that of the channels an order stops the lower comes first (log entry 9), and that the outcome and reason of an order that is stopping
stay absent until it enters REJECT, the reason of its stopping standing in a field of its own (log entry 39), are the model's choice. -/
def Obligations.StopsAndCuts : Prop :=
  (∀ (s : State) (k : Nat), k < s.dcs.length → k < s.mps.length →
     ((s.dc k).state = .waiting → ((s.stopChannel k).dc k).state = .withdrawing ∧ (s.stopChannel k).mps = s.mps
         ∧ (s.stopChannel k).blu = (s.blu.offer (.withdraw (s.dc k).line) (.channel k)).1)
       ∧ ((s.dc k).state = .settling → ((s.stopChannel k).dc k).state = .releasing
           ∧ ((s.stopChannel k).dc k).result = .failed .stopped ∧ ((s.stopChannel k).mp k).phase = .stopped
           ∧ ((s.stopChannel k).mp k).pump = false
           ∧ (s.stopChannel k).blu = (s.blu.offer (.release (s.dc k).line (s.dc k).grant.number 0 0) (.channel k)).1)
       ∧ ((s.dc k).state = .shooting → (s.dc k).stopCause = .none → ((s.stopChannel k).dc k).state = .shooting
           ∧ ((s.stopChannel k).dc k).stopCause = .stopped ∧ (s.stopChannel k).blu = s.blu
           ∧ (((s.mp k).phase = .opened ∨ (s.mp k).phase = .closed) →
               ((s.stopChannel k).mp k).valve = false ∧ ((s.stopChannel k).mp k).phase = .drain
               ∧ ((s.stopChannel k).mp k).valveTimer = none ∧ ((s.stopChannel k).mp k).periodTimer = (s.mp k).periodTimer
               ∧ ((s.stopChannel k).mp k).pump = (s.mp k).pump))
       ∧ ((s.dc k).state = .shooting → (s.dc k).stopCause = .ownLimit →
           s.stopChannel k = { s with dcs := s.dcs.set k { s.dc k with stopCause := .stopped } })
       ∧ ((s.dc k).state = .shooting → ((s.dc k).stopCause = .lineOut ∨ (s.dc k).stopCause = .detached) → s.stopChannel k = s)
       ∧ ((s.dc k).state = .releasing → (s.dc k).result = .done → s.stopChannel k = s)
       ∧ (∀ f, (s.dc k).state = .releasing → (s.dc k).result = .failed f → s.stopChannel k = s)
       ∧ ((s.dc k).state = .releasing → (s.dc k).result = .goOn → s.stopChannel k =
           { s with blu := s.blu.strike (isClaimOf k), dcs := s.dcs.set k { s.dc k with result := .failed .stopped } })
       ∧ ((s.dc k).state = .claiming → (∀ e, s.blu.current = some e → isClaimOf k e = false) →
           s.stopChannel k = State.writeReport { s with blu := s.blu.strike (isClaimOf k) } k (.failed .stopped))
       ∧ (∀ e, (s.dc k).state = .claiming → s.blu.current = some e → isClaimOf k e = true → s.stopChannel k =
           { s with blu := s.blu.strike (isClaimOf k), dcs := s.dcs.set k { s.dc k with withdrawPending := true } })
       ∧ (((s.dc k).state = .idle ∨ (s.dc k).state = .withdrawing) → s.stopChannel k = s))
    ∧ (∀ (s : State) (k : Nat) (e : Entry) (refill : Bool), s.blu.current = some e → e.strikeHeld = true → e.owner = .channel k →
         isClaimOf k e = true → (s.dc k).state = .claiming → (s.dc k).withdrawPending = true →
           s.backToWaiting refill = State.writeReport { s with blu := s.blu.backToWaiting refill } k (.failed .stopped))
    ∧ (∀ (s : State) (k : Nat), k < s.dcs.length → k < s.mps.length → (s.dc k).state = .shooting →
         (s.mp k).phase ≠ .stopped → (s.mp k).phase ≠ .settle →
           ((s.lineTell k .holdingEnded).mp k).valve = false ∧ ((s.lineTell k .holdingEnded).mp k).pump = false
             ∧ ((s.lineTell k .holdingEnded).mp k).phase = .drain
             ∧ ((s.lineTell k .holdingEnded).mp k).periodTimer = (s.mp k).periodTimer
             ∧ ((s.lineTell k .holdingEnded).dc k).stopCause = .lineOut ∧ ((s.lineTell k .holdingEnded).dc k).state = .shooting
             ∧ (∀ j, j ≠ k → (s.lineTell k .holdingEnded).dc j = s.dc j ∧ (s.lineTell k .holdingEnded).mp j = s.mp j)
             ∧ (s.lineTell k .holdingEnded).blu = s.blu ∧ (s.lineTell k .holdingEnded).obu = s.obu)
    ∧ (∀ (s : State) (k : Nat) (tell : LineTell) (c : Channel), k < s.dcs.length → c = s.dc k →
         (∀ rush granted, tell = .claimWaits rush granted → c.state = .claiming →
           (c.withdrawPending = false → s.lineTell k tell = { s with dcs := s.dcs.set k { c with state := .waiting } })
             ∧ (c.withdrawPending = true → granted = true → s.lineTell k tell = s)
             ∧ (c.withdrawPending = true → granted = false → s.lineTell k tell =
                 { s with
                   blu := (s.blu.offer (.withdraw c.line) (.channel k)).1
                   dcs := s.dcs.set k { c with state := .withdrawing } }))
           ∧ (∀ reason, tell = .claimDiscarded reason → c.state = .claiming →
               s.lineTell k tell = s.report k (.failed (if c.withdrawPending then .stopped else .lineOut)))
           ∧ ((tell = .claimWithdrawn ∨ tell = .withdrawDiscarded) → c.state = .withdrawing →
               s.lineTell k tell = s.report k (.failed .stopped))
           ∧ (((∃ level, tell = .releaseApplied level) ∨ tell = .releaseLate ∨ tell = .releaseRefused) → c.state = .releasing →
               (c.result = .goOn → s.lineTell k tell = { s with
                 dcs := s.dcs.set k { c with
                   state := .claiming, result := .none, balance := 0,
                   grant := { number := 0, askedShots := 0, askedDrops := 0, shotsDone := 0, drops := 0, final := false } } })
               ∧ (c.result = .done → s.lineTell k tell = s.report k .done)
               ∧ (∀ f, c.result = .failed f → s.lineTell k tell = s.report k (.failed f)))
           ∧ (tell = .holdingEnded → c.state = .settling →
               s.lineTell k tell = State.report (s.modMp k Pair.standDown) k (.failed .lineOut))
           ∧ (tell = .claimRemoved → c.state = .waiting → s.lineTell k tell = s.report k (.failed .lineOut))
           ∧ (tell = .claimRemoved → c.state = .withdrawing → s.lineTell k tell = s.report k (.failed .stopped))
           ∧ (c.state = .idle → s.lineTell k tell = s)
           ∧ (c.state = .claiming → (∀ rush granted, tell ≠ .claimWaits rush granted) → (∀ reason, tell ≠ .claimDiscarded reason) →
               s.lineTell k tell = s)
           ∧ (c.state = .waiting → tell ≠ .claimRemoved → s.lineTell k tell = s)
           ∧ (c.state = .withdrawing → tell ≠ .claimWithdrawn → tell ≠ .withdrawDiscarded → tell ≠ .claimRemoved →
               s.lineTell k tell = s)
           ∧ ((c.state = .settling ∨ c.state = .shooting) → tell ≠ .holdingEnded → s.lineTell k tell = s)
           ∧ (c.state = .releasing → (∀ level, tell ≠ .releaseApplied level) → tell ≠ .releaseLate → tell ≠ .releaseRefused →
               s.lineTell k tell = s))
    ∧ (∀ (s : State) (k : Nat) (out : EntryOutcome), k < s.dcs.length → k < s.mps.length →
         s.writeReport k out =
             { s with
               dcs := s.dcs.set k Channel.idle
               mps := s.mps.set k { s.mp k with
                 pump := false, valve := false, settleTimer := none, periodTimer := none, valveTimer := none, phase := .stopped,
                 bound := none, counter := 0, overflow := false }
               obu := { s.obu with
                 slots := s.obu.slots.modify (s.dc k).slot (Option.map fun o =>
                   { o with results := o.results.set (s.dc k).entry { outcome := out, delivered := (s.dc k).delivered } }) } }
           ∧ ((out = .done ∨ out = .failed .stopped ∨ out = .failed .detached) → s.report k out = s.writeReport k out)
           ∧ (∀ f reason, out = .failed f →
               ((f = .lineOut ∧ reason = .lineOut) ∨ (f = .over ∧ reason = .over) ∨ (f = .under ∧ reason = .under)
                 ∨ (f = .runaway ∧ reason = .runaway)) →
               s.report k out = (s.writeReport k out).stopOrder (s.dc k).slot reason))
    ∧ (∀ (s : State) (slot : Nat) (o : Order) (reason : OrderReason), s.order slot = some o →
         (o.stopping ≠ none → s.stopOrder slot reason = s)
           ∧ (o.stopping = none → s.stopOrder slot reason = State.stopChannels
               { s with obu := { s.obu with slots := s.obu.slots.set slot (some { o with stopping := some reason }) } } slot))
    ∧ (∀ (s : State) (slot : Nat) (busy strikes : State → Nat → Bool) (first second : State → Nat → State),
         (∀ u k, busy u k = true ↔ (u.dc k).state ≠ .idle ∧ (u.dc k).slot = slot) →
         (∀ u k, strikes u k = true ↔
           (u.dc k).state = .claiming ∨ ((u.dc k).state = .releasing ∧ (u.dc k).result = .goOn)) →
         first = (fun u k => if busy u k ∧ strikes u k then u.stopChannel k else u) →
         second = (fun u k => if busy u k ∧ ¬ strikes u k then u.stopChannel k else u) →
           s.stopChannels slot =
             second (second (second (second (first (first (first (first s 0) 1) 2) 3) 0) 1) 2) 3)
    ∧ (∀ (s u : State) (slot k : Nat), s.dcs.length = 4 → s.mps.length = 4 → k < 4 → u = s.stopChannels slot →
         (((s.dc k).state = .idle ∨ (s.dc k).slot ≠ slot) → u.dc k = s.dc k ∧ u.mp k = s.mp k)
         ∧ ((s.dc k).state ≠ .idle → (s.dc k).slot = slot →
           ((s.dc k).state = .claiming → u.dc k = Channel.idle ∨ (u.dc k).withdrawPending = true)
           ∧ ((s.dc k).state = .waiting → (u.dc k).state = .withdrawing)
           ∧ ((s.dc k).state = .settling → (u.dc k).state = .releasing ∧ (u.dc k).result = .failed .stopped
               ∧ (u.mp k).phase = .stopped ∧ (u.mp k).pump = false)
           ∧ ((s.dc k).state = .shooting → (s.dc k).stopCause = .none → (u.dc k).stopCause = .stopped
               ∧ (((s.mp k).phase = .opened ∨ (s.mp k).phase = .closed) →
                   (u.mp k).valve = false ∧ (u.mp k).phase = .drain ∧ (u.mp k).periodTimer = (s.mp k).periodTimer))
           ∧ ((s.dc k).state = .releasing → (s.dc k).result = .goOn → (u.dc k).result = .failed .stopped)))

/-- R125, R127 to R129: the settle timer's expiry makes the first period start, both timers loaded and the valve open; the valve
timer's expiry in OPEN closes the valve and enters CLOSED while the period runs on; a tap-meter pulse counts at the pair bound to the
line, 4095 going to 0 with the overflow flag set, and nowhere else.
That the expiry command of a timer that does not run leaves the state as it is, is the model's choice (log entry 2). -/
def Obligations.PairEvents : Prop :=
  (∀ (s : State) (k : Nat), k < s.dcs.length → k < s.mps.length → (s.mp k).phase = .settle → (s.mp k).settleTimer.isSome = true →
     ∃ t, exec (.settleExpiry k) s = .next t ∧ (t.mp k).phase = .opened ∧ (t.mp k).valve = true ∧ (t.mp k).pump = true
       ∧ (t.mp k).settleTimer = none ∧ (t.mp k).periodTimer = some (s.lineCal (s.dc k).line).shotPeriod
       ∧ (t.mp k).valveTimer = some (s.mp k).nextWidth ∧ (t.mp k).counter = (s.mp k).counter ∧ (t.dc k).state = .shooting
       ∧ (∀ j, j ≠ k → t.dc j = s.dc j ∧ t.mp j = s.mp j)
       ∧ t.setup = s.setup ∧ t.ssl = s.ssl ∧ t.blu = s.blu ∧ t.bt = s.bt ∧ t.htb = s.htb ∧ t.obu = s.obu ∧ t.pdu = s.pdu
       ∧ t.tlu = s.tlu ∧ t.pins = s.pins)
    ∧ (∀ (s : State) (k : Nat), k < s.mps.length → (s.mp k).phase = .opened → (s.mp k).valveTimer.isSome = true →
         ∃ t, exec (.valveExpiry k) s = .next t
           ∧ t.mp k = { s.mp k with valve := false, valveTimer := none, phase := .closed }
           ∧ (∀ j, j ≠ k → t.mp j = s.mp j) ∧ t = { s with mps := t.mps })
    ∧ (∀ (s : State) (n : Nat), ∃ t, exec (.tapMeterPulse n) s = .next t ∧ t = { s with mps := t.mps }
         ∧ t.mps.length = s.mps.length
         ∧ (∀ k, k < s.mps.length →
             ((s.mp k).bound = some n → (s.mp k).counter < 4095 → t.mp k = { s.mp k with counter := (s.mp k).counter + 1 })
               ∧ ((s.mp k).bound = some n → (s.mp k).counter = 4095 → t.mp k = { s.mp k with counter := 0, overflow := true })
               ∧ ((s.mp k).bound ≠ some n → t.mp k = s.mp k)))
    ∧ (∀ (s : State) (k : Nat), ((s.mp k).settleTimer = none → exec (.settleExpiry k) s = .next s)
         ∧ ((s.mp k).valveTimer = none → exec (.valveExpiry k) s = .next s))

/-- R111, R112 (d), R128, R130: the capture of a good shot, uncut, with the entry's drops not reached, the plan's final shot not made
and asked shots left: the drops are counted, and the next period starts at the capture, with the width of the shot after it written,
its trim corrected for the balance, if the grant has one. -/
def Obligations.CaptureOfAGoodShotGoesOn : Prop :=
  ∀ (s : State) (k m p : Nat), k < s.dcs.length → k < s.mps.length → (s.mp k).phase = .closed →
    (s.mp k).periodTimer.isSome = true → (s.dc k).state = .shooting → (s.dc k).stopCause = .none → (s.mp k).overflow = false →
    m = (s.mp k).counter → p = (s.dc k).plannedDrops (s.lineConst (s.dc k).line).shotSize (s.dc k).grant.shotsDone →
    m ≤ p + p / 2 + 2 → p ≤ 2 * m → (s.dc k).delivered + m < (s.dc k).ordered →
    (s.dc k).grant.shotsDone + 1 ≠ (s.dc k).plan.planned → (s.dc k).grant.shotsDone + 1 < (s.dc k).grant.askedShots →
      ∃ t u : State, exec (.capture k) s = .next t ∧ t = u.settle ∧ (u.mp k).lastShot = m ∧ (u.mp k).lastOverflow = false
        ∧ (u.mp k).counter = 0 ∧ (u.mp k).phase = .opened ∧ (u.mp k).valve = true
        ∧ (u.mp k).periodTimer = some (s.lineCal (s.dc k).line).shotPeriod ∧ (u.mp k).valveTimer = some (s.mp k).nextWidth
        ∧ (∀ (size next : Nat) (b : Int), size = (s.lineConst (s.dc k).line).shotSize →
            b = (s.dc k).balance + (m : Int) - (p : Int) → next = (s.dc k).grant.shotsDone + 2 →
            next < (s.dc k).grant.askedShots →
            (u.mp k).nextWidth = widthOf (s.lineCal (s.dc k).line).shotWidth
              (if (s.dc k).plan.isTrim next then correctedTrim (s.dc k).plan.trim b size else size) size)
        ∧ ((s.dc k).grant.askedShots ≤ (s.dc k).grant.shotsDone + 2 → (u.mp k).nextWidth = (s.mp k).nextWidth)
        ∧ (u.dc k).delivered = (s.dc k).delivered + m ∧ (u.dc k).grant.drops = (s.dc k).grant.drops + m
        ∧ (u.dc k).grant.shotsDone = (s.dc k).grant.shotsDone + 1 ∧ (u.dc k).balance = (s.dc k).balance + (m : Int) - (p : Int)
        ∧ (u.dc k).state = .shooting ∧ u.blu = s.blu ∧ u.obu = s.obu ∧ u.pdu = s.pdu ∧ u.tlu = s.tlu
        ∧ (∀ j, j ≠ k → u.dc j = s.dc j ∧ u.mp j = s.mp j)
        ∧ t.setup = s.setup ∧ t.ssl = s.ssl ∧ t.bt = s.bt ∧ t.htb = s.htb ∧ t.pins = s.pins

/-- R111 to R113, R115 to R118, R120, R121, R130 (e): the captures that end a grant. Of a RUNAWAY shot, and of a good shot that
reaches the ordered drops: the drops are counted, the pair stands down, and RELEASE is offered, RUNAWAY or GOOD, with the drops of the
grant. The plan's final shot brings the entry end test; the last of the asked shots, or a SHORT shot short of the order, lets the
channel go on, a SHORT one with RELEASE SHORT; at the drain capture of a shot that the own limit cut the channel goes on or is
tested, of one that a stop cut it fails stopped, each with RELEASE GOOD, and of one that a LINE OUT or the detach cut it reports LINE
OUT or detached and offers no RELEASE. A channel that goes on plans afresh and claims behind its RELEASE; where the claim is refused,
its entry fails. That a held CLAIM refuses the claim as one in the list does (log entry 8), that a SHORT shot which leaves nothing of
the order to dose brings the entry end test (log entry 15), and that the stop cause is cleared as the channel enters RELEASING (log
entry 16), are the model's choice. -/
def Obligations.CaptureThatEndsTheGrantReleasesTheLine : Prop :=
  (∀ (s : State) (k m p : Nat), k < s.dcs.length → k < s.mps.length → (s.mp k).phase = .closed →
     (s.mp k).periodTimer.isSome = true → (s.dc k).state = .shooting → (s.dc k).stopCause = .none →
     m = (s.mp k).counted → p = (s.dc k).plannedDrops (s.lineConst (s.dc k).line).shotSize (s.dc k).grant.shotsDone →
       ∃ t u : State, exec (.capture k) s = .next t ∧ t = u.settle
         ∧ (isRunaway m p (s.mp k).overflow = true → (u.dc k).state = .releasing ∧ (u.dc k).result = .failed .runaway
             ∧ (u.dc k).delivered = (s.dc k).delivered + m
             ∧ (u.mp k).phase = .stopped ∧ (u.mp k).valve = false ∧ (u.mp k).pump = false
             ∧ u.blu = (s.blu.offer (.release (s.dc k).line (s.dc k).grant.number
                 (min 16383 ((s.dc k).grant.drops + m)) 2) (.channel k)).1)
         ∧ (isRunaway m p (s.mp k).overflow = false → p ≤ 2 * m → (s.dc k).ordered ≤ (s.dc k).delivered + m →
             (u.dc k).state = .releasing ∧ (u.dc k).delivered = (s.dc k).delivered + m
             ∧ (u.mp k).phase = .stopped ∧ (u.mp k).valve = false ∧ (u.mp k).pump = false
             ∧ ((s.dc k).delivered + m ≤ (s.dc k).ordered + (2 + (s.dc k).ordered / 256) → (u.dc k).result = .done)
             ∧ ((s.dc k).ordered + (2 + (s.dc k).ordered / 256) < (s.dc k).delivered + m → (u.dc k).result = .failed .over)
             ∧ u.blu = (s.blu.offer (.release (s.dc k).line (s.dc k).grant.number
                 (min 16383 ((s.dc k).grant.drops + m)) 0) (.channel k)).1)
         ∧ t.setup = s.setup ∧ t.ssl = s.ssl ∧ t.bt = s.bt ∧ t.htb = s.htb ∧ t.pins = s.pins)
    ∧ (∀ (s w : State) (k m p : Nat) (c d : Channel), k < s.dcs.length → k < s.mps.length →
         ((s.mp k).phase = .closed ∨ (s.mp k).phase = .drain) → (s.mp k).periodTimer.isSome = true → c = s.dc k →
         m = (s.mp k).counted → p = c.plannedDrops (s.lineConst c.line).shotSize c.grant.shotsDone →
         d = { c with
           delivered := c.delivered + m, balance := c.balance + (m : Int) - (p : Int),
           grant := { c.grant with shotsDone := c.grant.shotsDone + 1, drops := c.grant.drops + m } } →
         w = { s with
           dcs := s.dcs.set k d
           mps := s.mps.set k { s.mp k with
             lastShot := (s.mp k).counter, lastOverflow := (s.mp k).overflow, counter := 0, overflow := false } } →
           ((c.stopCause ≠ .lineOut ∧ c.stopCause ≠ .detached ∧ isRunaway m p (s.mp k).overflow = true) →
             exec (.capture k) s = .next (State.settle (State.giveBack
               { w with dcs := s.dcs.set k { d with result := .failed .runaway } } k d.grant.drops .runaway)))
           ∧ (c.stopCause = .lineOut → exec (.capture k) s =
               .next (State.settle (State.report (w.modMp k Pair.standDown) k (.failed .lineOut))))
           ∧ (c.stopCause = .detached → exec (.capture k) s =
               .next (State.settle (State.report (w.modMp k Pair.standDown) k (.failed .detached))))
           ∧ (isRunaway m p (s.mp k).overflow = false →
             (c.stopCause = .stopped → exec (.capture k) s = .next (State.settle (State.giveBack
               { w with dcs := s.dcs.set k { d with result := .failed .stopped } } k d.grant.drops .good)))
             ∧ (c.stopCause = .ownLimit → exec (.capture k) s = .next (State.settle (State.giveBack
               { w with
                 dcs := s.dcs.set k
                   (if c.ordered ≤ d.delivered ∨ d.grant.shotsDone = c.plan.planned then d.endTest else { d with result := .goOn }) }
               k d.grant.drops .good)))
             ∧ (c.stopCause = .none → 2 * m < p → exec (.capture k) s = .next (State.settle (State.giveBack
               { w with dcs := s.dcs.set k (if c.ordered ≤ d.delivered then d.endTest else { d with result := .goOn }) }
               k d.grant.drops .short)))
             ∧ (c.stopCause = .none → p ≤ 2 * m → (c.ordered ≤ d.delivered ∨ d.grant.shotsDone = c.plan.planned) →
               exec (.capture k) s = .next (State.settle (State.giveBack
                 { w with dcs := s.dcs.set k d.endTest } k d.grant.drops .good)))
             ∧ (c.stopCause = .none → p ≤ 2 * m → d.delivered < c.ordered → d.grant.shotsDone ≠ c.plan.planned →
               c.grant.askedShots ≤ d.grant.shotsDone →
               exec (.capture k) s = .next (State.settle (State.giveBack
                 { w with dcs := s.dcs.set k { d with result := .goOn } } k d.grant.drops .good)))))
    ∧ (∀ (s u : State) (k drops : Nat) (o : LineOutcome), k < s.dcs.length → k < s.mps.length →
         u = { s with
           blu := (s.blu.offer (.release (s.dc k).line (s.dc k).grant.number (min 16383 drops) (lineOutcomeCode o)) (.channel k)).1
           dcs := s.dcs.set k { s.dc k with state := .releasing, stopCause := .none }
           mps := s.mps.set k { s.mp k with
             pump := false, valve := false, settleTimer := none, periodTimer := none, valveTimer := none, phase := .stopped } } →
           ((s.dc k).result ≠ .goOn → s.giveBack k drops o = u)
             ∧ ((s.dc k).result = .goOn → s.giveBack k drops o = u.offerClaim k .releasing))
    ∧ (∀ (s : State) (k asked size : Nat) (st : ChannelState) (c d : Channel) (n : Notice), k < s.dcs.length → c = s.dc k →
         size = (s.lineConst c.line).shotSize → d = { c with plan := planOf (c.ordered - c.delivered) size } →
         asked = askedShotsOf c.mode (s.lineConst c.line).shareBlock d.plan →
         n = .claim c.line asked (askedDropsOf size asked d.plan) (s.levelOf c.slot) (rushCode (s.obu.rushOf c.slot)) →
           ((s.blu.list ++ s.blu.held).any (clashes n) = true →
             s.offerClaim k st = State.report { s with dcs := s.dcs.set k d } k (.failed .lineOut))
           ∧ ((s.blu.list ++ s.blu.held).any (clashes n) = false →
             s.offerClaim k st =
               { s with blu := (s.blu.offer n (.channel k)).1, dcs := s.dcs.set k { d with state := st } }))


/-! ### The terminal's commands (chapters 2, 7, 8 and 10), the transmitter IDLE -/

/-- R21, R136, R169: SETUP. Accepted in UNSET, READY or REFUSED, with every channel IDLE and every field in its range: the block is
held with its digest and the station is READY, not listening. Else WRONG STATE, BUSY or BAD FIELD, in that order, with nothing
changed. The ranges are those of R22 and R136, of all sixteen lines, with the shot period at least 5 ms (50 ticks) above the shot
width, and those of the base fill, the lid press and the transfers (R157, R160, R161).
That an idle fill's duty register takes the new fast duty is the model's choice (log entry 20). -/
def Obligations.SetupCommand : Prop :=
  (∀ block : SetupBlock, setupInRange block = true ↔
    ((1 ≤ block.bay.linesEquipped ∧ block.bay.linesEquipped ≤ 16)
      ∧ (∀ l ∈ block.bay.lines, (8 ≤ l.shotSize ∧ l.shotSize ≤ 255) ∧ (1 ≤ l.shareBlock ∧ l.shareBlock ≤ 15)
          ∧ (5 ≤ l.holdLimit ∧ l.holdLimit ≤ 600) ∧ l.settleDelay ≤ 255)
      ∧ (1 ≤ block.bay.mixersEquipped ∧ block.bay.mixersEquipped ≤ 4) ∧ (5 ≤ block.bay.mixerMargin ∧ block.bay.mixerMargin ≤ 60)
      ∧ (1 ≤ block.bay.grace ∧ block.bay.grace ≤ 10) ∧ block.bay.reserve ≤ 65535
      ∧ (1 ≤ block.bay.formationWindow ∧ block.bay.formationWindow ≤ 10) ∧ block.cal.station ≤ 15
      ∧ (∀ l ∈ block.cal.lines, (1 ≤ l.shotWidth ∧ l.shotWidth ≤ 4000) ∧ (l.shotWidth + 50 ≤ l.shotPeriod ∧ l.shotPeriod ≤ 10000))
      ∧ (1 ≤ block.cal.basePeriod ∧ block.cal.basePeriod ≤ 50) ∧ (1 ≤ block.cal.fastDuty ∧ block.cal.fastDuty ≤ 100)
      ∧ (1 ≤ block.cal.slowDuty ∧ block.cal.slowDuty ≤ 100) ∧ block.cal.slowBand ≤ 2000 ∧ block.cal.baseTolerance ≤ 200
      ∧ (10 ≤ block.cal.baseLimit ∧ block.cal.baseLimit ≤ 600) ∧ (50 ≤ block.cal.seatDelay ∧ block.cal.seatDelay ≤ 2000)
      ∧ (100 ≤ block.cal.pressWidth ∧ block.cal.pressWidth ≤ 3000)
      ∧ (100 ≤ block.cal.transferPulse ∧ block.cal.transferPulse ≤ 2000)
      ∧ (1 ≤ block.cal.transferLimit ∧ block.cal.transferLimit ≤ 20)))
  ∧ (∀ (s : State) (block : SetupBlock), s.tlu.sending = none →
    ((s.ssl.state = .unset ∨ s.ssl.state = .ready ∨ s.ssl.state = .refused) →
      ((∀ c ∈ s.dcs, c.state = .idle) → setupInRange block = true →
        exec (.setup block) s = .next (State.answered
          { s with
            setup := some { block := block, digest := bayDigest block.bay }
            ssl := { s.ssl with state := .ready }
            blu := { s.blu with listen := .off }
            pdu := { s.pdu with
              fill := if s.pdu.fill.phase = .idle then { s.pdu.fill with dutyRegister := block.cal.fastDuty } else s.pdu.fill }
            tlu := if s.ssl.state = .ready then s.tlu else { s.tlu with unread := true, attention := true } }
          1 .accepted .nothing))
        ∧ ((∃ c ∈ s.dcs, c.state ≠ .idle) → exec (.setup block) s = .next (s.answered 1 .busy .nothing))
        ∧ ((∀ c ∈ s.dcs, c.state = .idle) → setupInRange block = false →
            exec (.setup block) s = .next (s.answered 1 .badField .nothing)))
      ∧ (s.ssl.state ≠ .unset → s.ssl.state ≠ .ready → s.ssl.state ≠ .refused →
          exec (.setup block) s = .next (s.answered 1 .wrongState .nothing)))

/-- R24, R37: START in READY empties the bay table and leads to FORMING with the first listen running; LEAVE in ATTACHED, with none
pending, nothing held and every live order in QUEUED or LOADING, queues the LEAVE notice. Each is refused otherwise. -/
def Obligations.StartAndLeaveCommands : Prop :=
  ∀ s : State, s.tlu.sending = none →
    (s.ssl.state = .ready →
      exec .start s = .next (State.answered
        { s with
          bt := Table.empty
          blu := { s.blu with listen := .firstWait }
          ssl := { s.ssl with state := .forming, lateMark := false, joinTaken := false, knownGiver := none, firstListen := some 500 }
          tlu := { s.tlu with unread := true, attention := true } }
        2 .accepted .nothing))
      ∧ (s.ssl.state ≠ .ready → exec .start s = .next (s.answered 2 .wrongState .nothing))
      ∧ (s.ssl.state = .attached → s.ssl.leavePending = false →
          (∀ n r h, s.bt.line n = some r → r.holder = some h → h.station ≠ s.me) →
          (∀ p, s.bt.pool = some p → ∀ r ∈ p.recs, r.state = .held → r.holder ≠ some s.me) →
          (∀ slot o, s.order slot = some o → o.stage = .queued ∨ o.stage = .loading) →
          (terminalCount s.blu.list < 4 → s.blu.list.length < 16 →
            exec .leave s = .next (State.answered
              { s with
                blu := { s.blu with list := insertEntry (Entry.fresh .leave .terminal true) s.blu.list }
                ssl := { s.ssl with leavePending := true } }
              3 .queued .nothing))
            ∧ (4 ≤ terminalCount s.blu.list ∨ 16 ≤ s.blu.list.length →
                exec .leave s = .next (s.answered 3 .busy .nothing)))
      ∧ ((s.ssl.state ≠ .attached ∨ s.ssl.leavePending = true
            ∨ (∃ n r h, s.bt.line n = some r ∧ r.holder = some h ∧ h.station = s.me)
            ∨ (∃ p r, s.bt.pool = some p ∧ r ∈ p.recs ∧ r.state = .held ∧ r.holder = some s.me)
            ∨ ∃ slot o, s.order slot = some o ∧ o.stage ≠ .queued ∧ o.stage ≠ .loading) →
          exec .leave s = .next (s.answered 3 .wrongState .nothing))

/-- R138, R139: ORDER, the first refusal that applies; an order that passes is admitted into the lowest-numbered free slot, QUEUED, the
youngest of the live orders, and the book then settles. A field is bad where it is outside its range of R138, where two entries name
one line, where rush is asked with a priority other than 2, or a mix time above 0 with lid no.
That its base delivered stands at 0 until a base fill reports is the model's choice (log entry 48), and so are the codes of yes and
no (log entry 23). -/
def Obligations.OrderAdmission : Prop :=
  (∀ f : OrderFields, orderFieldsValid f = true ↔
    ((1 ≤ f.tag ∧ f.tag ≤ 65535) ∧ (1 ≤ f.size ∧ f.size ≤ 7) ∧ f.base ≤ 20000 ∧ f.priority ≤ 3 ∧ f.rush ≤ 1 ∧ f.lid ≤ 1
      ∧ (f.mixTime = 0 ∨ (10 ≤ f.mixTime ∧ f.mixTime ≤ 300)) ∧ f.entries.length ≤ 12
      ∧ (∀ e ∈ f.entries, e.line ≤ 15 ∧ (1 ≤ e.drops ∧ e.drops ≤ 16383) ∧ e.mode ≤ 2)
      ∧ (f.entries.map OrderEntry.line).Nodup ∧ (yesOfCode f.rush = some true → f.priority = 2)
      ∧ (f.mixTime ≠ 0 → yesOfCode f.lid ≠ some false)))
  ∧ (∀ (s : State) (f : OrderFields), s.tlu.sending = none →
    (s.setup = none → exec (.order f) s = .next (s.answered 4 .wrongState .nothing))
      ∧ (s.setup ≠ none →
        (orderFieldsValid f = false → exec (.order f) s = .next (s.answered 4 .badField .nothing))
        ∧ (orderFieldsValid f = true →
          ((∃ e ∈ f.entries, s.bay.linesEquipped ≤ e.line) → exec (.order f) s = .next (s.answered 4 .notEquipped .nothing))
          ∧ ((∀ e ∈ f.entries, e.line < s.bay.linesEquipped) →
            ((∃ e ∈ f.entries, ∃ r, s.bt.line e.line = some r ∧ r.service = .out) →
              exec (.order f) s = .next (s.answered 4 .lineOut .nothing))
            ∧ ((∀ e ∈ f.entries, ∀ r, s.bt.line e.line = some r → r.service = .inService) →
              ((f.mixTime ≠ 0 ∧ ∃ p, s.bt.pool = some p ∧ ∀ r ∈ p.recs, r.state = .out) →
                exec (.order f) s = .next (s.answered 4 .wrongState .nothing))
              ∧ ((f.mixTime = 0 ∨ ∀ p, s.bt.pool = some p → ∃ r ∈ p.recs, r.state ≠ .out) → s.obu.slots.length = 8 →
                (((∃ slot o, s.order slot = some o ∧ o.tag = f.tag) ∨ ∃ k ∈ s.tlu.tickets, k.tag = f.tag) →
                  exec (.order f) s = .next (s.answered 4 .duplicateTag .nothing))
                ∧ ((∀ slot o, s.order slot = some o → o.tag ≠ f.tag) → (∀ k ∈ s.tlu.tickets, k.tag ≠ f.tag) →
                  ((∀ slot, slot < 8 → s.order slot ≠ none) → exec (.order f) s = .next (s.answered 4 .noSlot .nothing))
                  ∧ (∀ slot, slot < 8 → s.order slot = none → (∀ j, j < slot → s.order j ≠ none) →
                    ∃ o : Order, o.tag = f.tag ∧ o.size = f.size ∧ o.base = f.base ∧ some o.priority = priorityOfCode f.priority
                      ∧ some o.rush = yesOfCode f.rush ∧ some o.lid = yesOfCode f.lid ∧ o.mixTime = f.mixTime
                      ∧ o.entries = f.entries.map doseEntry ∧ o.stage = .queued
                      ∧ o.results = f.entries.map (fun _ => { outcome := .notDosed, delivered := 0 }) ∧ o.baseDelivered = 0
                      ∧ o.rushResult = (if o.rush then .pending else .notAsked) ∧ o.admission = s.obu.live
                      ∧ o.mixerUsed = none ∧ o.outcome = none ∧ o.reason = none ∧ o.baseFinished = false ∧ o.wrongTin = false
                      ∧ o.mixClaimOffered = false ∧ o.runRaised = false
                      ∧ exec (.order f) s = .next (State.answered
                          (State.settle { s with obu := { s.obu with slots := s.obu.slots.set slot (some o) } })
                          4 .accepted (.slot slot))))))))))

/-- R144, R151, R152: CANCEL acts by the stage of the order that has the tag; of one in TINT it is a stop of the order with reason
cancelled, which stops every channel busy with it (`stopOrder`, whose effect StopsAndCuts gives). PRIORITY sets the priority of an
order up to MIX WAIT, and is refused with BAD FIELD or, from MIXING on, LATE. That a bad field is judged before lateness (log entry
14), and that the reason of a stop in TINT shows only as the order enters REJECT (log entry 39), are the model's choice. -/
def Obligations.CancelAndPriority : Prop :=
  (∀ (s : State) (tag : Nat), s.tlu.sending = none →
     (s.setup = none → exec (.cancel tag) s = .next (s.answered 5 .wrongState .nothing))
       ∧ (s.setup ≠ none → (∀ slot o, s.order slot = some o → o.tag ≠ tag) →
           exec (.cancel tag) s = .next (s.answered 5 .unknownTag .nothing))
       ∧ (∀ slot o, s.setup ≠ none → slot < 8 → s.order slot = some o → o.tag = tag →
           (∀ j p, s.order j = some p → p.tag = tag → j = slot) →
           ((o.stage = .queued ∨ o.stage = .loading) →
             ∃ u : State, exec (.cancel tag) s = .next (u.settle.answered 5 .accepted .nothing)
               ∧ s.ordersEnd u s.blu slot o .cancelled .cancelled
               ∧ u.pdu = (if o.stage = .loading then { s.pdu with lamp := false } else s.pdu))
           ∧ (o.stage = .base →
             ∃ u : State, exec (.cancel tag) s = .next (u.settle.answered 5 .accepted .nothing)
               ∧ s.ordersReject u slot
                   (if s.pdu.fill.phase = .idle then o else { o with baseDelivered := s.pdu.fill.counter }) .cancelled
               ∧ u.pdu.fill.phase = .idle ∧ u.pdu.fill.counter = s.pdu.fill.counter
               ∧ (s.pdu.fill.phase ≠ .idle → u.pdu.fill.valve = false ∧ u.pdu.fill.pump = false ∧ u.pdu.fill.periodTimer = none
                   ∧ u.pdu.fill.dutyTimer = none ∧ u.pdu.fill.limitTimer = none ∧ u.pdu.fill.runOnTimer = none))
           ∧ (o.stage = .tint → o.stopping = none →
             ∃ (u : State) (v : Order), exec (.cancel tag) s = .next (u.settle.answered 5 .accepted .nothing)
               ∧ u = s.stopOrder slot .cancelled ∧ u.order slot = some v ∧ v.stage = .tint
               ∧ v.stopping = some .cancelled ∧ v.tag = tag ∧ v.handed = o.handed
               ∧ (∀ j, j ≠ slot → u.order j = s.order j) ∧ u.pdu = s.pdu ∧ u.tlu = s.tlu)
           ∧ (o.stage = .tint → o.stopping ≠ none →
             exec (.cancel tag) s = .next (s.settle.answered 5 .accepted .nothing))
           ∧ (o.stage ≠ .queued → o.stage ≠ .loading → o.stage ≠ .base → o.stage ≠ .tint →
             exec (.cancel tag) s = .next (s.answered 5 .late .nothing))))
    ∧ (∀ (s : State) (tag level : Nat), s.tlu.sending = none →
         (s.setup = none → exec (.priority tag level) s = .next (s.answered 6 .wrongState .nothing))
           ∧ (s.setup ≠ none → (∀ slot o, s.order slot = some o → o.tag ≠ tag) →
               exec (.priority tag level) s = .next (s.answered 6 .unknownTag .nothing))
           ∧ (∀ slot o, s.setup ≠ none → slot < 8 → s.order slot = some o → o.tag = tag →
               (∀ j p, s.order j = some p → p.tag = tag → j = slot) →
               (((3 < level) ∨ (o.rush = true ∧ level ≠ 2) ∨ (level = 3 ∧ o.stage ≠ .queued)) →
                 exec (.priority tag level) s = .next (s.answered 6 .badField .nothing))
               ∧ (∀ p, priorityOfCode level = some p → (o.rush = true → p = .p2) → (p = .hold → o.stage = .queued) →
                 ((o.stage = .mixing ∨ o.stage = .shelf ∨ o.stage = .reject ∨ o.stage = .done) →
                   exec (.priority tag level) s = .next (s.answered 6 .late .nothing))
                 ∧ (o.stage ≠ .mixing → o.stage ≠ .shelf → o.stage ≠ .reject → o.stage ≠ .done →
                   exec (.priority tag level) s = .next (State.answered
                     (State.settle { s with
                       obu := { s.obu with slots := s.obu.slots.set slot (some { o with priority := p }) } })
                     6 .accepted .nothing)))))

/-- R16 (b), R170: REFILL, LINE RETURN, LINE OUT and MIXER RETURN ask the bay for a change. In ATTACHED, for equipped lines and
mixers, with a level in its range and room in the terminal's share and in the list, the notice enters the outgoing list and the
reply is QUEUED; else the reply is WRONG STATE, NOT EQUIPPED, BAD FIELD or BUSY and nothing changes.
That NOT EQUIPPED is judged before BAD FIELD is the model's choice (log entry 14): R170 gives no order. -/
def Obligations.BayRequestsAreQueuedOrRefused : Prop :=
  ∀ (s : State) (c : Instr) (kind : Nat) (n : Notice) (equipped levelOk : Prop), s.tlu.sending = none →
    ((∃ line level, c = .refill line level ∧ kind = 7 ∧ n = .refill line level ∧ (equipped ↔ line < s.bay.linesEquipped)
          ∧ (levelOk ↔ level ≤ 16777215))
      ∨ (∃ line level, c = .lineReturn line level ∧ kind = 8 ∧ n = .lineReturn line level
          ∧ (equipped ↔ line < s.bay.linesEquipped) ∧ (levelOk ↔ level ≤ 16777215))
      ∨ (∃ line, c = .lineOut line ∧ kind = 9 ∧ n = .lineOut line ∧ (equipped ↔ line < s.bay.linesEquipped) ∧ (levelOk ↔ True))
      ∨ ∃ mixer, c = .mixerReturn mixer ∧ kind = 10 ∧ n = .mixerReturn mixer ∧ (equipped ↔ mixer < s.bay.mixersEquipped)
          ∧ (levelOk ↔ True)) →
      (s.ssl.state ≠ .attached → exec c s = .next (s.answered kind .wrongState .nothing))
        ∧ (s.ssl.state = .attached →
          (¬ equipped → exec c s = .next (s.answered kind .notEquipped .nothing))
          ∧ (equipped → ¬ levelOk → exec c s = .next (s.answered kind .badField .nothing))
          ∧ (equipped → levelOk → (4 ≤ terminalCount s.blu.list ∨ 16 ≤ s.blu.list.length) →
              exec c s = .next (s.answered kind .busy .nothing))
          ∧ (equipped → levelOk → terminalCount s.blu.list < 4 → s.blu.list.length < 16 →
              exec c s = .next (State.answered
                { s with blu := { s.blu with list := insertEntry (Entry.fresh n .terminal true) s.blu.list } }
                kind .queued .nothing)))

/-- R171, R172: the four queries change nothing but the reply, save that QUERY STATION clears the unread-state-change flag. READ TICKET
answers none with the queue empty; else the head ticket, removed as the reply is built, after which the book queues what has waited
in DONE. That the channel records in the reply to QUERY ORDER stand by rising channel number is the model's choice (log entry 52). -/
def Obligations.QueriesAndTickets : Prop :=
  (∀ (s : State) (tag line : Nat), s.tlu.sending = none →
     (∃ r : StationReport, r.state = s.ssl.state ∧ r.station = s.setup.map (fun h => h.block.cal.station)
         ∧ r.digest = s.setup.map (fun h => h.digest) ∧ (∀ n, s.bt.bayCount = some n → r.bayCount = n)
         ∧ r.lastDetach = s.ssl.lastDetach ∧ r.leavePending = s.ssl.leavePending ∧ r.liveOrders = s.obu.live
         ∧ r.tickets = s.tlu.tickets.length ∧ r.notices = s.blu.list.length ∧ r.terminalNotices = terminalCount s.blu.list
         ∧ r.objections = s.blu.objections ∧ r.voids = s.blu.voids
         ∧ exec .queryStation s = .next (State.answered
             { s with tlu := { s.tlu with unread := false, attention := !s.tlu.tickets.isEmpty } } 11 .accepted (.station r)))
       ∧ (s.setup = none → exec (.queryOrder tag) s = .next (s.answered 12 .wrongState .nothing)
           ∧ exec (.queryLine line) s = .next (s.answered 13 .wrongState .nothing))
       ∧ (s.setup ≠ none → (∀ slot o, s.order slot = some o → o.tag ≠ tag) →
           exec (.queryOrder tag) s = .next (s.answered 12 .unknownTag .nothing))
       ∧ (∀ slot o, s.setup ≠ none → slot < 8 → s.order slot = some o → o.tag = tag →
           (∀ j p, s.order j = some p → p.tag = tag → j = slot) →
           exec (.queryOrder tag) s = .next (s.answered 12 .accepted
             (.order o
               (([0, 1, 2, 3].filter fun k => (s.dc k).state != .idle && (s.dc k).slot == slot).map fun k =>
                 { channel := s.dc k, phase := (s.mp k).phase, bound := (s.mp k).bound, lastShot := (s.mp k).lastShot,
                   lastOverflow := (s.mp k).lastOverflow })
               (if o.reason = some .baseFault then o.baseFault else none))))
       ∧ (s.setup ≠ none → s.bay.linesEquipped ≤ line → exec (.queryLine line) s = .next (s.answered 13 .notEquipped .nothing))
       ∧ (∀ r, s.setup ≠ none → line < s.bay.linesEquipped → s.bt.line line = some r →
           exec (.queryLine line) s = .next (s.answered 13 .accepted
             (.line (.full line r (lineLow s.bay.reserve r) (lineStatus r)))))
       ∧ (s.setup ≠ none → line < s.bay.linesEquipped → s.bt.lines = [] → s.ssl.state ≠ .joining →
           exec (.queryLine line) s = .next (s.answered 13 .accepted (.line (.noTable line))))
       ∧ (∀ p, s.bt.pool = some p → exec .queryMixers s = .next (s.answered 14 .accepted (.mixers (.full p s.bt.tokens))))
       ∧ (s.bt.pool = none → s.bt.lines = [] → s.ssl.state ≠ .joining →
           exec .queryMixers s = .next (s.answered 14 .accepted (.mixers .noTable))))
    ∧ (∀ s : State, s.tlu.sending = none →
         (s.tlu.tickets = [] → exec .readTicket s = .next (s.answered 15 .accepted .nothing))
           ∧ (∀ k rest, s.tlu.tickets = k :: rest →
               exec .readTicket s = .next (State.answered
                 (State.settle { s with tlu := { s.tlu with tickets := rest, attention := !rest.isEmpty || s.tlu.unread } })
                 15 .accepted (.ticket k))))

/-- R167 to R169: the link. A command, or a frame that names none, that comes while a reply is being sent is not decoded: it leaves
a BUSY reply pending, or nothing when one is pending already. A frame that names no command, or whose length does not fit, is
answered BAD FIELD at an IDLE transmitter. A reply sent is followed by the pending one. Dropped bytes act on the receiver alone.
The operands of the link's commands are log entries 26 and 27. -/
def Obligations.OneReplyAtATime : Prop :=
  ∀ (s : State),
    (∀ (c : Instr) (kind : Nat) (r : Reply), s.tlu.sending = some r →
      ((commandKind c = kind ∧ kind ≠ 0) ∨ c = .commandWhileSending kind
        ∨ ∃ payload, c = .unknownCommandKind kind payload ∧ commandLengthOk kind payload = false) →
        (s.tlu.pendingReply = none →
          exec c s = .next { s with
            tlu := { s.tlu with
              receiver := .hunting
              pendingReply := some { kind := kind, result := .busy, data := .nothing } } })
          ∧ (s.tlu.pendingReply ≠ none → exec c s = .next { s with tlu := { s.tlu with receiver := .hunting } }))
      ∧ (∀ (kind : Nat) (payload : List ByteVal), s.tlu.sending = none → commandLengthOk kind payload = false →
          exec (.unknownCommandKind kind payload) s = .next (s.answered kind .badField .nothing))
      ∧ (s.tlu.sending ≠ none →
          exec .replySent s = .next { s with tlu := { s.tlu with sending := s.tlu.pendingReply, pendingReply := none } })
      ∧ exec .interByteTimeout s = .next { s with tlu := { s.tlu with receiver := .hunting } }
      ∧ (∀ bytes : List LinkByte, ∃ t, exec (.frameDropped bytes) s = .next t
          ∧ t = { s with tlu := { s.tlu with receiver := t.tlu.receiver } }
          ∧ (∀ b, bytes.getLast? = some b → b.stopBit = false → t.tlu.receiver = .hunting)
          ∧ (∀ b, bytes = [b] → s.tlu.receiver = .inFrame [] → 250 < b.value → t.tlu.receiver = .hunting)
          ∧ (∀ b kind payload hi, bytes = [b] → s.tlu.receiver = .inFrame (payload.length :: kind :: payload ++ [hi]) →
              twoBytes (check (bytesBits (payload.length :: kind :: payload))).toNat ≠ [hi, b.value] →
              t.tlu.receiver = .hunting))

/-! ### The plant (chapters 8 and 9) -/

/-- R140, R141, R144, R156, R159: the cradle's inputs. A rise starts the seating timer; its expiry with the tin still there reports
it with its code, and the order in LOADING is seated when the code is its size, or marked wrong tin; a fall while the timer runs is
not reported; a fall after the report clears the wrong-tin mark of an order in LOADING, is a CANCEL of one in BASE or TINT, stopping
in BASE the running base fill and in TINT the order and its channels (`stopOrder`, whose effect StopsAndCuts gives), and leaves one in
LID, OUTFEED WAIT or REJECT as it stands. That the reason of a stop in TINT shows only as the order enters REJECT is the model's
choice (log entry 39). -/
def Obligations.TinAtTheCradle : Prop :=
  ∀ s : State,
    (s.pins.tinPresent = false → exec .tinPresentRise s = .next
        { s with pins := { s.pins with tinPresent := true }, pdu := { s.pdu with seatingTimer := some 100 } })
      ∧ (∀ code slot o, s.pdu.seatingTimer.isSome = true → s.pins.tinPresent = true → s.cradleIn .loading = some slot →
          s.order slot = some o →
          ∃ u : State, exec (.seatingTimerExpiry code) s = .next u.settle ∧ u.pdu.seatingTimer = none
            ∧ u.pdu.arrived = some code ∧ u.dcs = s.dcs ∧ u.mps = s.mps ∧ u.blu = s.blu ∧ u.tlu = s.tlu
            ∧ (o.size ≠ code → u.order slot = some { o with wrongTin := true } ∧ u.pdu.lamp = s.pdu.lamp
                ∧ u.pdu.fill = s.pdu.fill)
            ∧ (o.size = code → u.pdu.lamp = false
                ∧ (o.base = 0 → u.order slot = some { o with stage := .base, baseFinished := true, baseDelivered := 0 }
                    ∧ u.pdu.fill = s.pdu.fill)
                ∧ (o.base ≠ 0 → s.pdu.fill.phase = .idle → u.order slot = some { o with stage := .base }
                    ∧ u.pdu.fill.target = o.base ∧ u.pdu.fill.counter = 0 ∧ u.pdu.fill.valve = true ∧ u.pdu.fill.pump = true
                    ∧ u.pdu.fill.limitTimer = some s.cal.baseLimit ∧ u.pdu.fill.periodTimer = some s.cal.basePeriod
                    ∧ (s.cal.slowBand < o.base → u.pdu.fill.phase = .fast ∧ u.pdu.fill.dutyInUse = s.cal.fastDuty
                        ∧ u.pdu.fill.dutyRegister = s.cal.fastDuty)
                    ∧ (o.base ≤ s.cal.slowBand → u.pdu.fill.phase = .slow ∧ u.pdu.fill.dutyInUse = s.cal.slowDuty
                        ∧ u.pdu.fill.dutyRegister = s.cal.slowDuty))))
      ∧ (s.pins.tinPresent = true → s.pdu.seatingTimer.isSome = true → s.pdu.arrived = none →
          exec .tinPresentFall s = .next
            { s with pins := { s.pins with tinPresent := false }, pdu := { s.pdu with seatingTimer := none } })
      ∧ (∀ slot o, s.pins.tinPresent = true → s.pdu.seatingTimer = none → s.pdu.arrived.isSome = true →
          s.obu.cradle = some slot → s.order slot = some o →
          ∃ u : State, exec .tinPresentFall s = .next u.settle ∧ u.pins = { s.pins with tinPresent := false }
            ∧ u.pdu.arrived = none
            ∧ (o.stage = .loading → u.order slot = some { o with wrongTin := false } ∧ u.blu = s.blu ∧ u.dcs = s.dcs)
            ∧ (o.stage = .base → s.ordersReject u slot
                  (if s.pdu.fill.phase = .idle then o else { o with baseDelivered := s.pdu.fill.counter }) .cancelled
                ∧ u.pdu.fill.phase = .idle ∧ u.pdu.fill.counter = s.pdu.fill.counter
                ∧ (s.pdu.fill.phase ≠ .idle → u.pdu.fill.valve = false ∧ u.pdu.fill.pump = false ∧ u.pdu.fill.periodTimer = none
                    ∧ u.pdu.fill.dutyTimer = none ∧ u.pdu.fill.limitTimer = none ∧ u.pdu.fill.runOnTimer = none))
            ∧ (o.stage = .tint → o.stopping = none →
                u = State.stopOrder { s with
                  pins := { s.pins with tinPresent := false }
                  pdu := { s.pdu with seatingTimer := none, arrived := none } } slot .cancelled
                ∧ ∃ v, u.order slot = some v ∧ v.stage = .tint ∧ v.stopping = some .cancelled)
            ∧ ((o.stage = .lid ∨ o.stage = .outfeedWait ∨ o.stage = .reject) → u.obu = s.obu ∧ u.blu = s.blu ∧ u.dcs = s.dcs
                ∧ u.mps = s.mps))

/-- R141, R157 to R159: a base meter pulse is counted and compared with the target, a period starts with the duty of the register,
and the duty timer's end stops the pump, but where the duty timer is the whole period or more the pump runs without a break.
The limit is a base fault at once; the run-on's expiry judges the fill, finished or an
overrun; a fault sends the order in BASE to REJECT. That the pump runs on so at every duty timer of the whole period or more, a duty
below 100 that rounds up to it among them, is the model's reading of R157 (log entry 46). -/
def Obligations.BaseFillRunsAndEnds : Prop :=
  (∀ (s : State) (c : Nat), c = min 65535 (s.pdu.fill.counter + 1) →
     (∃ f : Fill, exec .baseMeterPulse s = .next { s with pdu := { s.pdu with fill := f } }
       ∧ (s.pdu.fill.phase = .idle → f = s.pdu.fill)
       ∧ (s.pdu.fill.phase = .runOn → f = { s.pdu.fill with counter := c })
       ∧ (s.pdu.fill.phase = .fast → c < s.pdu.fill.target - s.pdu.fill.cal.slowBand → f = { s.pdu.fill with counter := c })
       ∧ (s.pdu.fill.phase = .fast → s.pdu.fill.target - s.pdu.fill.cal.slowBand ≤ c → c < s.pdu.fill.target →
           f = { s.pdu.fill with counter := c, phase := .slow, dutyRegister := s.pdu.fill.cal.slowDuty })
       ∧ (s.pdu.fill.phase = .fast → s.pdu.fill.target ≤ c →
           f = { s.pdu.fill with
             counter := c, phase := .runOn, dutyRegister := s.pdu.fill.cal.slowDuty, valve := false, pump := false,
             periodTimer := none, dutyTimer := none, limitTimer := none, runOnTimer := some s.pdu.fill.cal.period })
       ∧ (s.pdu.fill.phase = .slow → c < s.pdu.fill.target → f = { s.pdu.fill with counter := c })
       ∧ (s.pdu.fill.phase = .slow → s.pdu.fill.target ≤ c →
           f = { s.pdu.fill with
             counter := c, phase := .runOn, valve := false, pump := false, periodTimer := none, dutyTimer := none,
             limitTimer := none, runOnTimer := some s.pdu.fill.cal.period }))
       ∧ ((s.pdu.fill.phase = .fast ∨ s.pdu.fill.phase = .slow) →
         (s.pdu.fill.periodTimer.isSome = true → ∃ ticks : Nat,
           1 ≤ ticks ∧ 10 * s.pdu.fill.cal.period * s.pdu.fill.dutyRegister < 100 * ticks + 50
           ∧ (1 < ticks → 100 * ticks ≤ 10 * s.pdu.fill.cal.period * s.pdu.fill.dutyRegister + 50)
           ∧ exec .basePeriodExpiry s = .next { s with
               pdu := { s.pdu with
                 fill := { s.pdu.fill with
                   dutyInUse := s.pdu.fill.dutyRegister, periodTimer := some s.pdu.fill.cal.period, dutyTimer := some ticks,
                   pump := true } } })
         ∧ (∀ duty, s.pdu.fill.dutyTimer = some duty →
           ((∀ period, s.pdu.fill.periodTimer = some period → duty < 10 * period) →
             exec .dutyTimerExpiry s = .next { s with
               pdu := { s.pdu with fill := { s.pdu.fill with pump := false, dutyTimer := none } } })
           ∧ (∀ period, s.pdu.fill.periodTimer = some period → 10 * period ≤ duty →
             exec .dutyTimerExpiry s = .next { s with
               pdu := { s.pdu with fill := { s.pdu.fill with dutyTimer := none } } }))))
    ∧ (∀ (s : State) (slot : Nat) (o : Order) (rest : Fill), s.cradleIn .base = some slot → s.order slot = some o →
         rest = { s.pdu.fill with
           phase := .idle, valve := false, pump := false, periodTimer := none, dutyTimer := none, limitTimer := none,
           runOnTimer := none } →
           ((s.pdu.fill.phase = .fast ∨ s.pdu.fill.phase = .slow) → s.pdu.fill.limitTimer.isSome = true →
             ∃ u : State, exec .fillLimitExpiry s = .next u.settle ∧ u.pdu.fill = rest
               ∧ s.ordersReject u slot { o with baseDelivered := s.pdu.fill.counter, baseFault := some .limit } .baseFault)
           ∧ (s.pdu.fill.phase = .runOn → s.pdu.fill.runOnTimer.isSome = true →
             (s.pdu.fill.target + s.pdu.fill.cal.tolerance < s.pdu.fill.counter →
               ∃ u : State, exec .runOnExpiry s = .next u.settle ∧ u.pdu.fill = rest
                 ∧ s.ordersReject u slot { o with baseDelivered := s.pdu.fill.counter, baseFault := some .overrun } .baseFault)
             ∧ (s.pdu.fill.counter ≤ s.pdu.fill.target + s.pdu.fill.cal.tolerance →
               exec .runOnExpiry s = .next (State.settle
                 { s with
                   pdu := { s.pdu with fill := rest }
                   obu := { s.obu with
                     slots := s.obu.slots.set slot
                       (some { o with baseDelivered := s.pdu.fill.counter, baseFinished := true }) } }))))

/-- R145, R160, R165: the lid press: the seat delay's end lowers the head; lid-home counts while the head is down; the press width's
end gives lid home, a second try with the calibration loaded again, or a lid fault. -/
def Obligations.LidPressTriesTwice : Prop :=
  ∀ s : State,
    (∀ home, s.pdu.press.phase = .seat → s.pdu.press.seatTimer.isSome = true →
      exec (.seatTimerExpiry home) s = .next { s with
        pdu := { s.pdu with
          press := { s.pdu.press with
            phase := .press, seatTimer := none, pressTimer := some s.pdu.press.pressWidth, output := true,
            homeSeen := s.pdu.press.homeSeen || home } } })
      ∧ (s.pdu.press.phase = .press →
          exec .lidHomeOn s = .next { s with pdu := { s.pdu with press := { s.pdu.press with homeSeen := true } } })
      ∧ (s.pdu.press.phase ≠ .press → exec .lidHomeOn s = .next s)
      ∧ (s.pdu.press.phase = .press → s.pdu.press.pressTimer.isSome = true →
        (∀ slot o, s.pdu.press.homeSeen = true → s.cradleIn .lid = some slot → s.order slot = some o →
          exec .pressTimerExpiry s = .next (State.settle
            { s with
              pdu := { s.pdu with press := { s.pdu.press with phase := .idle, pressTimer := none, output := false } }
              obu := { s.obu with slots := s.obu.slots.set slot (some { o with stage := .outfeedWait }) } }))
        ∧ (s.pdu.press.homeSeen = false → s.pdu.press.tries = 1 →
          exec .pressTimerExpiry s = .next { s with
            pdu := { s.pdu with
              press := { s.pdu.press with
                phase := .seat, tries := 2, homeSeen := false, seatTimer := some s.cal.seatDelay, pressTimer := none,
                output := false, seatDelay := s.cal.seatDelay, pressWidth := s.cal.pressWidth } } })
        ∧ (∀ slot o, s.pdu.press.homeSeen = false → s.pdu.press.tries = 2 → s.cradleIn .lid = some slot →
            s.order slot = some o →
          ∃ u : State, exec .pressTimerExpiry s = .next u.settle ∧ s.ordersReject u slot o .lidFault
            ∧ u.pdu.press = { s.pdu.press with phase := .idle, pressTimer := none, output := false }))

/-- R145, R146, R148, R149, R161, R162: the ends of a pusher's pulse, of its confirm time, and of the chute's pulse. -/
def Obligations.TransfersAndChuteEnd : Prop :=
  ∀ (s : State) (p : Pusher),
    s.arrived .toOutfeed = s.pins.outfeed ∧ s.arrived .toShelf = !s.pins.outfeed
      ∧ (∀ m, s.arrived (.toMixer m) = s.occupied m)
      ∧ ((s.pusher p).phase = .pulse → (s.pusher p).pulseTimer.isSome = true →
        (s.arrived p = false → exec (.pusherPulseExpiry p) s = .next (s.modPusher p fun r =>
          { r with phase := .confirm, pulseTimer := none, confirmTimer := some r.limit, output := false }))
        ∧ (s.arrived p = true → ∃ u : State, exec (.pusherPulseExpiry p) s = .next u.settle ∧ s.transferMade u p
            ∧ u.pins = s.pins))
      ∧ ((s.pusher p).phase = .confirm → (s.pusher p).confirmTimer.isSome = true →
        ∃ u : State, exec (.confirmTimerExpiry p) s = .next u.settle ∧ (u.pusher p).phase = .idle
          ∧ (u.pusher p).output = false ∧ u.pins = s.pins
          ∧ (∀ slot o, s.cradleIn .outfeedWait = some slot → s.order slot = some o → p = .toOutfeed →
              s.ordersReject u slot o .transferFault)
          ∧ (∀ slot o, s.outfeedIn .shelf = some slot → s.order slot = some o → p = .toShelf →
              s.ordersEnd u s.blu slot o .filled .transferFault)
          ∧ (∀ slot o m g, s.transferringTo m = some slot → s.order slot = some o → o.mixGrant = some g → p = .toMixer m →
              s.ordersEnd u (s.blu.offer (.mixRelease m g.number 1) .book).1 slot o .mixIncomplete .transferFault))
      ∧ (∀ slot o r, s.pdu.chute.phase = .pulse → s.cradleIn .reject = some slot → s.order slot = some o →
          o.reason = some r →
          ∃ u : State, exec .chutePulseEnded s = .next u.settle ∧ s.ordersEnd u s.blu slot o .spoiled r
            ∧ u.pdu.chute.phase = .idle ∧ u.pdu.chute.output = false)

/-- R147, R161, R163: the outfeed sensor and the occupied inputs. A change that makes the condition of a transfer in CONFIRM hold
confirms it; the outfeed found empty in MIX WAIT ends the order, and its claim is struck or withdrawn; any other change moves the
input alone, and the book settles. That the MIX WITHDRAW goes into the list before the RUSH DROP of a token that the order holds is
the model's choice (log entry 51). -/
def Obligations.SensorsConfirmTransfers : Prop :=
  ∀ s : State,
    (s.pins.outfeed = false → s.pdu.toOutfeed.phase = .confirm →
        ∃ u : State, exec (.outfeedSensorChange true) s = .next u.settle ∧ s.transferMade u .toOutfeed
          ∧ u.pins = { s.pins with outfeed := true })
      ∧ (s.pins.outfeed = false → s.pdu.toOutfeed.phase ≠ .confirm →
          exec (.outfeedSensorChange true) s = .next (State.settle { s with pins := { s.pins with outfeed := true } }))
      ∧ (∀ slot, s.pins.outfeed = true → s.pdu.toShelf.phase = .confirm → s.outfeedIn .shelf = some slot →
          ∃ u : State, exec (.outfeedSensorChange false) s = .next u.settle ∧ s.transferMade u .toShelf
            ∧ u.pins = { s.pins with outfeed := false })
      ∧ (∀ slot o, s.pins.outfeed = true → s.pdu.toShelf.phase ≠ .confirm → s.outfeedIn .mixWait = some slot →
          s.order slot = some o →
          ∃ u : State, exec (.outfeedSensorChange false) s = .next u.settle ∧ u.pins = { s.pins with outfeed := false }
            ∧ (o.mixClaimOffered = false → s.ordersEnd u s.blu slot o .mixIncomplete .cancelled)
            ∧ (o.mixClaimOffered = true → (∃ e ∈ s.blu.list ++ s.blu.held, isMixClaim e = true) →
                s.ordersEnd u (s.blu.strike isMixClaim) slot o .mixIncomplete .cancelled)
            ∧ (o.mixClaimOffered = true → (∀ e ∈ s.blu.list ++ s.blu.held, isMixClaim e = false) →
                s.ordersEnd u (s.blu.offer .mixWithdraw .book).1 slot o .mixIncomplete .cancelled))
      ∧ (s.pins.outfeed = true → s.pdu.toShelf.phase ≠ .confirm → s.outfeedIn .mixWait = none →
          exec (.outfeedSensorChange false) s = .next (State.settle { s with pins := { s.pins with outfeed := false } }))
      ∧ (∀ m, m < 4 → s.pins.occupied.length = 4 →
          (s.occupied m = false → (s.pusher (.toMixer m)).phase = .confirm →
            ∃ u : State, exec (.occupiedInputChange m true) s = .next u.settle ∧ s.transferMade u (.toMixer m)
              ∧ u.pins = { s.pins with occupied := s.pins.occupied.set m true })
          ∧ (s.occupied m = false → (s.pusher (.toMixer m)).phase ≠ .confirm →
            exec (.occupiedInputChange m true) s = .next (State.settle
              { s with pins := { s.pins with occupied := s.pins.occupied.set m true } }))
          ∧ (s.occupied m = true →
            exec (.occupiedInputChange m false) s = .next (State.settle
              { s with pins := { s.pins with occupied := s.pins.occupied.set m false } })))

/-- R81, R148, R164: a mixer's run. The run timer's end drops the run line and arms the wait for done; the done input's fall arms it
where the input was on; its rise at an armed wait gives the mixer back as DONE and ends the order FILLED. -/
def Obligations.MixerRunEndsAtDone : Prop :=
  ∀ (s : State) (m : Nat),
    ((s.run m).phase = .running → (s.run m).runTimer.isSome = true →
      exec (.runTimerExpiry m) s = .next { s with
        pdu := { s.pdu with
          runs := s.pdu.runs.set m
            { phase := .awaitDone, runTimer := none, doneArmed := !s.doneInput m, runLine := false } } })
      ∧ (∀ slot o g, s.doneInput m = false → (s.run m).phase = .awaitDone → (s.run m).doneArmed = true →
          s.mixingOn m = some slot → s.order slot = some o → o.mixGrant = some g →
          ∃ u : State, exec (.doneInputRise m) s = .next u.settle
            ∧ u.pins = { s.pins with doneInput := s.pins.doneInput.set m true }
            ∧ (u.run m).phase = .idle ∧ (u.run m).doneArmed = false ∧ (u.run m).runLine = false
            ∧ s.ordersEnd u (s.blu.offer (.mixRelease m g.number 0) .book).1 slot o .filled .none)
      ∧ (s.doneInput m = false → ((s.run m).phase ≠ .awaitDone ∨ (s.run m).doneArmed = false) →
          exec (.doneInputRise m) s = .next { s with pins := { s.pins with doneInput := s.pins.doneInput.set m true } })
      ∧ (s.doneInput m = true → (s.run m).phase = .awaitDone →
          exec (.doneInputFall m) s = .next { s with
            pins := { s.pins with doneInput := s.pins.doneInput.set m false }
            pdu := { s.pdu with runs := s.pdu.runs.set m { s.run m with doneArmed := true } } })
      ∧ (s.doneInput m = true → (s.run m).phase ≠ .awaitDone →
          exec (.doneInputFall m) s = .next { s with pins := { s.pins with doneInput := s.pins.doneInput.set m false } })

/-- R81, R84, R85, R142, R147 (b), R148 (a), (b): a mixer granted to this station: given back unused when no order awaits one; else
the order enters MIXING, and either calls on the transfer or gives the mixer back, BLOCKED or unused, and ends or, the outfeed still
on, is in MIX WAIT again and offers a new MIX CLAIM. The tells to the order book: a token taken is the order's in BASE, else it is
offered back; a token refused, a mixer claim that waits with no order, and one discarded act as said; the others change nothing. A
take that grants a mixer to this station, as a MIXER RETURN can, starts its own timer and makes the grant.
That the mixer used stays recorded on an order whose grant is given back is the model's reading (log entry 18), and that an order
takes up a grant of an earlier claim (log entry 43), that a held MIX CLAIM bars the new one as a listed one does (log entry 8),
that a token request whose slot is freed awaits its tell as orphaned (log entry 25), that an order ended by a MIX CLAIM discarded has
its mix-claim-offered mark cleared (log entry 50), and that the RUSH DROP of the entry into MIXING goes before the MIX RELEASE of a
grant given back (log entry 51), are its choice. -/
def Obligations.MixerGrantActsByTheSensors : Prop :=
  (∀ (s : State) (m grant time : Nat),
     (s.awaitsMixer = none → s.mixerGranted m grant time = { s with blu := (s.blu.offer (.mixRelease m grant 0) .bayTable).1 })
       ∧ (∀ slot o v b, s.awaitsMixer = some slot → s.order slot = some o → b = s.blu.tokenBack s.obu.request slot →
           v = { o with
             stage := .mixing, mixerUsed := some m, mixClaimOffered := false, runRaised := false,
             mixGrant := some { number := grant, mixTime := time } } →
           (s.occupied m = false → s.pins.outfeed = true → (s.pusher (.toMixer m)).phase = .idle → m < s.pdu.toMixer.length →
             (s.mixerGranted m grant time).order slot = some v
               ∧ ((s.mixerGranted m grant time).pusher (.toMixer m)).phase = .pulse
               ∧ ((s.mixerGranted m grant time).pusher (.toMixer m)).output = true
               ∧ (s.mixerGranted m grant time).blu = b
               ∧ (s.mixerGranted m grant time).obu.request = s.obu.request.without slot)
           ∧ (s.occupied m = false → s.pins.outfeed = false →
             (∃ w, (s.mixerGranted m grant time).order slot = some w ∧ w.stage = .done ∧ w.outcome = some .mixIncomplete
               ∧ w.reason = some .cancelled ∧ w.mixerUsed = some m)
               ∧ (s.mixerGranted m grant time).blu = (b.offer (.mixRelease m grant 0) .book).1)
           ∧ (s.occupied m = true → s.pins.outfeed = false →
             (∃ w, (s.mixerGranted m grant time).order slot = some w ∧ w.stage = .done ∧ w.outcome = some .mixIncomplete
               ∧ w.reason = some .cancelled)
               ∧ (s.mixerGranted m grant time).blu = (b.offer (.mixRelease m grant 2) .book).1)
           ∧ (s.occupied m = true → s.pins.outfeed = true →
             ((s.isAttached = false ∨ ∃ e ∈ b.list ++ b.held, isMixClaim e = true) →
               (s.mixerGranted m grant time).order slot = some { v with stage := .mixWait }
                 ∧ (s.mixerGranted m grant time).blu = (b.offer (.mixRelease m grant 2) .book).1)
             ∧ (s.isAttached = true → (∀ e ∈ b.list ++ b.held, isMixClaim e = false) →
               (s.mixerGranted m grant time).order slot = some { v with stage := .mixWait, mixClaimOffered := true }
                 ∧ (s.mixerGranted m grant time).blu =
                   (Blu.offer (b.offer (.mixRelease m grant 2) .book).1 (.mixClaim o.mixTime o.priority.level 0) .book).1))))
    ∧ (∀ (s : State) (token : Rush),
         (∀ slot o, s.obu.request = .requested slot → s.order slot = some o → o.stage = .base →
           (token = .none → s.bookTell (.tokenRefused .noneFree) = { s with
             obu := { s.obu with request := .absent, slots := s.obu.slots.set slot (some { o with rushResult := .refused }) } })
           ∧ (token ≠ .none → s.bookTell (.tokenTaken token) = { s with
             obu := { s.obu with
               request := .held token slot
               slots := s.obu.slots.set slot (some { o with rushResult := if token = .a then .a else .b }) } }))
         ∧ ((s.obu.request = .orphaned ∨ ∃ slot, s.obu.request = .requested slot ∧ s.stageAt slot ≠ some .base) →
           s.bookTell (.tokenRefused .noneFree) = { s with obu := { s.obu with request := .absent } }
           ∧ (token ≠ .none → s.bookTell (.tokenTaken token) = { s with
               blu := (s.blu.offer (.rushDrop (if token = .a then 0 else 1)) .book).1
               obu := { s.obu with request := .absent } })))
    ∧ (∀ (s : State) (rush : Rush) (reason : MixDiscard) (refusal : MixRefusal) (refused : TokenRefusal) (st : MixerState),
         (s.awaitsMixer = none → s.bookTell (.mixClaimWaits rush) = { s with blu := (s.blu.offer .mixWithdraw .book).1 }
             ∧ s.bookTell (.mixClaimDiscarded reason) = s)
           ∧ (∀ slot o, s.awaitsMixer = some slot → s.order slot = some o → s.bookTell (.mixClaimWaits rush) = s
               ∧ s.ordersEnd (s.bookTell (.mixClaimDiscarded reason)) s.blu slot o .mixIncomplete .mixerFault)
           ∧ s.bookTell (.tokenRefused refused) = s.bookTell (.tokenRefused .noneFree)
           ∧ s.bookTell .tokenDropped = s ∧ s.bookTell .dropDiscarded = s ∧ s.bookTell .mixClaimWithdrawn = s
           ∧ s.bookTell .mixWithdrawDiscarded = s ∧ s.bookTell (.mixReleaseApplied st) = s ∧ s.bookTell .mixReleaseLate = s
           ∧ s.bookTell (.mixReleaseRefused refusal) = s)
    ∧ (∀ (s : State) (sender m slot : Nat) (p : Pool) (r : MixRec) (c : MixClaim) (o : Order), s.member = true →
         s.transmitting = false → s.bt.isPresent sender = true → s.bt.pool = some p → p.recs[m]? = some r → r.state = .out →
         (∀ (j : Nat) (x : MixRec), p.recs[j]? = some x → x.state ≠ .free) → p.waiting = [c] → c.station = s.me →
         16 + m < s.htb.length →
         m < s.pdu.toMixer.length → s.awaitsMixer = some slot → s.order slot = some o → s.occupied m = false →
         s.pins.outfeed = true → (s.pusher (.toMixer m)).phase = .idle →
           ∃ t u : State, exec (.mixerReturnTaken sender m) s = .next t ∧ t = u.settle
             ∧ t.timer (16 + m) = { state := .running, role := .own, holder := s.me, grant := (r.grant + 1) % 256,
                                    runTime := 1000 * (c.mixTime + s.bay.mixerMargin) }
             ∧ (u.pusher (.toMixer m)).phase = .pulse
             ∧ ∃ v, u.order slot = some v ∧ v.stage = .mixing ∧ v.mixerUsed = some m
                 ∧ v.mixGrant = some { number := (r.grant + 1) % 256, mixTime := c.mixTime })

/-- R138, R140 to R145, R147, R150, R153: what the order book makes at the end of an event, at the first event at which its conditions
hold. A cradle that is free goes to the QUEUED order not on HOLD of the highest priority, and of one priority the oldest, with the
lamp on, and a tin already there is judged. The rush order in BASE asks for a token, when the station is ATTACHED and no request
stands. The order in BASE whose base is finished and whose rush is settled passes the tint gate. Each IDLE channel, lowest first,
takes the next entry of an order in TINT that is not stopping: its plan is made and its CLAIM offered. With no channel busy with it,
the stopping order is rejected, and the one with every entry DONE goes to LID, its press started, or to OUTFEED WAIT. With the
outfeed free, the pushers out of it at rest and its sensor off, the transfer to it starts. The order in MIX WAIT offers its MIX CLAIM.
While the ticket queue holds fewer than 8, the earliest order in DONE leaves its ticket there, its slot is freed and the admission
numbers close up over it. The order of these parts within the event (log entry 9), that a held MIX CLAIM bars the new one as a listed
one does (log entry 8), that the token request of a freed slot becomes orphaned (log entry 25), and that a stopping order has its
outcome and reason written as it is rejected (log entry 39), are the model's choice. -/
def Obligations.SettleMakesWhatIsDue : Prop :=
  (∀ s : State, s.settle = State.queueTickets 8 s.claimMixer.chooseCradle.requestRush.openGate.dose.callOutfeed)
    ∧ (∀ s : State,
         (s.obu.cradle ≠ none → s.chooseCradle = s)
           ∧ ((∀ slot o, slot < 8 → s.order slot = some o → o.stage ≠ .queued ∨ o.priority = .hold) → s.chooseCradle = s)
           ∧ (s.obu.cradle = none → (∃ slot o, slot < 8 ∧ s.order slot = some o ∧ o.stage = .queued ∧ o.priority ≠ .hold) →
               ∃ (slot : Nat) (o : Order) (u : State), slot < 8 ∧ s.order slot = some o ∧ o.stage = .queued ∧ o.priority ≠ .hold
                 ∧ (∀ j x, j < 8 → s.order j = some x → x.stage = .queued → x.priority ≠ .hold →
                     x.priority.rank ≤ o.priority.rank ∧ (x.priority.rank = o.priority.rank → o.admission ≤ x.admission))
                 ∧ u = { s with
                     obu := { s.obu with cradle := some slot, slots := s.obu.slots.set slot (some { o with stage := .loading }) }
                     pdu := { s.pdu with lamp := true } }
                 ∧ (s.pdu.arrived = none → s.chooseCradle = u)
                 ∧ (∀ code, s.pdu.arrived = some code → s.chooseCradle = u.judgeTin slot code)))
    ∧ (∀ (s : State) (slot code : Nat) (o : Order), s.order slot = some o →
         (o.size ≠ code → s.judgeTin slot code =
             { s with obu := { s.obu with slots := s.obu.slots.set slot (some { o with wrongTin := true }) } })
           ∧ (o.size = code → o.base = 0 → s.judgeTin slot code =
               { s with
                 obu := { s.obu with
                   slots := s.obu.slots.set slot (some { o with stage := .base, baseFinished := true, baseDelivered := 0 }) }
                 pdu := { s.pdu with lamp := false } })
           ∧ (o.size = code → o.base ≠ 0 → s.judgeTin slot code = State.startFill
               { s with
                 obu := { s.obu with slots := s.obu.slots.set slot (some { o with stage := .base }) }
                 pdu := { s.pdu with lamp := false } } o.base))
    ∧ (∀ s : State,
         (s.cradleIn .base = none → s.requestRush = s ∧ s.openGate = s)
           ∧ (∀ slot o, s.cradleIn .base = some slot → s.order slot = some o →
               ((o.rush = true ∧ o.rushResult = .pending ∧ s.obu.request = .absent ∧ s.isAttached = true) →
                 s.requestRush = { s with
                   blu := (s.blu.offer (.rushTake o.tag) .book).1
                   obu := { s.obu with request := .requested slot } })
               ∧ ((o.rush = false ∨ o.rushResult ≠ .pending ∨ s.obu.request ≠ .absent ∨ s.isAttached = false) →
                 s.requestRush = s)
               ∧ ((o.baseFinished = true ∧ s.isAttached = true ∧ o.rushResult ≠ .pending) → s.openGate =
                 { s with obu := { s.obu with slots := s.obu.slots.set slot (some { o with stage := .tint }) } })
               ∧ ((o.baseFinished = false ∨ s.isAttached = false ∨ o.rushResult = .pending) → s.openGate = s)))
    ∧ (∀ s : State,
         (s.cradleIn .tint = none → s.dose = s)
           ∧ (∀ slot, s.cradleIn .tint = some slot →
               s.dose = State.endTint ((((s.handNext slot).handNext slot).handNext slot).handNext slot) slot)
           ∧ (∀ slot o, s.order slot = some o →
               ((o.stage ≠ .tint ∨ o.stopping ≠ none ∨ s.isAttached = false ∨ o.entries.length ≤ o.handed
                   ∨ ∀ c ∈ s.dcs, c.state ≠ .idle) → s.handNext slot = s)
               ∧ (∀ (k : Nat) (e : DoseEntry) (u : State), o.stage = .tint → o.stopping = none → s.isAttached = true →
                   k < s.dcs.length → k < s.mps.length → (s.dc k).state = .idle → (∀ j, j < k → (s.dc j).state ≠ .idle) →
                   o.entries[o.handed]? = some e →
                   u = { s with
                     obu := { s.obu with slots := s.obu.slots.set slot (some { o with handed := o.handed + 1 }) }
                     dcs := s.dcs.set k
                       { Channel.idle with line := e.line, slot := slot, entry := o.handed, ordered := e.drops, mode := e.mode }
                     mps := s.mps.set k { s.mp k with bound := some e.line, counter := 0, overflow := false } } →
                   s.handNext slot = u.offerClaim k .claiming)))
    ∧ (∀ (s : State) (slot : Nat) (o : Order), s.order slot = some o →
         ((o.stage ≠ .tint ∨ ∃ k, k < 4 ∧ (s.dc k).state ≠ .idle ∧ (s.dc k).slot = slot) → s.endTint slot = s)
           ∧ (o.stage = .tint → (∀ k, k < 4 → (s.dc k).state = .idle ∨ (s.dc k).slot ≠ slot) →
               (∀ r, o.stopping = some r → s.ordersReject (s.endTint slot) slot o r)
               ∧ (o.stopping = none → (∃ r ∈ o.results, r.outcome ≠ .done) → s.endTint slot = s)
               ∧ (o.stopping = none → (∀ r ∈ o.results, r.outcome = .done) →
                   (s.endTint slot).blu = (if o.mixTime = 0 then s.blu.tokenBack s.obu.request slot else s.blu)
                   ∧ (s.endTint slot).obu.request = (if o.mixTime = 0 then s.obu.request.without slot else s.obu.request)
                   ∧ (o.lid = false → (s.endTint slot).order slot = some { o with stage := .outfeedWait }
                       ∧ (s.endTint slot).pdu = s.pdu)
                   ∧ (o.lid = true → (s.endTint slot).order slot = some { o with stage := .lid }
                       ∧ (s.pdu.press.phase = .idle → (s.endTint slot).pdu.press =
                           { s.pdu.press with
                             phase := .seat, tries := 1, homeSeen := false, seatTimer := some s.cal.seatDelay,
                             seatDelay := s.cal.seatDelay, pressWidth := s.cal.pressWidth })))))
    ∧ (∀ s : State,
         (s.cradleIn .outfeedWait = none → s.callOutfeed = s)
           ∧ ((s.obu.outfeed ≠ none ∨ s.pins.outfeed = true ∨ s.pdu.toShelf.phase ≠ .idle ∨ (∃ r ∈ s.pdu.toMixer, r.phase ≠ .idle)
               ∨ s.pdu.toOutfeed.phase ≠ .idle) → s.callOutfeed = s)
           ∧ (∀ slot, s.cradleIn .outfeedWait = some slot → s.obu.outfeed = none → s.pins.outfeed = false →
               s.pdu.toShelf.phase = .idle → (∀ r ∈ s.pdu.toMixer, r.phase = .idle) → s.pdu.toOutfeed.phase = .idle →
               s.callOutfeed = { s with
                 pdu := { s.pdu with
                   toOutfeed := { phase := .pulse, pulseTimer := some s.cal.transferPulse, confirmTimer := none, output := true,
                                  limit := s.cal.transferLimit } } }))
    ∧ (∀ s : State,
         (s.outfeedIn .mixWait = none → s.claimMixer = s)
           ∧ (∀ slot o n, s.outfeedIn .mixWait = some slot → s.order slot = some o →
               n = .mixClaim o.mixTime o.priority.level (rushCode (s.obu.rushOf slot)) →
               ((s.isAttached = false ∨ o.mixClaimOffered = true ∨ (s.blu.list ++ s.blu.held).any (clashes n) = true) →
                 s.claimMixer = s)
               ∧ (s.isAttached = true → o.mixClaimOffered = false → (s.blu.list ++ s.blu.held).any (clashes n) = false →
                 s.claimMixer = { s with
                   blu := (s.blu.offer n .book).1
                   obu := { s.obu with slots := s.obu.slots.set slot (some { o with mixClaimOffered := true }) } })))
    ∧ (∀ (s : State) (n : Nat),
         ((s.obu.doneOrder = [] ∨ 8 ≤ s.tlu.tickets.length) → State.queueTickets n s = s)
           ∧ (∀ (slot : Nat) (rest : List Nat) (o : Order) (k : Ticket), s.obu.doneOrder = slot :: rest →
               s.tlu.tickets.length < 8 → s.order slot = some o →
               k = { tag := o.tag, outcome := o.outcome.getD .spoiled, reason := o.reason.getD .none,
                     baseDelivered := o.baseDelivered, entries := o.results.map EntryResult.delivered, mixerUsed := o.mixerUsed,
                     rushResult := if o.rushResult = .pending then .notAsked else o.rushResult } →
               State.queueTickets (n + 1) s = State.queueTickets n
                 { s with
                   obu := { s.obu with
                     slots := (s.obu.slots.set slot none).map (Option.map fun x =>
                       if o.admission < x.admission then { x with admission := x.admission - 1 } else x)
                     request := if s.obu.request = .requested slot then .orphaned else s.obu.request
                     doneOrder := rest }
                   tlu := { s.tlu with tickets := s.tlu.tickets ++ [k], attention := true } }))


/-! ### Laws that every step keeps -/

/-- R103, R121, R123, R134: channels and pairs agree, every pair is as its phase says, and a tap valve is open only for a channel
that is SHOOTING in a bay: whatever command comes. -/
def Obligations.DosingLawKept : Prop :=
  ∀ s t : State, s.dosingLawful = true → (∀ p ∈ s.mps, p.lawful = true) → step s = .next t →
    t.dosingLawful = true ∧ (∀ p ∈ t.mps, p.lawful = true)
      ∧ ∀ n, t.tapValve n = true → t.ssl.state = .attached ∧ ∃ k, k < 4 ∧ (t.mp k).bound = some n ∧ (t.mp k).phase = .opened
          ∧ (t.dc k).state = .shooting

/-- R15, R16: the outgoing list keeps its limits, its order and its one claim of a kind: whatever command comes. -/
def Obligations.OutgoingListLawKept : Prop :=
  ∀ s t : State, s.blu.lawful = true → step s = .next t → t.blu.lawful = true

/-- R168, R172, R173: the ticket queue holds at most 8, attention is raised exactly while a ticket waits or the flag is set, and no
reply is pending at an IDLE transmitter: whatever command comes. -/
def Obligations.TerminalLinkLawKept : Prop :=
  ∀ s t : State, s.tlu.lawful = true → step s = .next t → t.tlu.lawful = true

/-- R138: the admission numbers of the live orders are 0 to (live orders − 1), each used once, and no tag appears twice among live
orders and queued tickets: whatever command comes. -/
def Obligations.OrderBookLawKept : Prop :=
  ∀ s t : State, s.obu.numbered = true → s.tagsDistinct = true → step s = .next t →
    t.obu.numbered = true ∧ t.tagsDistinct = true

/-- R26, R31, R87, R103, R123, R138, R161, R164: how many records of each kind there are, while the queued commands are well formed. -/
def Obligations.ShapeKept : Prop :=
  ∀ s t : State, s.shaped = true → s.queueWellFormed = true → step s = .next t → t.shaped = true ∧ t.queueWellFormed = true

/-- The laws hold of the controller right after reset. -/
def Obligations.LawsHoldAtReset : Prop :=
  State.reset.dosingLawful = true ∧ (∀ p ∈ State.reset.mps, p.lawful = true) ∧ State.reset.blu.lawful = true
    ∧ State.reset.tlu.lawful = true ∧ State.reset.obu.numbered = true ∧ State.reset.tagsDistinct = true
    ∧ State.reset.shaped = true ∧ State.reset.queueWellFormed = true

/-! ### The byte layouts (R175 to R178) -/

/-- R3, R8, R175, R176, R178: a well-formed notice, laid out and stuffed by its sender, is heard without fault by a listener, and its
kind and payload read back give the notice, with every field at every value it admits. -/
def Obligations.NoticesReadBackAsSent : Prop :=
  ∀ (n : Notice) (station mixersEquipped : Nat), n.wellFormed = true → station < 16 →
    (∀ j recs waiting, n = .image j (.mixers recs waiting) → recs.length = mixersEquipped) →
      noticeOf mixersEquipped (noticeKind n) (noticePayload n) = some n ∧ noticeLengthOk (noticeKind n) (noticePayload n) = true
        ∧ (∀ b ∈ noticePayload n, b < 256) ∧ receptionFaulty (noticeBits station n) = false

/-- R167, R169, R176, R177: a well-formed terminal command, laid out in a frame, arrives at a receiver that is HUNTING, and its kind
and payload read back give the command. -/
def Obligations.CommandsReadBackFromTheirFrames : Prop :=
  ∀ c : Instr, c.wellFormed = true → commandKind c ≠ 0 →
    commandOf (commandKind c) (commandPayload c) = some c ∧ commandLengthOk (commandKind c) (commandPayload c) = true
      ∧ (∀ b ∈ commandPayload c, b < 256) ∧ (commandPayload c).length ≤ 250
      ∧ framesIn .hunting
          ((frameBytes (commandKind c) (commandPayload c)).map fun v => { value := v, stopBit := true }) =
            [(commandKind c, commandPayload c)]
end

