-- ==== Sys2Proof/Laws/State.lean ====
section
/-! SUPPORT. One lemma for each field under each named update, true by rfl, so that no proof unfolds a record update. -/

namespace Sys2Proof.Machine

/-! `State.modDc` -/

@[simp] theorem State.modDc_setup (s : State) (k : Nat) (f : Channel → Channel) : (s.modDc k f).setup = s.setup := rfl
@[simp] theorem State.modDc_ssl (s : State) (k : Nat) (f : Channel → Channel) : (s.modDc k f).ssl = s.ssl := rfl
@[simp] theorem State.modDc_blu (s : State) (k : Nat) (f : Channel → Channel) : (s.modDc k f).blu = s.blu := rfl
@[simp] theorem State.modDc_bt (s : State) (k : Nat) (f : Channel → Channel) : (s.modDc k f).bt = s.bt := rfl
@[simp] theorem State.modDc_htb (s : State) (k : Nat) (f : Channel → Channel) : (s.modDc k f).htb = s.htb := rfl
@[simp] theorem State.modDc_dcs (s : State) (k : Nat) (f : Channel → Channel) : (s.modDc k f).dcs = s.dcs.modify k f := rfl
@[simp] theorem State.modDc_mps (s : State) (k : Nat) (f : Channel → Channel) : (s.modDc k f).mps = s.mps := rfl
@[simp] theorem State.modDc_obu (s : State) (k : Nat) (f : Channel → Channel) : (s.modDc k f).obu = s.obu := rfl
@[simp] theorem State.modDc_pdu (s : State) (k : Nat) (f : Channel → Channel) : (s.modDc k f).pdu = s.pdu := rfl
@[simp] theorem State.modDc_tlu (s : State) (k : Nat) (f : Channel → Channel) : (s.modDc k f).tlu = s.tlu := rfl
@[simp] theorem State.modDc_pins (s : State) (k : Nat) (f : Channel → Channel) : (s.modDc k f).pins = s.pins := rfl
@[simp] theorem State.modDc_pending (s : State) (k : Nat) (f : Channel → Channel) : (s.modDc k f).pending = s.pending := rfl

/-! `State.modMp` -/

@[simp] theorem State.modMp_setup (s : State) (k : Nat) (f : Pair → Pair) : (s.modMp k f).setup = s.setup := rfl
@[simp] theorem State.modMp_ssl (s : State) (k : Nat) (f : Pair → Pair) : (s.modMp k f).ssl = s.ssl := rfl
@[simp] theorem State.modMp_blu (s : State) (k : Nat) (f : Pair → Pair) : (s.modMp k f).blu = s.blu := rfl
@[simp] theorem State.modMp_bt (s : State) (k : Nat) (f : Pair → Pair) : (s.modMp k f).bt = s.bt := rfl
@[simp] theorem State.modMp_htb (s : State) (k : Nat) (f : Pair → Pair) : (s.modMp k f).htb = s.htb := rfl
@[simp] theorem State.modMp_dcs (s : State) (k : Nat) (f : Pair → Pair) : (s.modMp k f).dcs = s.dcs := rfl
@[simp] theorem State.modMp_mps (s : State) (k : Nat) (f : Pair → Pair) : (s.modMp k f).mps = s.mps.modify k f := rfl
@[simp] theorem State.modMp_obu (s : State) (k : Nat) (f : Pair → Pair) : (s.modMp k f).obu = s.obu := rfl
@[simp] theorem State.modMp_pdu (s : State) (k : Nat) (f : Pair → Pair) : (s.modMp k f).pdu = s.pdu := rfl
@[simp] theorem State.modMp_tlu (s : State) (k : Nat) (f : Pair → Pair) : (s.modMp k f).tlu = s.tlu := rfl
@[simp] theorem State.modMp_pins (s : State) (k : Nat) (f : Pair → Pair) : (s.modMp k f).pins = s.pins := rfl
@[simp] theorem State.modMp_pending (s : State) (k : Nat) (f : Pair → Pair) : (s.modMp k f).pending = s.pending := rfl

/-! `State.modTimer` -/

@[simp] theorem State.modTimer_setup (s : State) (i : Nat) (f : HoldTimer → HoldTimer) : (s.modTimer i f).setup = s.setup := rfl
@[simp] theorem State.modTimer_ssl (s : State) (i : Nat) (f : HoldTimer → HoldTimer) : (s.modTimer i f).ssl = s.ssl := rfl
@[simp] theorem State.modTimer_blu (s : State) (i : Nat) (f : HoldTimer → HoldTimer) : (s.modTimer i f).blu = s.blu := rfl
@[simp] theorem State.modTimer_bt (s : State) (i : Nat) (f : HoldTimer → HoldTimer) : (s.modTimer i f).bt = s.bt := rfl
@[simp] theorem State.modTimer_htb (s : State) (i : Nat) (f : HoldTimer → HoldTimer) : (s.modTimer i f).htb = s.htb.modify i f := rfl
@[simp] theorem State.modTimer_dcs (s : State) (i : Nat) (f : HoldTimer → HoldTimer) : (s.modTimer i f).dcs = s.dcs := rfl
@[simp] theorem State.modTimer_mps (s : State) (i : Nat) (f : HoldTimer → HoldTimer) : (s.modTimer i f).mps = s.mps := rfl
@[simp] theorem State.modTimer_obu (s : State) (i : Nat) (f : HoldTimer → HoldTimer) : (s.modTimer i f).obu = s.obu := rfl
@[simp] theorem State.modTimer_pdu (s : State) (i : Nat) (f : HoldTimer → HoldTimer) : (s.modTimer i f).pdu = s.pdu := rfl
@[simp] theorem State.modTimer_tlu (s : State) (i : Nat) (f : HoldTimer → HoldTimer) : (s.modTimer i f).tlu = s.tlu := rfl
@[simp] theorem State.modTimer_pins (s : State) (i : Nat) (f : HoldTimer → HoldTimer) : (s.modTimer i f).pins = s.pins := rfl
@[simp] theorem State.modTimer_pending (s : State) (i : Nat) (f : HoldTimer → HoldTimer) : (s.modTimer i f).pending = s.pending := rfl

/-! `State.modBlu` -/

@[simp] theorem State.modBlu_setup (s : State) (f : Blu → Blu) : (s.modBlu f).setup = s.setup := rfl
@[simp] theorem State.modBlu_ssl (s : State) (f : Blu → Blu) : (s.modBlu f).ssl = s.ssl := rfl
@[simp] theorem State.modBlu_blu (s : State) (f : Blu → Blu) : (s.modBlu f).blu = f s.blu := rfl
@[simp] theorem State.modBlu_bt (s : State) (f : Blu → Blu) : (s.modBlu f).bt = s.bt := rfl
@[simp] theorem State.modBlu_htb (s : State) (f : Blu → Blu) : (s.modBlu f).htb = s.htb := rfl
@[simp] theorem State.modBlu_dcs (s : State) (f : Blu → Blu) : (s.modBlu f).dcs = s.dcs := rfl
@[simp] theorem State.modBlu_mps (s : State) (f : Blu → Blu) : (s.modBlu f).mps = s.mps := rfl
@[simp] theorem State.modBlu_obu (s : State) (f : Blu → Blu) : (s.modBlu f).obu = s.obu := rfl
@[simp] theorem State.modBlu_pdu (s : State) (f : Blu → Blu) : (s.modBlu f).pdu = s.pdu := rfl
@[simp] theorem State.modBlu_tlu (s : State) (f : Blu → Blu) : (s.modBlu f).tlu = s.tlu := rfl
@[simp] theorem State.modBlu_pins (s : State) (f : Blu → Blu) : (s.modBlu f).pins = s.pins := rfl
@[simp] theorem State.modBlu_pending (s : State) (f : Blu → Blu) : (s.modBlu f).pending = s.pending := rfl

/-! `State.modBt` -/

@[simp] theorem State.modBt_setup (s : State) (f : Table → Table) : (s.modBt f).setup = s.setup := rfl
@[simp] theorem State.modBt_ssl (s : State) (f : Table → Table) : (s.modBt f).ssl = s.ssl := rfl
@[simp] theorem State.modBt_blu (s : State) (f : Table → Table) : (s.modBt f).blu = s.blu := rfl
@[simp] theorem State.modBt_bt (s : State) (f : Table → Table) : (s.modBt f).bt = f s.bt := rfl
@[simp] theorem State.modBt_htb (s : State) (f : Table → Table) : (s.modBt f).htb = s.htb := rfl
@[simp] theorem State.modBt_dcs (s : State) (f : Table → Table) : (s.modBt f).dcs = s.dcs := rfl
@[simp] theorem State.modBt_mps (s : State) (f : Table → Table) : (s.modBt f).mps = s.mps := rfl
@[simp] theorem State.modBt_obu (s : State) (f : Table → Table) : (s.modBt f).obu = s.obu := rfl
@[simp] theorem State.modBt_pdu (s : State) (f : Table → Table) : (s.modBt f).pdu = s.pdu := rfl
@[simp] theorem State.modBt_tlu (s : State) (f : Table → Table) : (s.modBt f).tlu = s.tlu := rfl
@[simp] theorem State.modBt_pins (s : State) (f : Table → Table) : (s.modBt f).pins = s.pins := rfl
@[simp] theorem State.modBt_pending (s : State) (f : Table → Table) : (s.modBt f).pending = s.pending := rfl

/-! `State.modSsl` -/

@[simp] theorem State.modSsl_setup (s : State) (f : Ssl → Ssl) : (s.modSsl f).setup = s.setup := rfl
@[simp] theorem State.modSsl_ssl (s : State) (f : Ssl → Ssl) : (s.modSsl f).ssl = f s.ssl := rfl
@[simp] theorem State.modSsl_blu (s : State) (f : Ssl → Ssl) : (s.modSsl f).blu = s.blu := rfl
@[simp] theorem State.modSsl_bt (s : State) (f : Ssl → Ssl) : (s.modSsl f).bt = s.bt := rfl
@[simp] theorem State.modSsl_htb (s : State) (f : Ssl → Ssl) : (s.modSsl f).htb = s.htb := rfl
@[simp] theorem State.modSsl_dcs (s : State) (f : Ssl → Ssl) : (s.modSsl f).dcs = s.dcs := rfl
@[simp] theorem State.modSsl_mps (s : State) (f : Ssl → Ssl) : (s.modSsl f).mps = s.mps := rfl
@[simp] theorem State.modSsl_obu (s : State) (f : Ssl → Ssl) : (s.modSsl f).obu = s.obu := rfl
@[simp] theorem State.modSsl_pdu (s : State) (f : Ssl → Ssl) : (s.modSsl f).pdu = s.pdu := rfl
@[simp] theorem State.modSsl_tlu (s : State) (f : Ssl → Ssl) : (s.modSsl f).tlu = s.tlu := rfl
@[simp] theorem State.modSsl_pins (s : State) (f : Ssl → Ssl) : (s.modSsl f).pins = s.pins := rfl
@[simp] theorem State.modSsl_pending (s : State) (f : Ssl → Ssl) : (s.modSsl f).pending = s.pending := rfl

/-! `State.modBook` -/

@[simp] theorem State.modBook_setup (s : State) (f : Book → Book) : (s.modBook f).setup = s.setup := rfl
@[simp] theorem State.modBook_ssl (s : State) (f : Book → Book) : (s.modBook f).ssl = s.ssl := rfl
@[simp] theorem State.modBook_blu (s : State) (f : Book → Book) : (s.modBook f).blu = s.blu := rfl
@[simp] theorem State.modBook_bt (s : State) (f : Book → Book) : (s.modBook f).bt = s.bt := rfl
@[simp] theorem State.modBook_htb (s : State) (f : Book → Book) : (s.modBook f).htb = s.htb := rfl
@[simp] theorem State.modBook_dcs (s : State) (f : Book → Book) : (s.modBook f).dcs = s.dcs := rfl
@[simp] theorem State.modBook_mps (s : State) (f : Book → Book) : (s.modBook f).mps = s.mps := rfl
@[simp] theorem State.modBook_obu (s : State) (f : Book → Book) : (s.modBook f).obu = f s.obu := rfl
@[simp] theorem State.modBook_pdu (s : State) (f : Book → Book) : (s.modBook f).pdu = s.pdu := rfl
@[simp] theorem State.modBook_tlu (s : State) (f : Book → Book) : (s.modBook f).tlu = s.tlu := rfl
@[simp] theorem State.modBook_pins (s : State) (f : Book → Book) : (s.modBook f).pins = s.pins := rfl
@[simp] theorem State.modBook_pending (s : State) (f : Book → Book) : (s.modBook f).pending = s.pending := rfl

/-! `State.modOrder` -/

@[simp] theorem State.modOrder_setup (s : State) (slot : Nat) (f : Order → Order) : (s.modOrder slot f).setup = s.setup := rfl
@[simp] theorem State.modOrder_ssl (s : State) (slot : Nat) (f : Order → Order) : (s.modOrder slot f).ssl = s.ssl := rfl
@[simp] theorem State.modOrder_blu (s : State) (slot : Nat) (f : Order → Order) : (s.modOrder slot f).blu = s.blu := rfl
@[simp] theorem State.modOrder_bt (s : State) (slot : Nat) (f : Order → Order) : (s.modOrder slot f).bt = s.bt := rfl
@[simp] theorem State.modOrder_htb (s : State) (slot : Nat) (f : Order → Order) : (s.modOrder slot f).htb = s.htb := rfl
@[simp] theorem State.modOrder_dcs (s : State) (slot : Nat) (f : Order → Order) : (s.modOrder slot f).dcs = s.dcs := rfl
@[simp] theorem State.modOrder_mps (s : State) (slot : Nat) (f : Order → Order) : (s.modOrder slot f).mps = s.mps := rfl
@[simp] theorem State.modOrder_obu (s : State) (slot : Nat) (f : Order → Order) : (s.modOrder slot f).obu = { s.obu with slots := s.obu.slots.modify slot (Option.map f) } := rfl
@[simp] theorem State.modOrder_pdu (s : State) (slot : Nat) (f : Order → Order) : (s.modOrder slot f).pdu = s.pdu := rfl
@[simp] theorem State.modOrder_tlu (s : State) (slot : Nat) (f : Order → Order) : (s.modOrder slot f).tlu = s.tlu := rfl
@[simp] theorem State.modOrder_pins (s : State) (slot : Nat) (f : Order → Order) : (s.modOrder slot f).pins = s.pins := rfl
@[simp] theorem State.modOrder_pending (s : State) (slot : Nat) (f : Order → Order) : (s.modOrder slot f).pending = s.pending := rfl

/-! `State.modPdu` -/

@[simp] theorem State.modPdu_setup (s : State) (f : Pdu → Pdu) : (s.modPdu f).setup = s.setup := rfl
@[simp] theorem State.modPdu_ssl (s : State) (f : Pdu → Pdu) : (s.modPdu f).ssl = s.ssl := rfl
@[simp] theorem State.modPdu_blu (s : State) (f : Pdu → Pdu) : (s.modPdu f).blu = s.blu := rfl
@[simp] theorem State.modPdu_bt (s : State) (f : Pdu → Pdu) : (s.modPdu f).bt = s.bt := rfl
@[simp] theorem State.modPdu_htb (s : State) (f : Pdu → Pdu) : (s.modPdu f).htb = s.htb := rfl
@[simp] theorem State.modPdu_dcs (s : State) (f : Pdu → Pdu) : (s.modPdu f).dcs = s.dcs := rfl
@[simp] theorem State.modPdu_mps (s : State) (f : Pdu → Pdu) : (s.modPdu f).mps = s.mps := rfl
@[simp] theorem State.modPdu_obu (s : State) (f : Pdu → Pdu) : (s.modPdu f).obu = s.obu := rfl
@[simp] theorem State.modPdu_pdu (s : State) (f : Pdu → Pdu) : (s.modPdu f).pdu = f s.pdu := rfl
@[simp] theorem State.modPdu_tlu (s : State) (f : Pdu → Pdu) : (s.modPdu f).tlu = s.tlu := rfl
@[simp] theorem State.modPdu_pins (s : State) (f : Pdu → Pdu) : (s.modPdu f).pins = s.pins := rfl
@[simp] theorem State.modPdu_pending (s : State) (f : Pdu → Pdu) : (s.modPdu f).pending = s.pending := rfl

/-! `State.modTlu` -/

@[simp] theorem State.modTlu_setup (s : State) (f : Tlu → Tlu) : (s.modTlu f).setup = s.setup := rfl
@[simp] theorem State.modTlu_ssl (s : State) (f : Tlu → Tlu) : (s.modTlu f).ssl = s.ssl := rfl
@[simp] theorem State.modTlu_blu (s : State) (f : Tlu → Tlu) : (s.modTlu f).blu = s.blu := rfl
@[simp] theorem State.modTlu_bt (s : State) (f : Tlu → Tlu) : (s.modTlu f).bt = s.bt := rfl
@[simp] theorem State.modTlu_htb (s : State) (f : Tlu → Tlu) : (s.modTlu f).htb = s.htb := rfl
@[simp] theorem State.modTlu_dcs (s : State) (f : Tlu → Tlu) : (s.modTlu f).dcs = s.dcs := rfl
@[simp] theorem State.modTlu_mps (s : State) (f : Tlu → Tlu) : (s.modTlu f).mps = s.mps := rfl
@[simp] theorem State.modTlu_obu (s : State) (f : Tlu → Tlu) : (s.modTlu f).obu = s.obu := rfl
@[simp] theorem State.modTlu_pdu (s : State) (f : Tlu → Tlu) : (s.modTlu f).pdu = s.pdu := rfl
@[simp] theorem State.modTlu_tlu (s : State) (f : Tlu → Tlu) : (s.modTlu f).tlu = f s.tlu := rfl
@[simp] theorem State.modTlu_pins (s : State) (f : Tlu → Tlu) : (s.modTlu f).pins = s.pins := rfl
@[simp] theorem State.modTlu_pending (s : State) (f : Tlu → Tlu) : (s.modTlu f).pending = s.pending := rfl

/-! `State.modRun` -/

@[simp] theorem State.modRun_setup (s : State) (m : Nat) (f : RunRec → RunRec) : (s.modRun m f).setup = s.setup := rfl
@[simp] theorem State.modRun_ssl (s : State) (m : Nat) (f : RunRec → RunRec) : (s.modRun m f).ssl = s.ssl := rfl
@[simp] theorem State.modRun_blu (s : State) (m : Nat) (f : RunRec → RunRec) : (s.modRun m f).blu = s.blu := rfl
@[simp] theorem State.modRun_bt (s : State) (m : Nat) (f : RunRec → RunRec) : (s.modRun m f).bt = s.bt := rfl
@[simp] theorem State.modRun_htb (s : State) (m : Nat) (f : RunRec → RunRec) : (s.modRun m f).htb = s.htb := rfl
@[simp] theorem State.modRun_dcs (s : State) (m : Nat) (f : RunRec → RunRec) : (s.modRun m f).dcs = s.dcs := rfl
@[simp] theorem State.modRun_mps (s : State) (m : Nat) (f : RunRec → RunRec) : (s.modRun m f).mps = s.mps := rfl
@[simp] theorem State.modRun_obu (s : State) (m : Nat) (f : RunRec → RunRec) : (s.modRun m f).obu = s.obu := rfl
@[simp] theorem State.modRun_pdu (s : State) (m : Nat) (f : RunRec → RunRec) : (s.modRun m f).pdu = { s.pdu with runs := s.pdu.runs.modify m f } := rfl
@[simp] theorem State.modRun_tlu (s : State) (m : Nat) (f : RunRec → RunRec) : (s.modRun m f).tlu = s.tlu := rfl
@[simp] theorem State.modRun_pins (s : State) (m : Nat) (f : RunRec → RunRec) : (s.modRun m f).pins = s.pins := rfl
@[simp] theorem State.modRun_pending (s : State) (m : Nat) (f : RunRec → RunRec) : (s.modRun m f).pending = s.pending := rfl

/-! `State.modFill` -/

@[simp] theorem State.modFill_setup (s : State) (f : Fill → Fill) : (s.modFill f).setup = s.setup := rfl
@[simp] theorem State.modFill_ssl (s : State) (f : Fill → Fill) : (s.modFill f).ssl = s.ssl := rfl
@[simp] theorem State.modFill_blu (s : State) (f : Fill → Fill) : (s.modFill f).blu = s.blu := rfl
@[simp] theorem State.modFill_bt (s : State) (f : Fill → Fill) : (s.modFill f).bt = s.bt := rfl
@[simp] theorem State.modFill_htb (s : State) (f : Fill → Fill) : (s.modFill f).htb = s.htb := rfl
@[simp] theorem State.modFill_dcs (s : State) (f : Fill → Fill) : (s.modFill f).dcs = s.dcs := rfl
@[simp] theorem State.modFill_mps (s : State) (f : Fill → Fill) : (s.modFill f).mps = s.mps := rfl
@[simp] theorem State.modFill_obu (s : State) (f : Fill → Fill) : (s.modFill f).obu = s.obu := rfl
@[simp] theorem State.modFill_pdu (s : State) (f : Fill → Fill) : (s.modFill f).pdu = { s.pdu with fill := f s.pdu.fill } := rfl
@[simp] theorem State.modFill_tlu (s : State) (f : Fill → Fill) : (s.modFill f).tlu = s.tlu := rfl
@[simp] theorem State.modFill_pins (s : State) (f : Fill → Fill) : (s.modFill f).pins = s.pins := rfl
@[simp] theorem State.modFill_pending (s : State) (f : Fill → Fill) : (s.modFill f).pending = s.pending := rfl

/-! `State.modPress` -/

@[simp] theorem State.modPress_setup (s : State) (f : Press → Press) : (s.modPress f).setup = s.setup := rfl
@[simp] theorem State.modPress_ssl (s : State) (f : Press → Press) : (s.modPress f).ssl = s.ssl := rfl
@[simp] theorem State.modPress_blu (s : State) (f : Press → Press) : (s.modPress f).blu = s.blu := rfl
@[simp] theorem State.modPress_bt (s : State) (f : Press → Press) : (s.modPress f).bt = s.bt := rfl
@[simp] theorem State.modPress_htb (s : State) (f : Press → Press) : (s.modPress f).htb = s.htb := rfl
@[simp] theorem State.modPress_dcs (s : State) (f : Press → Press) : (s.modPress f).dcs = s.dcs := rfl
@[simp] theorem State.modPress_mps (s : State) (f : Press → Press) : (s.modPress f).mps = s.mps := rfl
@[simp] theorem State.modPress_obu (s : State) (f : Press → Press) : (s.modPress f).obu = s.obu := rfl
@[simp] theorem State.modPress_pdu (s : State) (f : Press → Press) : (s.modPress f).pdu = { s.pdu with press := f s.pdu.press } := rfl
@[simp] theorem State.modPress_tlu (s : State) (f : Press → Press) : (s.modPress f).tlu = s.tlu := rfl
@[simp] theorem State.modPress_pins (s : State) (f : Press → Press) : (s.modPress f).pins = s.pins := rfl
@[simp] theorem State.modPress_pending (s : State) (f : Press → Press) : (s.modPress f).pending = s.pending := rfl

/-! `State.offer` -/

@[simp] theorem State.offer_setup (s : State) (n : Notice) (o : Owner) : (s.offer n o).setup = s.setup := rfl
@[simp] theorem State.offer_ssl (s : State) (n : Notice) (o : Owner) : (s.offer n o).ssl = s.ssl := rfl
@[simp] theorem State.offer_blu (s : State) (n : Notice) (o : Owner) : (s.offer n o).blu = (s.blu.offer n o).1 := rfl
@[simp] theorem State.offer_bt (s : State) (n : Notice) (o : Owner) : (s.offer n o).bt = s.bt := rfl
@[simp] theorem State.offer_htb (s : State) (n : Notice) (o : Owner) : (s.offer n o).htb = s.htb := rfl
@[simp] theorem State.offer_dcs (s : State) (n : Notice) (o : Owner) : (s.offer n o).dcs = s.dcs := rfl
@[simp] theorem State.offer_mps (s : State) (n : Notice) (o : Owner) : (s.offer n o).mps = s.mps := rfl
@[simp] theorem State.offer_obu (s : State) (n : Notice) (o : Owner) : (s.offer n o).obu = s.obu := rfl
@[simp] theorem State.offer_pdu (s : State) (n : Notice) (o : Owner) : (s.offer n o).pdu = s.pdu := rfl
@[simp] theorem State.offer_tlu (s : State) (n : Notice) (o : Owner) : (s.offer n o).tlu = s.tlu := rfl
@[simp] theorem State.offer_pins (s : State) (n : Notice) (o : Owner) : (s.offer n o).pins = s.pins := rfl
@[simp] theorem State.offer_pending (s : State) (n : Notice) (o : Owner) : (s.offer n o).pending = s.pending := rfl

/-! `State.strike` -/

@[simp] theorem State.strike_setup (s : State) (p : Entry → Bool) : (s.strike p).setup = s.setup := rfl
@[simp] theorem State.strike_ssl (s : State) (p : Entry → Bool) : (s.strike p).ssl = s.ssl := rfl
@[simp] theorem State.strike_blu (s : State) (p : Entry → Bool) : (s.strike p).blu = s.blu.strike p := rfl
@[simp] theorem State.strike_bt (s : State) (p : Entry → Bool) : (s.strike p).bt = s.bt := rfl
@[simp] theorem State.strike_htb (s : State) (p : Entry → Bool) : (s.strike p).htb = s.htb := rfl
@[simp] theorem State.strike_dcs (s : State) (p : Entry → Bool) : (s.strike p).dcs = s.dcs := rfl
@[simp] theorem State.strike_mps (s : State) (p : Entry → Bool) : (s.strike p).mps = s.mps := rfl
@[simp] theorem State.strike_obu (s : State) (p : Entry → Bool) : (s.strike p).obu = s.obu := rfl
@[simp] theorem State.strike_pdu (s : State) (p : Entry → Bool) : (s.strike p).pdu = s.pdu := rfl
@[simp] theorem State.strike_tlu (s : State) (p : Entry → Bool) : (s.strike p).tlu = s.tlu := rfl
@[simp] theorem State.strike_pins (s : State) (p : Entry → Bool) : (s.strike p).pins = s.pins := rfl
@[simp] theorem State.strike_pending (s : State) (p : Entry → Bool) : (s.strike p).pending = s.pending := rfl

/-! `State.setStage` -/

@[simp] theorem State.setStage_setup (s : State) (slot : Nat) (st : Stage) : (s.setStage slot st).setup = s.setup := rfl
@[simp] theorem State.setStage_ssl (s : State) (slot : Nat) (st : Stage) : (s.setStage slot st).ssl = s.ssl := rfl
@[simp] theorem State.setStage_blu (s : State) (slot : Nat) (st : Stage) : (s.setStage slot st).blu = s.blu := rfl
@[simp] theorem State.setStage_bt (s : State) (slot : Nat) (st : Stage) : (s.setStage slot st).bt = s.bt := rfl
@[simp] theorem State.setStage_htb (s : State) (slot : Nat) (st : Stage) : (s.setStage slot st).htb = s.htb := rfl
@[simp] theorem State.setStage_dcs (s : State) (slot : Nat) (st : Stage) : (s.setStage slot st).dcs = s.dcs := rfl
@[simp] theorem State.setStage_mps (s : State) (slot : Nat) (st : Stage) : (s.setStage slot st).mps = s.mps := rfl
@[simp] theorem State.setStage_obu (s : State) (slot : Nat) (st : Stage) : (s.setStage slot st).obu = { s.obu with slots := s.obu.slots.modify slot (Option.map fun o => { o with stage := st }) } := rfl
@[simp] theorem State.setStage_pdu (s : State) (slot : Nat) (st : Stage) : (s.setStage slot st).pdu = s.pdu := rfl
@[simp] theorem State.setStage_tlu (s : State) (slot : Nat) (st : Stage) : (s.setStage slot st).tlu = s.tlu := rfl
@[simp] theorem State.setStage_pins (s : State) (slot : Nat) (st : Stage) : (s.setStage slot st).pins = s.pins := rfl
@[simp] theorem State.setStage_pending (s : State) (slot : Nat) (st : Stage) : (s.setStage slot st).pending = s.pending := rfl

/-! `State.modPusher` -/

@[simp] theorem State.modPusher_setup (s : State) (p : Pusher) (f : OpRec → OpRec) : (s.modPusher p f).setup = s.setup := by
  cases p <;> rfl
@[simp] theorem State.modPusher_ssl (s : State) (p : Pusher) (f : OpRec → OpRec) : (s.modPusher p f).ssl = s.ssl := by
  cases p <;> rfl
@[simp] theorem State.modPusher_blu (s : State) (p : Pusher) (f : OpRec → OpRec) : (s.modPusher p f).blu = s.blu := by
  cases p <;> rfl
@[simp] theorem State.modPusher_bt (s : State) (p : Pusher) (f : OpRec → OpRec) : (s.modPusher p f).bt = s.bt := by
  cases p <;> rfl
@[simp] theorem State.modPusher_htb (s : State) (p : Pusher) (f : OpRec → OpRec) : (s.modPusher p f).htb = s.htb := by
  cases p <;> rfl
@[simp] theorem State.modPusher_dcs (s : State) (p : Pusher) (f : OpRec → OpRec) : (s.modPusher p f).dcs = s.dcs := by
  cases p <;> rfl
@[simp] theorem State.modPusher_mps (s : State) (p : Pusher) (f : OpRec → OpRec) : (s.modPusher p f).mps = s.mps := by
  cases p <;> rfl
@[simp] theorem State.modPusher_obu (s : State) (p : Pusher) (f : OpRec → OpRec) : (s.modPusher p f).obu = s.obu := by
  cases p <;> rfl
@[simp] theorem State.modPusher_tlu (s : State) (p : Pusher) (f : OpRec → OpRec) : (s.modPusher p f).tlu = s.tlu := by
  cases p <;> rfl
@[simp] theorem State.modPusher_pins (s : State) (p : Pusher) (f : OpRec → OpRec) : (s.modPusher p f).pins = s.pins := by
  cases p <;> rfl
@[simp] theorem State.modPusher_pending (s : State) (p : Pusher) (f : OpRec → OpRec) : (s.modPusher p f).pending = s.pending := by
  cases p <;> rfl

/-! `State.enter` -/

@[simp] theorem State.enter_setup (s : State) (st : StationState) : (s.enter st).setup = s.setup := by
  unfold State.enter; split <;> rfl
@[simp] theorem State.enter_blu (s : State) (st : StationState) : (s.enter st).blu = s.blu := by
  unfold State.enter; split <;> rfl
@[simp] theorem State.enter_bt (s : State) (st : StationState) : (s.enter st).bt = s.bt := by
  unfold State.enter; split <;> rfl
@[simp] theorem State.enter_htb (s : State) (st : StationState) : (s.enter st).htb = s.htb := by
  unfold State.enter; split <;> rfl
@[simp] theorem State.enter_dcs (s : State) (st : StationState) : (s.enter st).dcs = s.dcs := by
  unfold State.enter; split <;> rfl
@[simp] theorem State.enter_mps (s : State) (st : StationState) : (s.enter st).mps = s.mps := by
  unfold State.enter; split <;> rfl
@[simp] theorem State.enter_obu (s : State) (st : StationState) : (s.enter st).obu = s.obu := by
  unfold State.enter; split <;> rfl
@[simp] theorem State.enter_pdu (s : State) (st : StationState) : (s.enter st).pdu = s.pdu := by
  unfold State.enter; split <;> rfl
@[simp] theorem State.enter_pins (s : State) (st : StationState) : (s.enter st).pins = s.pins := by
  unfold State.enter; split <;> rfl
@[simp] theorem State.enter_pending (s : State) (st : StationState) : (s.enter st).pending = s.pending := by
  unfold State.enter; split <;> rfl

@[simp] theorem State.enter_state (s : State) (st : StationState) : (s.enter st).ssl.state = st := by
  unfold State.enter
  split
  · assumption
  · rfl

/-- Entering the state one is in changes nothing. -/
theorem State.enter_same (s : State) (st : StationState) (h : s.ssl.state = st) : s.enter st = s := by
  unfold State.enter
  rw [if_pos h]

/-! Reading one record after it is updated -/

theorem getD_modify_self {α : Type} (l : List α) (i : Nat) (f : α → α) (d : α) (h : i < l.length) :
    (l.modify i f).getD i d = f (l.getD i d) := by
  simp [List.getD_eq_getElem?_getD, h]

theorem getD_modify_ne {α : Type} (l : List α) (i j : Nat) (f : α → α) (d : α) (h : i ≠ j) :
    (l.modify i f).getD j d = l.getD j d := by
  simp [List.getD_eq_getElem?_getD, h]

theorem State.dc_modDc_self (s : State) (k : Nat) (f : Channel → Channel) (h : k < s.dcs.length) :
    (s.modDc k f).dc k = f (s.dc k) := getD_modify_self _ _ _ _ h

theorem State.dc_modDc_ne (s : State) (k j : Nat) (f : Channel → Channel) (h : k ≠ j) : (s.modDc k f).dc j = s.dc j :=
  getD_modify_ne _ _ _ _ _ h

theorem State.mp_modMp_self (s : State) (k : Nat) (f : Pair → Pair) (h : k < s.mps.length) :
    (s.modMp k f).mp k = f (s.mp k) := getD_modify_self _ _ _ _ h

theorem State.mp_modMp_ne (s : State) (k j : Nat) (f : Pair → Pair) (h : k ≠ j) : (s.modMp k f).mp j = s.mp j :=
  getD_modify_ne _ _ _ _ _ h

theorem State.timer_modTimer_self (s : State) (i : Nat) (f : HoldTimer → HoldTimer) (h : i < s.htb.length) :
    (s.modTimer i f).timer i = f (s.timer i) := getD_modify_self _ _ _ _ h

theorem State.timer_modTimer_ne (s : State) (i j : Nat) (f : HoldTimer → HoldTimer) (h : i ≠ j) :
    (s.modTimer i f).timer j = s.timer j := getD_modify_ne _ _ _ _ _ h

theorem State.run_modRun_self (s : State) (m : Nat) (f : RunRec → RunRec) (h : m < s.pdu.runs.length) :
    (s.modRun m f).run m = f (s.run m) := getD_modify_self _ _ _ _ h

/-! `Table.setJoinResult` -/

@[simp] theorem Table.setJoinResult_roster (t : Table) (q : Nat) (a : Bool) : (t.setJoinResult q a).roster = t.roster := rfl
@[simp] theorem Table.setJoinResult_digest (t : Table) (q : Nat) (a : Bool) : (t.setJoinResult q a).digest = t.digest := rfl
@[simp] theorem Table.setJoinResult_formed (t : Table) (q : Nat) (a : Bool) : (t.setJoinResult q a).formed = t.formed := rfl
@[simp] theorem Table.setJoinResult_bayCount (t : Table) (q : Nat) (a : Bool) : (t.setJoinResult q a).bayCount = t.bayCount := rfl
@[simp] theorem Table.setJoinResult_lines (t : Table) (q : Nat) (a : Bool) : (t.setJoinResult q a).lines = t.lines := rfl
@[simp] theorem Table.setJoinResult_pool (t : Table) (q : Nat) (a : Bool) : (t.setJoinResult q a).pool = t.pool := rfl
@[simp] theorem Table.setJoinResult_tokens (t : Table) (q : Nat) (a : Bool) : (t.setJoinResult q a).tokens = t.tokens := rfl
@[simp] theorem Table.setJoinResult_joinResults (t : Table) (q : Nat) (a : Bool) :
    (t.setJoinResult q a).joinResults = t.joinResults.set q (some a) := rfl

theorem Table.joinResult_setJoinResult_self (t : Table) (q : Nat) (a : Bool) (h : q < t.joinResults.length) :
    (t.setJoinResult q a).joinResult q = some a := by
  simp [Table.joinResult, List.getD_eq_getElem?_getD, h]

theorem Table.joinResult_setJoinResult_ne (t : Table) (q r : Nat) (a : Bool) (h : q ≠ r) :
    (t.setJoinResult q a).joinResult r = t.joinResult r := by
  simp [Table.joinResult, List.getD_eq_getElem?_getD, h]

end Sys2Proof.Machine
end

