-- ==== Sys2Proof/Laws/Orders.lean ====
section
/-! SUPPORT. What the shared operations of the order book do: one order changed, an order that ends, one that is rejected, one
that is seated, and a command of the terminal answered. -/

namespace Sys2Proof.Machine

/-- A map over an optional slot's content, read with a default. -/
theorem slotMap_getD (x : Option (Option Order)) (f : Order → Order) :
    (Option.map (Option.map f) x).getD none = Option.map f (x.getD none) := by
  cases x <;> simp

/-- The order in a slot after one order is changed. -/
theorem slots_modify_getD (sl : List (Option Order)) (slot j : Nat) (f : Order → Order) :
    (sl.modify slot (Option.map f)).getD j none = if slot = j then (sl.getD j none).map f else sl.getD j none := by
  simp only [List.getD, List.getElem?_modify]
  by_cases h : slot = j
  · simp only [h, if_true]
    cases hx : sl[j]? with
    | none => simp
    | some y => simp
  · simp [h]

/-- Changing the live order of a slot is setting the slot. -/
theorem slots_modify_eq_set (sl : List (Option Order)) (slot : Nat) (o : Order) (f : Order → Order)
    (h : sl.getD slot none = some o) : sl.modify slot (Option.map f) = sl.set slot (some (f o)) := by
  apply List.ext_getElem?
  intro i
  simp only [List.getElem?_modify, List.getElem?_set]
  by_cases hi : slot = i
  · subst hi
    cases hx : sl[slot]? with
    | none => simp [List.getD, hx] at h
    | some y =>
      have hl := (List.getElem?_eq_some_iff.1 hx).1
      simp only [List.getD, hx, Option.getD_some] at h
      subst h
      simp [hl]
  · simp [hi]

theorem order_modOrder_self (s : State) (slot : Nat) (f : Order → Order) :
    (s.modOrder slot f).order slot = (s.order slot).map f := by
  show (s.obu.slots.modify slot (Option.map f)).getD slot none = _
  rw [slots_modify_getD, if_pos rfl]; rfl

theorem order_modOrder_ne (s : State) (slot j : Nat) (f : Order → Order) (h : j ≠ slot) :
    (s.modOrder slot f).order j = s.order j := by
  show (s.obu.slots.modify slot (Option.map f)).getD j none = _
  rw [slots_modify_getD, if_neg (fun e => h e.symm)]; rfl

/-- R142: giving a token back changes the request and the outgoing list alone. -/
theorem dropToken_eq (s : State) (slot : Nat) :
    s.dropToken slot = { s with
      blu := s.blu.tokenBack s.obu.request slot, obu := { s.obu with request := s.obu.request.without slot } } := by
  unfold State.dropToken
  cases hr : s.obu.request with
  | absent | orphaned => simp only [Blu.tokenBack, TokenRequest.without]; rw [← hr]
  | requested j => simp only [Blu.tokenBack, TokenRequest.without]; rw [← hr]
  | held token j =>
    by_cases hj : j = slot
    · simp [Blu.tokenBack, TokenRequest.without, hj, State.offer, State.modBook]
    · simp only [Blu.tokenBack, TokenRequest.without, hj, if_false]; rw [← hr]

/-- R150: what an order's end leaves. -/
theorem finish_ordersEnd (s : State) (slot : Nat) (o : Order) (outcome : OrderOutcome) (reason : OrderReason)
    (h : s.order slot = some o) : s.ordersEnd (s.finish slot outcome reason) s.blu slot o outcome reason := by
  unfold State.finish
  rw [dropToken_eq]
  refine ⟨(order_modOrder_self _ slot _).trans ?_, fun j hj => order_modOrder_ne _ slot j _ hj, by and_intros <;> rfl⟩
  show Option.map _ (s.order slot) = _
  rw [h]; rfl

/-- R149: what an order's rejection leaves. -/
theorem reject_ordersReject (s : State) (slot : Nat) (o : Order) (reason : OrderReason) (h : s.order slot = some o) :
    s.ordersReject (s.reject slot reason) slot o reason := by
  unfold State.reject
  rw [dropToken_eq]
  unfold State.startChute
  have key : ∀ u : State,
      u.order slot = (s.order slot).map (fun o => { o with stage := .reject, outcome := some .spoiled, reason := some reason }) →
      u.order slot = some { o with stage := .reject, outcome := some .spoiled, reason := some reason } := by
    intro u hu
    rw [hu, h]; rfl
  split
  · refine ⟨key _ (order_modOrder_self _ slot _), fun j hj => order_modOrder_ne _ slot j _ hj, ?_⟩
    and_intros <;> first | rfl | exact fun _ => ⟨rfl, rfl, rfl⟩
  · rename_i hne
    refine ⟨key _ (order_modOrder_self _ slot _), fun j hj => order_modOrder_ne _ slot j _ hj, ?_⟩
    and_intros <;> first | rfl | exact fun hi => absurd hi hne

/-- R168: a command at an IDLE transmitter is acted on and answered. -/
theorem command_answered (s : State) (kind : Nat) (act : State → Answer) (h : s.tlu.sending = none) :
    s.command kind act = (act s).state.answered kind (act s).result (act s).data := by
  unfold State.command
  rw [h]; rfl

/-- R168: a command while a reply is being sent. -/
theorem command_busy (s : State) (kind : Nat) (act : State → Answer) (r : Reply) (h : s.tlu.sending = some r) :
    s.command kind act = s.modTlu fun t => t.busy kind := by
  unfold State.command
  rw [h]

end Sys2Proof.Machine
end

