-- ==== Sys2Proof/Laws/Dosing.lean ====
section
/-! SUPPORT. What the shared operations of dosing do: one channel, pair or order set in its place, a report, a claim offered, a
grant given back. -/

namespace Sys2Proof.Machine

/-- Changing an element that stands is setting it. -/
theorem modify_eq_set_getD {α : Type} (l : List α) (k : Nat) (f : α → α) (d : α) (h : k < l.length) :
    l.modify k f = l.set k (f (l.getD k d)) := by
  apply List.ext_getElem?
  intro i
  by_cases hi : k = i
  · subst hi
    simp [h, List.getD]
  · simp [hi]

theorem State.modDc_eq_set (s : State) (k : Nat) (f : Channel → Channel) (h : k < s.dcs.length) :
    s.modDc k f = { s with dcs := s.dcs.set k (f (s.dc k)) } := by
  unfold State.modDc State.dc
  rw [modify_eq_set_getD _ _ _ Channel.idle h]

theorem State.modMp_eq_set (s : State) (k : Nat) (f : Pair → Pair) (h : k < s.mps.length) :
    s.modMp k f = { s with mps := s.mps.set k (f (s.mp k)) } := by
  unfold State.modMp State.mp
  rw [modify_eq_set_getD _ _ _ Pair.reset h]

theorem State.modOrder_eq_set (s : State) (slot : Nat) (o : Order) (f : Order → Order) (h : s.order slot = some o) :
    s.modOrder slot f = { s with obu := { s.obu with slots := s.obu.slots.set slot (some (f o)) } } := by
  unfold State.modOrder
  rw [slots_modify_eq_set _ _ _ _ h]

/-- A slot that holds an order is one of the book's. -/
theorem State.slot_lt_of_order {s : State} {slot : Nat} {o : Order} (h : s.order slot = some o) : slot < s.obu.slots.length := by
  by_contra hl
  have hx : s.obu.slots[slot]? = none := List.getElem?_eq_none (Nat.le_of_not_lt hl)
  simp [State.order, List.getD, hx] at h

/-- R104, R124: after a report the channel is IDLE, its pair at rest and unbound, and the bay line unit as it was. -/
theorem State.writeReport_dcs (s : State) (k : Nat) (out : EntryOutcome) (h : k < s.dcs.length) :
    (s.writeReport k out).dcs = s.dcs.set k Channel.idle :=
  modify_eq_set_getD s.dcs k _ Channel.idle h

theorem State.writeReport_mps (s : State) (k : Nat) (out : EntryOutcome) (h : k < s.mps.length) :
    (s.writeReport k out).mps = s.mps.set k (Pair.standDown (s.mp k)).unbind :=
  modify_eq_set_getD s.mps k _ Pair.reset h

@[simp] theorem State.writeReport_blu (s : State) (k : Nat) (out : EntryOutcome) : (s.writeReport k out).blu = s.blu := rfl

@[simp] theorem State.writeReport_pdu (s : State) (k : Nat) (out : EntryOutcome) : (s.writeReport k out).pdu = s.pdu := rfl

@[simp] theorem State.writeReport_tlu (s : State) (k : Nat) (out : EntryOutcome) : (s.writeReport k out).tlu = s.tlu := rfl

/-- An offer that clashes with nothing is not refused. -/
theorem Blu.offer_not_refused (b : Blu) (n : Notice) (o : Owner) (h : (b.list ++ b.held).any (clashes n) = false) :
    (b.offer n o).2 ≠ .refused := by
  unfold Blu.offer
  rw [if_neg (by rw [h]; decide)]
  split <;> simp

/-- R15, R107: a claim offered where one for the line is queued already. -/
theorem State.offerClaim_clash (s u : State) (k : Nat) (st : ChannelState)
    (hu : u = s.modDc k (Channel.replan (s.lineConst (s.dc k).line).shotSize))
    (h : (u.blu.list ++ u.blu.held).any (clashes (u.claimNotice k)) = true) :
    s.offerClaim k st = u.report k (.failed .lineOut) := by
  unfold State.offerClaim
  rw [← hu]
  have ho : u.blu.offer (u.claimNotice k) (.channel k) = (u.blu, .refused) := by
    unfold Blu.offer
    rw [if_pos h]
  simp only [ho]

/-- R107: a claim offered where none is. -/
theorem State.offerClaim_free (s u : State) (k : Nat) (st : ChannelState)
    (hu : u = s.modDc k (Channel.replan (s.lineConst (s.dc k).line).shotSize))
    (h : (u.blu.list ++ u.blu.held).any (clashes (u.claimNotice k)) = false) :
    s.offerClaim k st =
      State.modDc { u with blu := (u.blu.offer (u.claimNotice k) (.channel k)).1 } k fun c => { c with state := st } := by
  have ho := Blu.offer_not_refused u.blu (u.claimNotice k) (.channel k) h
  unfold State.offerClaim
  rw [← hu]
  show (match u.blu.offer (u.claimNotice k) (.channel k) with
    | (_, .refused) => u.report k (.failed .lineOut)
    | (b, _) => State.modDc { u with blu := b } k fun c => { c with state := st }) = _
  split
  · next hq => exact absurd (by rw [hq]) ho
  · next hq => rw [hq]

end Sys2Proof.Machine
end

