-- ==== Sys2Proof/Laws/Frames.lean ====
section
/-! SUPPORT. What the shared operations leave unchanged, said once: dosing, the drives and the order book touch no setup,
station state, bay table, hold timer, plant input or queue. -/

namespace Sys2Proof.Machine

/-- The parts of the BLU that offers and strikes leave as they stand. -/
def Blu.place (b : Blu) : Listen × Nat × Nat × Bool × Cursor := (b.listen, b.objections, b.voids, b.turnSpent, b.cursor)

@[simp] theorem Blu.place_offer (b : Blu) (n o) : (b.offer n o).1.place = b.place := by
  unfold Blu.offer
  repeat' split
  all_goals rfl

theorem Blu.place_of_offer {b b' : Blu} {n o r} (h : b.offer n o = (b', r)) : b'.place = b.place := by
  rw [← Blu.place_offer b n o, h]

@[simp] theorem Blu.place_strike (b : Blu) (p) : (b.strike p).place = b.place := rfl

/-- The parts of the state that no operation of the dosing, the drives or the order book touches. -/
def State.bayPart (s : State) :
    (Option Setup × Ssl × Table × List HoldTimer) × Pins × List Instr × (Listen × Nat × Nat × Bool × Cursor) :=
  ((s.setup, s.ssl, s.bt, s.htb), s.pins, s.pending, s.blu.place)

theorem State.bayPart_place {s t : State} (h : t.blu.place = s.blu.place)
    (k : State.bayPart { t with blu := s.blu } = s.bayPart := by rfl) : t.bayPart = s.bayPart := by
  simp only [State.bayPart, Prod.mk.injEq] at k ⊢
  exact ⟨k.1, k.2.1, k.2.2.1, h⟩

/-- `t` has the bay of `s`. -/
structure SameBay (s t : State) : Prop where
  of ::
  part : t.bayPart = s.bayPart

namespace SameBay

variable {s t u : State}

theorem refl (s : State) : SameBay s s := .of rfl

theorem trans (h : SameBay s t) (g : SameBay t u) : SameBay s u := .of (g.part.trans h.part)

theorem setup (h : SameBay s t) : t.setup = s.setup := congrArg (·.1.1) h.part
theorem ssl (h : SameBay s t) : t.ssl = s.ssl := congrArg (·.1.2.1) h.part
theorem bt (h : SameBay s t) : t.bt = s.bt := congrArg (·.1.2.2.1) h.part
theorem htb (h : SameBay s t) : t.htb = s.htb := congrArg (·.1.2.2.2) h.part
theorem pins (h : SameBay s t) : t.pins = s.pins := congrArg (·.2.1) h.part
theorem pending (h : SameBay s t) : t.pending = s.pending := congrArg (·.2.2.1) h.part
theorem place (h : SameBay s t) : t.blu.place = s.blu.place := congrArg (·.2.2.2) h.part

end SameBay

theorem sameBay_modDc (s : State) (k f) : SameBay s (s.modDc k f) := .of rfl
theorem sameBay_modMp (s : State) (k f) : SameBay s (s.modMp k f) := .of rfl
theorem sameBay_modBook (s : State) (f) : SameBay s (s.modBook f) := .of rfl
theorem sameBay_modOrder (s : State) (k f) : SameBay s (s.modOrder k f) := .of rfl
theorem sameBay_modPdu (s : State) (f) : SameBay s (s.modPdu f) := .of rfl
theorem sameBay_modTlu (s : State) (f) : SameBay s (s.modTlu f) := .of rfl
theorem sameBay_modRun (s : State) (m f) : SameBay s (s.modRun m f) := .of rfl
theorem sameBay_modPusher (s : State) (p f) : SameBay s (s.modPusher p f) := by
  cases p <;> exact .of rfl
theorem sameBay_offer (s : State) (n o) : SameBay s (s.offer n o) :=
  .of (State.bayPart_place (Blu.place_offer _ _ _))
theorem sameBay_strike (s : State) (p) : SameBay s (s.strike p) := .of rfl

/-! ### Dosing -/

theorem sameBay_writeReport (s : State) (k o) : SameBay s (s.writeReport k o) := .of rfl

theorem sameBay_stopChannel (s : State) (k : Nat) : SameBay s (s.stopChannel k) := by
  unfold State.stopChannel
  repeat' split
  all_goals exact .of (by first | rfl | exact State.bayPart_place (Blu.place_offer _ _ _))

theorem sameBay_foldl {α : Type} (f : State → α → State) (h : ∀ s a, SameBay s (f s a)) (l : List α) (s : State) :
    SameBay s (l.foldl f s) := by
  induction l generalizing s with
  | nil => exact SameBay.refl s
  | cons a l ih => exact (h s a).trans (ih (f s a))

theorem sameBay_stopThose (s : State) (slot : Nat) (pick) : SameBay s (s.stopThose slot pick) := by
  unfold State.stopThose
  refine sameBay_foldl _ (fun s k => ?_) _ s
  split
  · exact sameBay_stopChannel s k
  · exact SameBay.refl s

theorem sameBay_stopChannels (s : State) (slot : Nat) : SameBay s (s.stopChannels slot) :=
  (sameBay_stopThose s _ _).trans (sameBay_stopThose _ _ _)

theorem sameBay_stopOrder (s : State) (slot reason) : SameBay s (s.stopOrder slot reason) := by
  unfold State.stopOrder
  repeat' split
  · exact SameBay.refl s
  · exact SameBay.refl s
  · exact (sameBay_modOrder s _ _).trans (sameBay_stopChannels _ _)

theorem sameBay_report (s : State) (k o) : SameBay s (s.report k o) := by
  unfold State.report
  repeat' split
  · exact (sameBay_writeReport s _ _).trans (sameBay_stopOrder _ _ _)
  all_goals exact sameBay_writeReport s _ _

theorem sameBay_offerClaim (s : State) (k st) : SameBay s (s.offerClaim k st) := by
  unfold State.offerClaim
  simp only
  split
  · exact (sameBay_modDc s _ _).trans (sameBay_report _ _ _)
  · exact .of (by first | rfl | exact State.bayPart_place (Blu.place_of_offer (by assumption)))

theorem sameBay_handOver (s : State) (k slot entry e) : SameBay s (s.handOver k slot entry e) :=
  ((sameBay_modDc s _ _).trans (sameBay_modMp _ _ _)).trans (sameBay_offerClaim _ _ _)

theorem sameBay_giveBack (s : State) (k drops o) : SameBay s (s.giveBack k drops o) := by
  unfold State.giveBack
  simp only
  split
  · exact SameBay.trans (by exact .of (State.bayPart_place (Blu.place_offer _ _ _)))
      (sameBay_offerClaim _ _ _)
  · exact .of (State.bayPart_place (Blu.place_offer _ _ _))

theorem sameBay_writeWidth (s : State) (k next) : SameBay s (s.writeWidth k next) := .of rfl

theorem sameBay_periodStart (s : State) (k) : SameBay s (s.periodStart k) := by
  unfold State.periodStart
  simp only
  split <;> exact .of rfl

theorem sameBay_beginDose (s : State) (k g a d) : SameBay s (s.beginDose k g a d) := by
  unfold State.beginDose
  simp only
  split
  · exact ((sameBay_modDc s _ _).trans (sameBay_writeWidth _ _ _)).trans (sameBay_periodStart _ _)
  · exact .of rfl

theorem sameBay_refuseGrant (s : State) (k g) : SameBay s (s.refuseGrant k g) :=
  .of (State.bayPart_place (Blu.place_offer _ _ _))

theorem sameBay_grantTell (s : State) (k h) : SameBay s (s.grantTell k h) := by
  unfold State.grantTell
  repeat' split
  all_goals first | exact SameBay.refl s | exact sameBay_refuseGrant s _ _ | exact sameBay_beginDose s _ _ _ _

theorem sameBay_released (s : State) (k) : SameBay s (s.released k) := by
  unfold State.released
  repeat' split
  all_goals first | exact SameBay.refl s | exact sameBay_modDc s _ _ | exact sameBay_report s _ _

theorem sameBay_lineTell (s : State) (k t) : SameBay s (s.lineTell k t) := by
  unfold State.lineTell
  repeat' split
  all_goals
    first
    | exact SameBay.refl s
    | exact sameBay_modDc s _ _
    | exact sameBay_report s _ _
    | exact sameBay_released s _
    | exact (sameBay_offer s _ _).trans (sameBay_modDc _ _ _)
    | exact (sameBay_modMp s _ _).trans (sameBay_modDc _ _ _)
    | exact (sameBay_modMp s _ _).trans (sameBay_report _ _ _)

theorem sameBay_afterShot (s : State) (k m p o) : SameBay s (s.afterShot k m p o) := by
  unfold State.afterShot
  simp only
  repeat' split
  all_goals
    first
    | exact (sameBay_modMp s _ _).trans (sameBay_report _ _ _)
    | exact (sameBay_modDc s _ _).trans (sameBay_giveBack _ _ _ _)
    | exact sameBay_periodStart s _

theorem sameBay_captureShot (s : State) (k) : SameBay s (s.captureShot k) :=
  ((sameBay_modMp s _ _).trans (sameBay_modDc _ _ _)).trans (sameBay_afterShot _ _ _ _ _)

theorem sameBay_ownLimit (s : State) (k) : SameBay s (s.ownLimit k) := by
  unfold State.ownLimit
  repeat' split
  all_goals
    first
    | exact SameBay.refl s
    | exact (sameBay_modDc s _ _).trans (sameBay_giveBack _ _ _ _)
    | exact (sameBay_modMp s _ _).trans (sameBay_modDc _ _ _)

theorem sameBay_leaveChannel (s : State) (k) : SameBay s (s.leaveChannel k) := by
  unfold State.leaveChannel
  repeat' split
  all_goals
    first
    | exact SameBay.refl s
    | exact sameBay_report s _ _
    | exact (sameBay_modMp s _ _).trans (sameBay_modDc _ _ _)
    | exact (sameBay_modMp s _ _).trans (sameBay_report _ _ _)

/-! ### Drives -/

theorem sameBay_startFill (s : State) (t) : SameBay s (s.startFill t) := by
  unfold State.startFill
  split <;> exact .of rfl

theorem sameBay_startPress (s : State) : SameBay s s.startPress := by
  unfold State.startPress
  split <;> exact .of rfl

theorem sameBay_startTransfer (s : State) (p) : SameBay s (s.startTransfer p) := by
  unfold State.startTransfer
  split
  · exact sameBay_modPusher s _ _
  · exact SameBay.refl s

theorem sameBay_startChute (s : State) : SameBay s s.startChute := by
  unfold State.startChute
  split <;> exact .of rfl

theorem sameBay_raiseRun (s : State) (m t) : SameBay s (s.raiseRun m t) := by
  unfold State.raiseRun
  split <;> exact .of rfl

theorem sameBay_dropRun (s : State) (m) : SameBay s (s.dropRun m) := by
  unfold State.dropRun
  split <;> exact .of rfl

/-! ### Orders -/

theorem sameBay_dropToken (s : State) (slot) : SameBay s (s.dropToken slot) := by
  unfold State.dropToken
  repeat' split
  all_goals exact .of (by first | rfl | exact State.bayPart_place (Blu.place_offer _ _ _))

theorem sameBay_finish (s : State) (slot o r) : SameBay s (s.finish slot o r) :=
  (sameBay_dropToken s slot).trans (.of rfl)

theorem sameBay_reject (s : State) (slot r) : SameBay s (s.reject slot r) :=
  ((sameBay_dropToken s slot).trans (sameBay_modOrder _ _ _)).trans (sameBay_startChute _)

theorem sameBay_seat (s : State) (slot) : SameBay s (s.seat slot) := by
  unfold State.seat
  simp only
  repeat' split
  · exact .of rfl
  · exact SameBay.trans (by exact .of rfl) (sameBay_startFill _ _)
  · exact .of rfl

theorem sameBay_judgeTin (s : State) (slot code) : SameBay s (s.judgeTin slot code) := by
  unfold State.judgeTin
  repeat' split
  · exact sameBay_seat s _
  · exact sameBay_modOrder s _ _
  · exact SameBay.refl s

theorem sameBay_chooseCradle (s : State) : SameBay s s.chooseCradle := by
  unfold State.chooseCradle
  simp only
  repeat' split
  · exact SameBay.trans (by exact .of rfl) (sameBay_judgeTin _ _ _)
  · exact .of rfl
  · exact SameBay.refl s

theorem sameBay_requestRush (s : State) : SameBay s s.requestRush := by
  unfold State.requestRush
  repeat' split
  all_goals exact .of (by first | rfl | exact State.bayPart_place (Blu.place_offer _ _ _))

theorem sameBay_openGate (s : State) : SameBay s s.openGate := by
  unfold State.openGate
  repeat' split
  all_goals exact .of rfl

theorem sameBay_handNext (s : State) (slot) : SameBay s (s.handNext slot) := by
  unfold State.handNext
  repeat' split
  all_goals first | exact SameBay.refl s | exact (sameBay_modOrder s _ _).trans (sameBay_handOver _ _ _ _ _)

theorem sameBay_leaveTint (s : State) (slot o) : SameBay s (s.leaveTint slot o) := by
  have h : SameBay s (if o.mixTime = 0 then s.dropToken slot else s) := by
    split
    · exact sameBay_dropToken s slot
    · exact SameBay.refl s
  unfold State.leaveTint
  simp only
  split
  · exact (h.trans (sameBay_modOrder _ _ _)).trans (sameBay_startPress _)
  · exact h.trans (sameBay_modOrder _ _ _)

theorem sameBay_endTint (s : State) (slot) : SameBay s (s.endTint slot) := by
  unfold State.endTint
  repeat' split
  all_goals first | exact SameBay.refl s | exact sameBay_reject s _ _ | exact sameBay_leaveTint s _ _

theorem sameBay_dose (s : State) : SameBay s s.dose := by
  unfold State.dose
  split
  · exact SameBay.refl s
  · refine .trans ?_ (sameBay_endTint _ _)
    iterate 3 refine .trans ?_ (sameBay_handNext _ _)
    exact sameBay_handNext s _

theorem sameBay_callOutfeed (s : State) : SameBay s s.callOutfeed := by
  unfold State.callOutfeed
  repeat' split
  all_goals first | exact SameBay.refl s | exact sameBay_startTransfer s _

theorem sameBay_claimMixer (s : State) : SameBay s s.claimMixer := by
  unfold State.claimMixer
  repeat' split
  all_goals exact .of (by first | rfl | exact State.bayPart_place (Blu.place_of_offer (by assumption)))

theorem sameBay_queueTickets (n : Nat) (s : State) : SameBay s (State.queueTickets n s) := by
  induction n generalizing s with
  | zero => exact SameBay.refl s
  | succ n ih =>
    unfold State.queueTickets
    repeat' split
    · exact SameBay.refl s
    · exact SameBay.trans (by exact .of rfl) (ih _)
    · exact SameBay.trans (by exact .of rfl) (ih _)
    · exact SameBay.refl s

/-- The order book's settling touches nothing of the bay. -/
theorem sameBay_settle (s : State) : SameBay s s.settle :=
  (sameBay_claimMixer s).trans <| (sameBay_chooseCradle _).trans <| (sameBay_requestRush _).trans <|
    (sameBay_openGate _).trans <| (sameBay_dose _).trans <| (sameBay_callOutfeed _).trans <| sameBay_queueTickets 8 _

theorem sameBay_rushSettled (s : State) (slot token) : SameBay s (s.rushSettled slot token) := by
  cases token <;> exact (sameBay_modBook s _).trans (sameBay_modOrder _ _ _)

theorem sameBay_rushUnwanted (s : State) (token) : SameBay s (s.rushUnwanted token) := by
  cases token
  · exact .of rfl
  all_goals exact (sameBay_offer s _ _).trans (.of rfl)

theorem sameBay_rushTell (s : State) (t) : SameBay s (s.rushTell t) := by
  unfold State.rushTell
  repeat' split
  all_goals first | exact SameBay.refl s | exact sameBay_rushSettled s _ _ | exact sameBay_rushUnwanted s _

theorem sameBay_enterMixing (s : State) (slot m g t) : SameBay s (s.enterMixing slot m g t) :=
  (sameBay_modOrder s _ _).trans (sameBay_dropToken _ _)

theorem sameBay_mixerGranted (s : State) (m g t) : SameBay s (s.mixerGranted m g t) := by
  unfold State.mixerGranted
  simp only
  repeat' split
  · exact sameBay_offer s _ _
  · exact ((sameBay_enterMixing s _ _ _ _).trans (sameBay_offer _ _ _)).trans
      ((sameBay_modOrder _ _ _).trans (sameBay_claimMixer _))
  · exact ((sameBay_enterMixing s _ _ _ _).trans (sameBay_offer _ _ _)).trans (sameBay_finish _ _ _ _)
  · exact (sameBay_enterMixing s _ _ _ _).trans (sameBay_startTransfer _ _)
  · exact ((sameBay_enterMixing s _ _ _ _).trans (sameBay_offer _ _ _)).trans (sameBay_finish _ _ _ _)

theorem sameBay_bookTell (s : State) (t) : SameBay s (s.bookTell t) := by
  unfold State.bookTell
  repeat' split
  all_goals
    first
    | exact SameBay.refl s
    | exact sameBay_rushTell s _
    | exact sameBay_offer s _ _
    | exact sameBay_finish s _ _ _

theorem sameBay_baseDone (s : State) (d) : SameBay s (s.baseDone d) := by
  unfold State.baseDone
  split <;> exact .of rfl

theorem sameBay_baseFaulted (s : State) (d f) : SameBay s (s.baseFaulted d f) := by
  unfold State.baseFaulted
  split
  · exact (sameBay_modOrder s _ _).trans (sameBay_reject _ _ _)
  · exact SameBay.refl s

theorem sameBay_lidHome (s : State) : SameBay s s.lidHome := by
  unfold State.lidHome
  split <;> exact .of rfl

theorem sameBay_lidFaulted (s : State) : SameBay s s.lidFaulted := by
  unfold State.lidFaulted
  split
  · exact sameBay_reject s _ _
  · exact SameBay.refl s

theorem sameBay_outfeedReached (s : State) : SameBay s s.outfeedReached := by
  unfold State.outfeedReached
  simp only
  repeat' split
  · exact SameBay.refl s
  · exact SameBay.trans (by exact .of rfl) (sameBay_startTransfer _ _)
  · exact .of rfl

theorem sameBay_mixerReached (s : State) (m) : SameBay s (s.mixerReached m) := by
  unfold State.mixerReached
  split
  · exact SameBay.refl s
  · exact SameBay.trans (by exact .of rfl) (sameBay_raiseRun _ _ _)

theorem sameBay_endMix (s : State) (slot m o oc r) : SameBay s (s.endMix slot m o oc r) :=
  (sameBay_offer s _ _).trans (sameBay_finish _ _ _ _)

theorem sameBay_transferConfirmed (s : State) (p) : SameBay s (s.transferConfirmed p) := by
  unfold State.transferConfirmed
  repeat' split
  · exact sameBay_outfeedReached s
  · exact sameBay_finish s _ _ _
  · exact SameBay.refl s
  · exact sameBay_mixerReached s _

theorem sameBay_transferFailed (s : State) (p) : SameBay s (s.transferFailed p) := by
  unfold State.transferFailed
  repeat' split
  all_goals
    first
    | exact SameBay.refl s
    | exact sameBay_reject s _ _
    | exact sameBay_finish s _ _ _
    | exact sameBay_endMix s _ _ _ _ _

theorem sameBay_mixerDone (s : State) (m) : SameBay s (s.mixerDone m) := by
  unfold State.mixerDone
  split
  · exact sameBay_endMix s _ _ _ _ _
  · exact SameBay.refl s

theorem sameBay_outfeedEmptied (s : State) : SameBay s s.outfeedEmptied := by
  unfold State.outfeedEmptied
  simp only
  split
  · exact SameBay.refl s
  · refine SameBay.trans ?_ (sameBay_finish _ _ _ _)
    repeat' split
    all_goals first | exact SameBay.refl s | exact sameBay_strike s _ | exact sameBay_offer s _ _

theorem sameBay_stopFill (s : State) (slot) : SameBay s (s.stopFill slot) := by
  unfold State.stopFill
  split <;> exact .of rfl

theorem sameBay_cancelOrder (s t : State) (slot) (h : s.cancelOrder slot = some t) : SameBay s t := by
  unfold State.cancelOrder at h
  split at h
  · cases h; exact sameBay_finish s _ _ _
  · cases h; exact (sameBay_modPdu s _).trans (sameBay_finish _ _ _ _)
  · cases h; exact (sameBay_stopFill s _).trans (sameBay_reject _ _ _)
  · cases h; exact sameBay_stopOrder s _ _
  · cases h

theorem sameBay_loseRequest (s : State) : SameBay s s.loseRequest := by
  unfold State.loseRequest
  split <;> exact .of rfl

theorem sameBay_leaveOrder (s : State) (slot) : SameBay s (s.leaveOrder slot) := by
  unfold State.leaveOrder
  repeat' split
  all_goals
    first
    | exact SameBay.refl s
    | exact sameBay_modOrder s _ _
    | exact (sameBay_dropRun s _).trans (sameBay_finish _ _ _ _)
    | exact sameBay_finish s _ _ _

theorem sameBay_leaveBook (s : State) : SameBay s s.leaveBook :=
  (sameBay_loseRequest s).trans (sameBay_foldl _ sameBay_leaveOrder _ _)

end Sys2Proof.Machine
end

