-- ==== Sys2Proof/Laws/Takes.lean ====
section
/-! SUPPORT. What the parts of a take leave unchanged: no tell, grant, timer, cursor move or bookkeeping of the outgoing list
touches the setup, the station state, the bay table, the plant inputs or the queue. -/

namespace Sys2Proof.Machine

/-- The parts of the state that nothing beside the table's own rules touches at a take. -/
def State.tablePart (s : State) : (Option Setup × Ssl × Table) × Pins × List Instr :=
  ((s.setup, s.ssl, s.bt), s.pins, s.pending)

/-- `t` has the bay table of `s`. -/
structure KeepsTable (s t : State) : Prop where
  of ::
  part : t.tablePart = s.tablePart

namespace KeepsTable

variable {s t u : State}

theorem refl (s : State) : KeepsTable s s := .of rfl

theorem trans (h : KeepsTable s t) (g : KeepsTable t u) : KeepsTable s u := .of (g.part.trans h.part)

theorem setup (h : KeepsTable s t) : t.setup = s.setup := congrArg (·.1.1) h.part
theorem ssl (h : KeepsTable s t) : t.ssl = s.ssl := congrArg (·.1.2.1) h.part
theorem bt (h : KeepsTable s t) : t.bt = s.bt := congrArg (·.1.2.2) h.part
theorem pins (h : KeepsTable s t) : t.pins = s.pins := congrArg (·.2.1) h.part
theorem pending (h : KeepsTable s t) : t.pending = s.pending := congrArg (·.2.2) h.part

end KeepsTable

theorem SameBay.keepsTable {s t : State} (h : SameBay s t) : KeepsTable s t :=
  .of (congrArg (fun p => ((p.1.1, p.1.2.1, p.1.2.2.1), p.2.1, p.2.2.1)) h.part)

theorem keepsTable_startTimer (s : State) (key h g l) : KeepsTable s (s.startTimer key h g l) := .of rfl
theorem keepsTable_endHolding (s : State) (key h g) : KeepsTable s (s.endHolding key h g) := .of rfl
theorem keepsTable_offer (s : State) (n o) : KeepsTable s (s.offer n o) := .of rfl
theorem keepsTable_strike (s : State) (p) : KeepsTable s (s.strike p) := .of rfl

theorem keepsTable_lineGranted (s : State) (line h) : KeepsTable s (s.lineGranted line h) := by
  unfold State.lineGranted
  simp only
  repeat' split
  · exact (keepsTable_startTimer s _ _ _ _).trans (sameBay_grantTell _ _ _).keepsTable
  · exact (keepsTable_startTimer s _ _ _ _).trans (keepsTable_offer _ _ _)
  · exact keepsTable_startTimer s _ _ _ _

theorem keepsTable_applyEffect (s : State) (e) : KeepsTable s (s.applyEffect e) := by
  unfold State.applyEffect
  cases e with
  | lineEnded line h => exact keepsTable_endHolding s _ _ _
  | lineGranted line h => exact keepsTable_lineGranted s _ _
  | mixerEnded m st g => exact keepsTable_endHolding s _ _ _
  | mixerGranted m st g mt =>
    simp only
    split
    · exact (keepsTable_startTimer s _ _ _ _).trans (sameBay_mixerGranted _ _ _ _).keepsTable
    · exact keepsTable_startTimer s _ _ _ _
  | tellLine line t =>
    simp only
    split
    · exact (sameBay_lineTell s _ _).keepsTable
    · exact KeepsTable.refl s
  | tellBook t => exact (sameBay_bookTell s t).keepsTable

theorem keepsTable_foldl {α : Type} (f : State → α → State) (h : ∀ s a, KeepsTable s (f s a)) (l : List α) (s : State) :
    KeepsTable s (l.foldl f s) := by
  induction l generalizing s with
  | nil => exact KeepsTable.refl s
  | cons a l ih => exact (h s a).trans (ih (f s a))

theorem keepsTable_applyEffects (s : State) (es) : KeepsTable s (s.applyEffects es) :=
  keepsTable_foldl _ keepsTable_applyEffect es s

theorem keepsTable_backToWaiting (s : State) (refill) : KeepsTable s (s.backToWaiting refill) := by
  unfold State.backToWaiting State.struckTell
  repeat' split
  · exact KeepsTable.refl s
  · exact KeepsTable.trans (by exact .of rfl) (sameBay_report _ _ _).keepsTable
  · exact .of rfl
  · exact .of rfl

/-- The bookkeeping of the outgoing list at a take touches nothing of the bay. -/
theorem keepsTable_bookTake (s : State) (sender n) : KeepsTable s (s.bookTake sender n) := by
  unfold State.bookTake
  split
  · exact .of rfl
  · exact (keepsTable_backToWaiting s false).trans (.of rfl)

/-! ### The image cursor -/

theorem keepsTable_setJoiners (s : State) (js) : KeepsTable s (s.setJoiners js) := .of rfl

theorem keepsTable_cursorOffer (s : State) (x) : KeepsTable s (s.cursorOffer x) := by
  unfold State.cursorOffer
  split <;> exact .of rfl

theorem keepsTable_cursorBegin (s : State) : KeepsTable s s.cursorBegin := by
  unfold State.cursorBegin
  split
  · exact .of rfl
  · exact keepsTable_cursorOffer s _

theorem keepsTable_cursorDrop (s : State) (st) : KeepsTable s (s.cursorDrop st) := by
  unfold State.cursorDrop
  simp only
  split
  · exact ((keepsTable_strike s _).trans (keepsTable_setJoiners _ _)).trans (keepsTable_cursorBegin _)
  · exact keepsTable_setJoiners s _

theorem keepsTable_cursorAdd (s : State) (st a) : KeepsTable s (s.cursorAdd st a) := by
  unfold State.cursorAdd
  simp only
  repeat' split
  · exact ((keepsTable_setJoiners s _).trans (keepsTable_strike _ _)).trans (keepsTable_cursorBegin _)
  · exact keepsTable_setJoiners s _
  · exact (keepsTable_setJoiners s _).trans (keepsTable_cursorBegin _)
  · exact keepsTable_setJoiners s _

theorem keepsTable_cursorPrune (s : State) : KeepsTable s s.cursorPrune := by
  unfold State.cursorPrune
  refine keepsTable_foldl _ (fun t j => ?_) _ s
  split
  · exact keepsTable_cursorDrop t _
  · exact KeepsTable.refl t

theorem keepsTable_cursorAdvance (s : State) : KeepsTable s s.cursorAdvance := by
  unfold State.cursorAdvance
  split
  · exact keepsTable_cursorOffer s _
  · exact KeepsTable.refl s

theorem keepsTable_giveImage (s : State) (j g a) : KeepsTable s (s.giveImage j g a) := by
  unfold State.giveImage
  split
  · exact keepsTable_cursorAdd s _ _
  · exact keepsTable_cursorDrop s _

/-! ### A take at an ATTACHED station -/

/-- What a take brings about leaves the table as the take put it. -/
theorem keepsTable_takeEffects (s : State) (t : Table) (es : List Effect) (cursor : State → State)
    (h : ∀ u, KeepsTable u (cursor u)) : KeepsTable { s with bt := t } (s.takeEffects t es cursor) :=
  (((keepsTable_applyEffects _ _).trans (keepsTable_cursorPrune _)).trans (h _)).trans (keepsTable_applyEffects _ _)

theorem State.me_of_setup {s t : State} (h : t.setup = s.setup) : t.me = s.me := by unfold State.me State.cal; rw [h]
theorem State.bay_of_setup {s t : State} (h : t.setup = s.setup) : t.bay = s.bay := by unfold State.bay; rw [h]
theorem State.cal_of_setup {s t : State} (h : t.setup = s.setup) : t.cal = s.cal := by unfold State.cal; rw [h]

/-- A take that leaves this station PRESENT: the table by the rule, and the count. -/
theorem takenWith_table (s : State) (sender : Nat) (n : Notice) (t : Table) (es : List Effect) (cursor : State → State)
    (h : ∀ u, KeepsTable u (cursor u)) :
    let u := s.takenWith sender n t es cursor
    u.setup = s.setup ∧ u.ssl = s.ssl ∧ u.bt = t.counted ∧ u.pins = s.pins ∧ u.pending = s.pending := by
  intro u
  have hb := keepsTable_bookTake s sender n
  have he := keepsTable_takeEffects (s.bookTake sender n) t es cursor h
  have hs := (sameBay_settle (State.modBt (State.takeEffects (s.bookTake sender n) t es cursor) Table.counted)).keepsTable
  refine ⟨?_, ?_, ?_, ?_, ?_⟩
  · exact hs.setup.trans (he.setup.trans hb.setup)
  · exact hs.ssl.trans (he.ssl.trans hb.ssl)
  · exact hs.bt.trans (congrArg Table.counted he.bt)
  · exact hs.pins.trans (he.pins.trans hb.pins)
  · exact hs.pending.trans (he.pending.trans hb.pending)

/-- An ATTACHED station's take that is neither out of step nor its own LEAVE or JOIN, once it is applied. -/
theorem take_of_applied (s : State) (sender : Nat) (n : Notice) (t : Table) (es : List Effect) (cursor : State → State)
    (hears : s.hears = true) (att : s.ssl.state = .attached) (step : (s.bookTake sender n).outOfStep sender n = false)
    (leave : ¬ (sender = s.me ∧ n = .leave)) (join : ¬ (sender = s.me ∧ noticeKind n = 1)) (h : ∀ u, KeepsTable u (cursor u))
    (applied : (s.bookTake sender n).applyTake sender n = (s.bookTake sender n).takeEffects t es cursor)
    (hp : t.isPresent s.me = true) : s.take sender n = s.takenWith sender n t es cursor := by
  have hb := keepsTable_bookTake s sender n
  have hme : (s.bookTake sender n).me = s.me := State.me_of_setup hb.setup
  have he := keepsTable_takeEffects (s.bookTake sender n) t es cursor h
  have hpres : ((s.bookTake sender n).takeEffects t es cursor).bt.isPresent ((s.bookTake sender n).takeEffects t es cursor).me
      = true := by
    rw [State.me_of_setup he.setup, he.bt]
    exact hme ▸ hp
  unfold State.take State.deliver State.takenWith
  rw [if_pos hears, hb.ssl, att]
  unfold State.takeAttached
  simp only [step, applied, hme]
  rw [if_neg (by simp), if_neg leave, if_neg join]
  unfold State.afterTake
  simp only
  rw [if_pos (show (State.modBt _ Table.counted).bt.isPresent (State.modBt _ Table.counted).me = true from hpres)]

/-- A take of a kind other than JOIN, FORMED, IMAGE and IMAGE END, when it leaves this station PRESENT and the sender is a member. -/
theorem take_eq_takenBy (s : State) (sender : Nat) (n : Notice) (hears : s.hears = true) (att : s.ssl.state = .attached)
    (hs : (s.bt.rosterAt sender).state ≠ .absent) (kind : 5 ≤ noticeKind n) (leave : ¬ (sender = s.me ∧ n = .leave))
    (hp : (s.bt.takeOther s.bay.reserve s.bay.mixersEquipped s.me sender n).1.isPresent s.me = true) :
    s.take sender n = s.takenBy sender n (s.bt.takeOther s.bay.reserve s.bay.mixersEquipped s.me sender n).1
      (s.bt.takeOther s.bay.reserve s.bay.mixersEquipped s.me sender n).2 := by
  have hb := keepsTable_bookTake s sender n
  refine take_of_applied s sender n _ _ id hears att ?_ leave (by omega) KeepsTable.refl ?_ hp
  · unfold State.outOfStep
    cases n <;> simp [noticeKind] at kind ⊢ <;> rw [hb.bt] <;> exact hs
  · unfold State.applyTake
    cases n <;> simp [noticeKind] at kind <;>
      simp only [hb.bt, State.me_of_setup hb.setup, State.bay_of_setup hb.setup]

/-- What an ATTACHED station's take of a kind other than JOIN, FORMED, IMAGE and IMAGE END leaves, when the take leaves it
PRESENT and the sender is a member: the table by the kind's rule, and the count. -/
theorem take_member (s : State) (sender : Nat) (n : Notice) (hears : s.hears = true) (att : s.ssl.state = .attached)
    (hs : (s.bt.rosterAt sender).state ≠ .absent) (kind : 5 ≤ noticeKind n) (leave : ¬ (sender = s.me ∧ n = .leave))
    (hp : (s.bt.takeOther s.bay.reserve s.bay.mixersEquipped s.me sender n).1.isPresent s.me = true) :
    let t := s.take sender n
    t.setup = s.setup ∧ t.ssl = s.ssl
      ∧ t.bt = (s.bt.takeOther s.bay.reserve s.bay.mixersEquipped s.me sender n).1.counted ∧ t.pins = s.pins
      ∧ t.pending = s.pending := by
  rw [take_eq_takenBy s sender n hears att hs kind leave hp]
  exact takenWith_table s sender n _ _ id KeepsTable.refl

theorem regrant_roster (reserve : Nat) (before t : Table) : (Table.regrant reserve before t).1.roster = t.roster := by
  unfold Table.regrant
  simp only
  repeat' split
  all_goals rfl

theorem regrant_joinResults (reserve : Nat) (before t : Table) :
    (Table.regrant reserve before t).1.joinResults = t.joinResults := by
  unfold Table.regrant
  simp only
  repeat' split
  all_goals rfl

/-- R31 (d): a late JOIN leaves its own result held, and no other. -/
theorem lateJoin_joinResults (reserve : Nat) (t : Table) (sender digest : Nat) (silent : Option Nat) :
    (t.lateJoin reserve sender digest silent).table.joinResults = t.joinResults.set sender (some (t.digestAgrees digest)) := by
  have strip : ∀ (u : Table) (S : Option Nat), (u.stripOpt S).joinResults = u.joinResults := fun u S => by cases S <;> rfl
  have late : (t.lateSender sender).joinResults = t.joinResults := by
    unfold Table.lateSender
    split <;> rfl
  unfold Table.lateJoin
  simp only [regrant_joinResults, Table.setJoinResult_joinResults]
  exact congrArg (fun l => List.set l sender (some (t.digestAgrees digest))) ((strip _ _).trans late)

/-- R30: a silent-giver report leaves the results held as they stand. -/
theorem silentReport_joinResults (reserve : Nat) (t : Table) (sender giver : Nat) :
    (t.silentReport reserve sender giver).table.joinResults = t.joinResults := regrant_joinResults _ _ _

/-- A take of a line, a token or the pool leaves the roster as it stands. -/
theorem takeOther_roster (reserve mixers me : Nat) (t : Table) (sender : Nat) (n : Notice) (leave : n ≠ .leave)
    (revoke : noticeKind n ≠ 18) : (t.takeOther reserve mixers me sender n).1.roster = t.roster := by
  unfold Table.takeOther
  cases n <;> simp only [noticeKind, ne_eq, not_true_eq_false] at leave revoke ⊢
  case join => rfl
  case formed => rfl
  case image => rfl
  case imageEnd => rfl
  case claim => unfold Table.claim; simp only; repeat' split
                all_goals rfl
  case withdraw => unfold Table.withdraw; simp only; repeat' split
                   all_goals rfl
  case release => unfold Table.release; simp only; repeat' split
                  all_goals rfl
  case refill => unfold Table.refill; repeat' split
                 all_goals rfl
  case lineOut => unfold Table.lineOut; repeat' split
                  all_goals rfl
  case lineReturn => unfold Table.lineReturn; repeat' split
                     all_goals rfl
  case rushTake => unfold Table.rushTake; repeat' split
                   all_goals rfl
  case rushDrop =>
    unfold Table.rushDrop
    simp only
    repeat' split
    · rfl
    · rfl
    · exact regrant_roster _ _ _
    · rfl
  case mixClaim => unfold Table.mixClaim; simp only; repeat' split
                   all_goals rfl
  case mixWithdraw => unfold Table.mixWithdraw; simp only; repeat' split
                      all_goals rfl
  case mixRelease => unfold Table.mixRelease; simp only; repeat' split
                     all_goals rfl
  case mixerReturn => unfold Table.mixerReturn; repeat' split
                      all_goals rfl

/-- What a station that stands in the bay makes of a take on a line, a token or the pool: the kind's rule, and the count. -/
theorem take_record (s : State) (sender : Nat) (n : Notice) (hears : s.hears = true) (att : s.ssl.state = .attached)
    (hp : s.bt.isPresent s.me = true) (hs : (s.bt.rosterAt sender).state ≠ .absent) (leave : n ≠ .leave)
    (kind : noticeKind n ≠ 1 ∧ noticeKind n ≠ 2 ∧ noticeKind n ≠ 3 ∧ noticeKind n ≠ 4 ∧ noticeKind n ≠ 18) :
    let t := s.take sender n
    t.setup = s.setup ∧ t.ssl = s.ssl
      ∧ t.bt = (s.bt.takeOther s.bay.reserve s.bay.mixersEquipped s.me sender n).1.counted ∧ t.pins = s.pins
      ∧ t.pending = s.pending := by
  refine take_member s sender n hears att hs (by cases n <;> simp [noticeKind] at kind ⊢) (fun h => leave h.2) ?_
  unfold Table.isPresent Table.rosterAt at hp ⊢
  rw [takeOther_roster _ _ _ _ _ _ leave kind.2.2.2.2]
  exact hp

/-- A notice of a station or of the lines, tokens or pool that the table's rule discards leaves every record, and is counted. -/
theorem take_discarded (s : State) (sender : Nat) (n : Notice) (member : s.member = true) (kind : 5 ≤ noticeKind n)
    (hs : (s.bt.rosterAt sender).state ≠ .absent) (leave : ¬ (sender = s.me ∧ n = .leave))
    (discarded : (s.bt.takeOther s.bay.reserve s.bay.mixersEquipped s.me sender n).1 = s.bt) :
    (s.take sender n).bt = s.bt.counted ∧ s.sameOutside (s.take sender n) := by
  unfold State.member State.isAttached at member
  simp only [Bool.and_eq_true, beq_iff_eq] at member
  obtain ⟨a1, a2, a3, a4, a5⟩ :=
    take_member s sender n member.1.1 member.1.2 hs kind leave (by rw [discarded]; exact member.2)
  exact ⟨by rw [a3, discarded], a1, a2, a4, a5⟩

/-- A command that is the take of a notice is that take. -/
theorem exec_of_taken (c : Instr) (s : State) (sender : Nat) (n : Notice) (h : c.taken = some (sender, n)) :
    exec c s = .next (s.take sender n) := by
  cases c <;> simp only [Instr.taken, Option.some.injEq, Prod.mk.injEq, reduceCtorEq] at h <;>
    (obtain ⟨rfl, rfl⟩ := h; rfl)

end Sys2Proof.Machine
end

