-- ==== Sys2Proof/Laws/Inputs.lean ====
section
/-! SUPPORT. No take and no void touches the setup, the plant inputs or the queue. -/

namespace Sys2Proof.Machine

/-- What stays through every event of the bay line. -/
structure KeepsInput (s t : State) : Prop where
  setup : t.setup = s.setup
  pins : t.pins = s.pins
  pending : t.pending = s.pending

theorem KeepsInput.refl (s : State) : KeepsInput s s := ⟨rfl, rfl, rfl⟩

theorem KeepsInput.trans {s t u : State} (h : KeepsInput s t) (g : KeepsInput t u) : KeepsInput s u :=
  ⟨g.setup.trans h.setup, g.pins.trans h.pins, g.pending.trans h.pending⟩

theorem KeepsTable.keepsInput {s t : State} (h : KeepsTable s t) : KeepsInput s t := ⟨h.setup, h.pins, h.pending⟩

theorem SameBay.keepsInput {s t : State} (h : SameBay s t) : KeepsInput s t := h.keepsTable.keepsInput

theorem keepsInput_modSsl (s : State) (f) : KeepsInput s (s.modSsl f) := ⟨rfl, rfl, rfl⟩
theorem keepsInput_modBt (s : State) (f) : KeepsInput s (s.modBt f) := ⟨rfl, rfl, rfl⟩
theorem keepsInput_modBlu (s : State) (f) : KeepsInput s (s.modBlu f) := ⟨rfl, rfl, rfl⟩
theorem keepsInput_modTlu (s : State) (f) : KeepsInput s (s.modTlu f) := ⟨rfl, rfl, rfl⟩
theorem keepsInput_bt (s : State) (t : Table) : KeepsInput s { s with bt := t } := ⟨rfl, rfl, rfl⟩
theorem keepsInput_strike (s : State) (p) : KeepsInput s (s.strike p) := ⟨rfl, rfl, rfl⟩
theorem keepsInput_offer (s : State) (n o) : KeepsInput s (s.offer n o) := ⟨rfl, rfl, rfl⟩
theorem keepsInput_startTimer (s : State) (key h g l) : KeepsInput s (s.startTimer key h g l) := ⟨rfl, rfl, rfl⟩

theorem keepsInput_enter (s : State) (st) : KeepsInput s (s.enter st) := by
  unfold State.enter
  split <;> exact ⟨rfl, rfl, rfl⟩

theorem keepsInput_foldl {α : Type} (f : State → α → State) (h : ∀ s a, KeepsInput s (f s a)) (l : List α) (s : State) :
    KeepsInput s (l.foldl f s) := by
  induction l generalizing s with
  | nil => exact KeepsInput.refl s
  | cons a l ih => exact (h s a).trans (ih (f s a))

theorem keepsInput_leaveBay (s : State) (listen) : KeepsInput s (s.leaveBay listen) := by
  unfold State.leaveBay
  exact KeepsInput.trans (by exact ⟨rfl, rfl, rfl⟩)
    ((sameBay_leaveBook _).keepsInput.trans (keepsInput_foldl _ (fun t k => (sameBay_leaveChannel t k).keepsInput) _ _))

theorem keepsInput_detach (s : State) (r) : KeepsInput s (s.detach r) :=
  ((keepsInput_leaveBay s _).trans (keepsInput_modSsl _ _)).trans (keepsInput_enter _ _)

theorem keepsInput_refuse (s : State) : KeepsInput s s.refuse := by
  unfold State.refuse
  exact KeepsInput.trans (by exact ⟨rfl, rfl, rfl⟩) (keepsInput_enter _ _)

theorem keepsInput_ownLeave (s : State) : KeepsInput s s.ownLeave :=
  ((keepsInput_leaveBay s _).trans (keepsInput_modSsl _ _)).trans (keepsInput_enter _ _)

theorem keepsInput_setLateMark (s : State) : KeepsInput s s.setLateMark := ⟨rfl, rfl, rfl⟩

theorem keepsInput_lateJoinSelf (s : State) : KeepsInput s s.lateJoinSelf := by
  unfold State.lateJoinSelf
  exact KeepsInput.trans (by exact ⟨rfl, rfl, rfl⟩) (keepsInput_enter _ _)

theorem keepsInput_formationJoin (s : State) (a b c) : KeepsInput s (s.formationJoin a b c) := ⟨rfl, rfl, rfl⟩

theorem keepsInput_joinForming (s : State) (a b c) : KeepsInput s (s.joinForming a b c) := by
  unfold State.joinForming
  repeat' split
  · exact keepsInput_lateJoinSelf s
  · exact KeepsInput.refl s
  · exact keepsInput_modBt s _
  · exact keepsInput_formationJoin s _ _ _

theorem keepsInput_formedForming (s : State) : KeepsInput s s.formedForming := by
  unfold State.formedForming
  simp only
  repeat' split
  · exact ⟨rfl, rfl, rfl⟩
  · exact ⟨rfl, rfl, rfl⟩
  · exact KeepsInput.trans (by exact ⟨rfl, rfl, rfl⟩) (keepsInput_enter _ _)
  · exact KeepsInput.trans (by exact ⟨rfl, rfl, rfl⟩) (keepsInput_refuse _)
  · exact ⟨rfl, rfl, rfl⟩
  · exact ⟨rfl, rfl, rfl⟩

theorem keepsInput_imageHere (s : State) (a b) : KeepsInput s (s.imageHere a b) := ⟨rfl, rfl, rfl⟩

theorem keepsInput_imageForming (s : State) (a b) : KeepsInput s (s.imageForming a b) := by
  unfold State.imageForming
  exact ((KeepsInput.trans (by exact ⟨rfl, rfl, rfl⟩) (keepsInput_lateJoinSelf _)).trans (keepsInput_imageHere _ _ _))

theorem keepsInput_takeForming (s : State) (a n) : KeepsInput s (s.takeForming a n) := by
  unfold State.takeForming State.otherForming
  repeat' split
  all_goals
    first
    | exact KeepsInput.refl s
    | exact keepsInput_joinForming s _ _ _
    | exact keepsInput_formedForming s
    | exact keepsInput_imageForming s _ _
    | exact keepsInput_refuse s
    | exact keepsInput_setLateMark s

theorem keepsInput_restartImageTimer (s : State) (j) : KeepsInput s (s.restartImageTimer j) := by
  unfold State.restartImageTimer
  split <;> exact ⟨rfl, rfl, rfl⟩

theorem keepsInput_watchLines (n : Nat) (l : List (Option LineRec)) (s : State) : KeepsInput s (watchLines s n l) := by
  induction l generalizing n s with
  | nil => exact KeepsInput.refl s
  | cons r rs ih =>
    unfold watchLines
    split
    · exact (keepsInput_startTimer s _ _ _ _).trans (ih _ _)
    · exact ih _ _

theorem keepsInput_watchMixers (n : Nat) (l : List MixRec) (s : State) : KeepsInput s (watchMixers s n l) := by
  induction l generalizing n s with
  | nil => exact KeepsInput.refl s
  | cons r rs ih =>
    unfold watchMixers
    split
    · exact (keepsInput_startTimer s _ _ _ _).trans (ih _ _)
    · exact ih _ _

theorem keepsInput_watchAll (s : State) : KeepsInput s s.watchAll := by
  unfold State.watchAll
  split
  · exact (keepsInput_watchLines _ _ s).trans (keepsInput_watchMixers _ _ _)
  · exact keepsInput_watchLines _ _ s

theorem keepsInput_accepted (s : State) (c) : KeepsInput s (s.accepted c) := by
  unfold State.accepted
  exact (KeepsInput.trans (by exact ⟨rfl, rfl, rfl⟩) (keepsInput_enter _ _)).trans (keepsInput_watchAll _)

theorem keepsInput_takeJoining (s : State) (a n) : KeepsInput s (s.takeJoining a n) := by
  unfold State.takeJoining State.imageJoining State.imageEndJoining
  repeat' split
  all_goals
    first
    | exact KeepsInput.refl s
    | exact keepsInput_lateJoinSelf s
    | exact ⟨rfl, rfl, rfl⟩
    | exact keepsInput_imageHere s _ _
    | exact keepsInput_accepted s _
    | exact keepsInput_refuse s
    | exact keepsInput_restartImageTimer s _
    | exact KeepsInput.trans (by exact ⟨rfl, rfl, rfl⟩) (keepsInput_restartImageTimer _ _)

theorem keepsInput_takeEffects (s : State) (t es) (cursor : State → State) (h : ∀ u, KeepsTable u (cursor u)) :
    KeepsInput s (s.takeEffects t es cursor) :=
  KeepsInput.trans (by exact ⟨rfl, rfl, rfl⟩) (keepsTable_takeEffects s t es cursor h).keepsInput

theorem keepsInput_applyTake (s : State) (a n) : KeepsInput s (s.applyTake a n) := by
  unfold State.applyTake State.joinAttached State.formedAttached State.imageAttached State.imageEndAttached
  simp only
  repeat' split
  all_goals
    first
    | exact KeepsInput.refl s
    | exact ⟨rfl, rfl, rfl⟩
    | exact keepsInput_takeEffects s _ _ _ fun u => keepsTable_giveImage u _ _ _
    | exact (keepsInput_takeEffects s _ _ _ fun u => keepsTable_giveImage u _ _ _).trans ⟨rfl, rfl, rfl⟩
    | exact keepsInput_takeEffects s _ _ _ KeepsTable.refl
    | exact keepsInput_takeEffects s _ _ _ keepsTable_cursorAdvance
    | exact keepsInput_takeEffects s _ _ _ fun u => keepsTable_cursorDrop u _

theorem keepsInput_afterTake (s : State) : KeepsInput s s.afterTake := by
  unfold State.afterTake
  simp only
  split
  · exact keepsInput_modBt s _
  · exact (keepsInput_modBt s _).trans (keepsInput_detach _ _)

theorem keepsInput_takeAttached (s : State) (a n) : KeepsInput s (s.takeAttached a n) := by
  unfold State.takeAttached
  repeat' split
  · exact keepsInput_detach s _
  · exact keepsInput_ownLeave s
  · exact (keepsInput_leaveBay s _).trans (keepsInput_lateJoinSelf _)
  · exact (keepsInput_applyTake s _ _).trans (keepsInput_afterTake _)

theorem keepsInput_deliver (s : State) (a n) : KeepsInput s (s.deliver a n) := by
  unfold State.deliver
  split
  all_goals
    first
    | exact keepsInput_takeForming s _ _
    | exact keepsInput_takeJoining s _ _
    | exact keepsInput_takeAttached s _ _
    | exact KeepsInput.refl s

/-- A take leaves the setup, the plant inputs and the queue as they stand. -/
theorem keepsInput_take (s : State) (a n) : KeepsInput s (s.take a n) := by
  unfold State.take
  split
  · exact ((keepsTable_bookTake s _ _).keepsInput.trans (keepsInput_deliver _ _ _)).trans (sameBay_settle _).keepsInput
  · exact KeepsInput.refl s

end Sys2Proof.Machine
end

