-- ==== Sys2Proof/Tests/Slice0.lean ====
section
/-! SUPPORT. Tests: well-formedness refuses an ill-formed term of each check, small steps with the result the spec gives, and for each
statement with hypotheses a concrete state that meets them. -/

namespace Sys2Proof.Tests

open Sys2Proof Sys2Proof.Machine

/-! ### Small states -/

/-- Whether a command leads to a state with a property. -/
def after (c : Instr) (s : State) (p : State → Bool) : Bool :=
  match exec c s with
  | .next t => p t
  | _ => false

def lineConsts : LineConst := { shotSize := 96, shareBlock := 4, holdLimit := 50, settleDelay := 20 }

def block : SetupBlock :=
  { bay := { linesEquipped := 2, lines := List.replicate 16 lineConsts, mixersEquipped := 2, mixerMargin := 10, grace := 2,
             reserve := 100, formationWindow := 3 },
    cal := { station := 3, lines := List.replicate 16 { shotWidth := 400, shotPeriod := 1000 }, basePeriod := 20, fastDuty := 80,
             slowDuty := 25, slowBand := 40, baseTolerance := 5, baseLimit := 120, seatDelay := 200, pressWidth := 500,
             transferPulse := 300, transferLimit := 5 } }

/-- READY with a setup; the digest stands as a plain number. -/
def ready : State :=
  { State.reset with
    setup := some { block := block, digest := 77 }
    ssl := { Ssl.reset with state := .ready } }

def listening (s : State) (st : StationState) : State :=
  { s with ssl := { s.ssl with state := st }, blu := { s.blu with listen := .following } }

def present : RosterRec := { state := .present, giver := none, imageMark := false }

def joiningRec : RosterRec := { state := .joining, giver := some 3, imageMark := false }

/-- Stations 3 and 8 PRESENT, station 5 JOINING. -/
def roster : List RosterRec := (((List.replicate 16 RosterRec.empty).set 3 present).set 8 present).set 5 joiningRec

def held8 : Holder := { station := 8, grant := 4, askedShots := 2, askedDrops := 150, rush := .none, levelAtGrant := 1000 }

def line0 : LineRec := { service := .inService, level := 1000, grant := 4, holder := some held8, waiting := [] }

def line1 : LineRec := { service := .inService, level := 1000, grant := 0, holder := none, waiting := [] }

def claim8 : Claim := { station := 8, askedShots := 1, askedDrops := 96, requested := 1, effective := 1, passed := 3, rush := .none }

def mixers : Pool :=
  { recs := [{ state := .held, holder := some 8, grant := 2, mixTime := some 60 },
             { state := .free, holder := none, grant := 0, mixTime := none }],
    waiting := [] }

def table : Table :=
  { roster := roster, digest := some 77, formed := true, bayCount := some 7, lines := [some line0, some line1],
    pool := some mixers, tokens := some { a := none, b := none }, joinResults := List.replicate 16 none }

/-- Station 3 ATTACHED in a bay with station 8. -/
def inBay : State := { listening ready .attached with bt := table }

def withLine (n : Nat) (r : LineRec) : State := { inBay with bt := inBay.bt.setLine n r }

def withPool (p : Pool) : State := { inBay with bt := { inBay.bt with pool := some p } }

def withTokens (a b : Option TokenHolder) : State := { inBay with bt := { inBay.bt with tokens := some { a := a, b := b } } }

def fields : OrderFields :=
  { tag := 4410, size := 4, base := 500, priority := 1, rush := 1, lid := 0, mixTime := 60,
    entries := [{ line := 1, drops := 300, mode := 2 }, { line := 0, drops := 96, mode := 0 }] }

def anOrder (stage : Stage) : Order := { newOrder fields 0 with stage := stage }

/-- The order alone in slot 0, at the cradle or the outfeed. -/
def withOrder (s : State) (o : Order) (cradle outfeed : Bool) : State :=
  { s with
    obu := { s.obu with
      slots := s.obu.slots.set 0 (some o)
      cradle := if cradle then some 0 else none
      outfeed := if outfeed then some 0 else none } }

def withTlu (s : State) (t : Tlu) : State := { s with tlu := t }

def sendingReply : Tlu := { Tlu.reset with sending := some { kind := 11, result := .busy, data := .nothing } }

/-- Channel 0 of an order in TINT, on line 1. -/
def aChannel (st : ChannelState) : Channel :=
  { Channel.idle with
    state := st, line := 1, slot := 0, entry := 0, ordered := 300, mode := .whole,
    plan := { full := 3, trim := 12, planned := 4 },
    grant := { number := 1, askedShots := 4, askedDrops := 300, shotsDone := 0, drops := 0, final := true } }

def aPair (ph : PairPhase) (counter : Nat) : Pair :=
  { Pair.reset with
    phase := ph, bound := some 1, counter := counter, nextWidth := 400,
    pump := ph != .stopped, valve := ph == .opened,
    settleTimer := if ph = .settle then some 20 else none,
    periodTimer := if ph = .stopped ∨ ph = .settle then none else some 1000,
    valveTimer := if ph = .opened then some 400 else none }

def dosing (st : ChannelState) (ph : PairPhase) (counter : Nat) : State :=
  let s := withOrder inBay { anOrder .tint with handed := 2 } true false
  { s with dcs := s.dcs.set 0 (aChannel st), mps := s.mps.set 0 (aPair ph counter) }

def result (s : State) (r : PendingResult) : State := s.modDc 0 fun c => { c with result := r }

def awaiting : State := withOrder inBay { anOrder .mixWait with mixClaimOffered := true } false true

def withRoster (s : State) (q : Nat) (r : RosterRec) : State := { s with bt := s.bt.setRoster q r }

def withBlu (s : State) (f : Blu → Blu) : State := { s with blu := f s.blu }

def withBook (s : State) (f : Book → Book) : State := { s with obu := f s.obu }

/-- An entry that a void has sent back. -/
def sentBack (n : Notice) (o : Owner) : Entry := { Entry.fresh n o false with refill := true }

theorem no_order_lt (s : State) (p : Order → Bool) (h : (s.obu.slots.all fun o => o.all p) = true) :
    ∀ slot o, s.order slot = some o → p o = true := by
  intro slot o ho
  cases hx : s.obu.slots[slot]? with
  | none => simp [State.order, List.getD, hx] at ho
  | some y =>
    simp only [State.order, List.getD, hx, Option.getD_some] at ho
    subst ho
    simpa using List.all_eq_true.1 h _ (List.mem_of_getElem? hx)

theorem all_lines (s : State) (p : LineRec → Bool) (h : (s.bt.lines.all fun r => r.all p) = true) :
    ∀ n r, s.bt.line n = some r → p r = true := by
  intro n r hr
  cases hx : s.bt.lines[n]? with
  | none => simp [Table.line, hx] at hr
  | some y =>
    simp only [Table.line, hx, Option.join_some] at hr
    subst hr
    simpa using List.all_eq_true.1 h _ (List.mem_of_getElem? hx)

/-! ### Well-formedness: an ill-formed term for each check -/

theorem test_wf_beginNotice : (Instr.beginNotice (some 64)).wellFormed = false := by decide +kernel
theorem test_wf_void : (Instr.void []).wellFormed = false := by decide +kernel
theorem test_wf_takes :
    [Instr.joinTaken 16 3 7 none, .joinTaken 3 256 7 none, .joinTaken 3 3 65536 none, .joinTaken 3 3 7 (some 255), .formedTaken 16,
      .imageTaken 16 0 (.line 0 line1), .imageTaken 3 256 (.line 0 line1), .imageTaken 3 0 (.line 16 line1),
      .imageEndTaken 16 0 0 0, .imageEndTaken 3 256 0 0, .imageEndTaken 3 0 256 0, .imageEndTaken 3 0 0 65536, .leaveTaken 16,
      .claimTaken 16 0 0 0 0 0, .claimTaken 3 256 0 0 0 0, .claimTaken 3 0 256 0 0 0, .claimTaken 3 0 0 65536 0 0,
      .claimTaken 3 0 0 0 256 0, .claimTaken 3 0 0 0 0 256, .withdrawTaken 16 0, .withdrawTaken 3 256, .releaseTaken 16 0 0 0 0,
      .releaseTaken 3 256 0 0 0, .releaseTaken 3 0 256 0 0, .releaseTaken 3 0 0 65536 0, .releaseTaken 3 0 0 0 256,
      .refillTaken 16 0 0, .refillTaken 3 256 0, .refillTaken 3 0 16777216, .lineOutTaken 16 0, .lineOutTaken 3 256,
      .lineReturnTaken 16 0 0, .lineReturnTaken 3 256 0, .lineReturnTaken 3 0 16777216, .rushTakeTaken 16 1,
      .rushTakeTaken 3 65536, .rushDropTaken 16 0, .rushDropTaken 3 256, .mixClaimTaken 16 0 0 0, .mixClaimTaken 3 65536 0 0,
      .mixClaimTaken 3 0 256 0, .mixClaimTaken 3 0 0 256, .mixWithdrawTaken 16, .mixReleaseTaken 16 0 0 0,
      .mixReleaseTaken 3 256 0 0, .mixReleaseTaken 3 0 256 0, .mixReleaseTaken 3 0 0 256, .mixerReturnTaken 16 0,
      .mixerReturnTaken 3 256, .revokeTaken 16 (.line 0) 0 0, .revokeTaken 3 (.line 16) 0 0, .revokeTaken 3 (.mixer 240) 0 0,
      .revokeTaken 3 (.line 0) 256 0, .revokeTaken 3 (.line 0) 0 256].all (fun c => !c.wellFormed) = true := by decide +kernel
theorem test_wf_images :
    [Image.rosterTokens (List.replicate 15 RosterRec.empty) none none,
      .rosterTokens ((List.replicate 15 RosterRec.empty) ++ [{ state := .absent, giver := some 255, imageMark := false }]) none none,
      .rosterTokens (List.replicate 16 RosterRec.empty) (some { station := 16, tag := 1 }) none,
      .rosterTokens (List.replicate 16 RosterRec.empty) none (some { station := 3, tag := 0 }),
      .rosterTokens (List.replicate 16 RosterRec.empty) none (some { station := 3, tag := 65536 }), .mixers [] [],
      .mixers (List.replicate 5 MixRec.built) [], .mixers [{ MixRec.built with holder := some 16 }] [],
      .mixers [{ MixRec.built with grant := 256 }] [], .mixers [{ MixRec.built with mixTime := some 0 }] [],
      .mixers [MixRec.built] (List.replicate 17
        { station := 3, mixTime := 60, requested := 0, effective := 0, passed := 0, rush := .none }),
      .mixers [MixRec.built] [{ station := 16, mixTime := 60, requested := 0, effective := 0, passed := 0, rush := .none }],
      .mixers [MixRec.built] [{ station := 3, mixTime := 65536, requested := 0, effective := 0, passed := 0, rush := .none }],
      .mixers [MixRec.built] [{ station := 3, mixTime := 60, requested := 4, effective := 0, passed := 0, rush := .none }],
      .mixers [MixRec.built] [{ station := 3, mixTime := 60, requested := 0, effective := 4, passed := 0, rush := .none }],
      .mixers [MixRec.built] [{ station := 3, mixTime := 60, requested := 0, effective := 0, passed := 4, rush := .none }],
      .line 0 { line1 with level := 16777216 }, .line 0 { line1 with grant := 256 },
      .line 0 { line1 with holder := some { held8 with station := 16 } }, .line 0 { line1 with holder := some { held8 with grant := 256 } },
      .line 0 { line1 with holder := some { held8 with askedShots := 256 } },
      .line 0 { line1 with holder := some { held8 with askedDrops := 65536 } },
      .line 0 { line1 with holder := some { held8 with levelAtGrant := 16777216 } },
      .line 0 { line1 with waiting := List.replicate 17 claim8 }, .line 0 { line1 with waiting := [{ claim8 with station := 16 }] },
      .line 0 { line1 with waiting := [{ claim8 with askedShots := 256 }] },
      .line 0 { line1 with waiting := [{ claim8 with askedDrops := 65536 }] },
      .line 0 { line1 with waiting := [{ claim8 with requested := 4 }] },
      .line 0 { line1 with waiting := [{ claim8 with effective := 4 }] },
      .line 0 { line1 with waiting := [{ claim8 with passed := 4 }] }].all (fun i => !i.wellFormed) = true := by decide +kernel
theorem test_wf_setup :
    [Instr.setup { block with bay := { block.bay with linesEquipped := 256 } }, .setup { block with bay := { block.bay with lines := [] } },
      .setup { block with bay := { block.bay with lines := List.replicate 16 { lineConsts with shotSize := 256 } } },
      .setup { block with bay := { block.bay with lines := List.replicate 16 { lineConsts with shareBlock := 256 } } },
      .setup { block with bay := { block.bay with lines := List.replicate 16 { lineConsts with holdLimit := 65536 } } },
      .setup { block with bay := { block.bay with lines := List.replicate 16 { lineConsts with settleDelay := 256 } } },
      .setup { block with bay := { block.bay with mixersEquipped := 256 } },
      .setup { block with bay := { block.bay with mixerMargin := 256 } }, .setup { block with bay := { block.bay with grace := 256 } },
      .setup { block with bay := { block.bay with reserve := 65536 } },
      .setup { block with bay := { block.bay with formationWindow := 256 } },
      .setup { block with cal := { block.cal with station := 256 } }, .setup { block with cal := { block.cal with lines := [] } },
      .setup { block with cal := { block.cal with lines := List.replicate 16 { shotWidth := 65536, shotPeriod := 0 } } },
      .setup { block with cal := { block.cal with lines := List.replicate 16 { shotWidth := 0, shotPeriod := 65536 } } },
      .setup { block with cal := { block.cal with basePeriod := 65536 } }, .setup { block with cal := { block.cal with fastDuty := 256 } },
      .setup { block with cal := { block.cal with slowDuty := 256 } }, .setup { block with cal := { block.cal with slowBand := 65536 } },
      .setup { block with cal := { block.cal with baseTolerance := 65536 } },
      .setup { block with cal := { block.cal with baseLimit := 65536 } }, .setup { block with cal := { block.cal with seatDelay := 65536 } },
      .setup { block with cal := { block.cal with pressWidth := 65536 } },
      .setup { block with cal := { block.cal with transferPulse := 65536 } },
      .setup { block with cal := { block.cal with transferLimit := 65536 } }].all (fun c => !c.wellFormed) = true := by decide +kernel
theorem test_wf_commands :
    [Instr.order { fields with tag := 65536 }, .order { fields with size := 256 }, .order { fields with base := 65536 },
      .order { fields with priority := 256 }, .order { fields with rush := 256 }, .order { fields with lid := 256 },
      .order { fields with mixTime := 65536 }, .order { fields with entries := [{ line := 256, drops := 1, mode := 0 }] },
      .order { fields with entries := [{ line := 0, drops := 65536, mode := 0 }] },
      .order { fields with entries := [{ line := 0, drops := 1, mode := 256 }] },
      .order { fields with entries := List.replicate 60 { line := 0, drops := 1, mode := 0 } }, .cancel 65536, .priority 65536 0,
      .priority 0 256, .refill 256 0, .refill 0 16777216, .lineReturn 256 0, .lineReturn 0 16777216, .lineOut 256, .mixerReturn 256,
      .queryOrder 65536, .queryLine 256, .unknownCommandKind 256 [], .unknownCommandKind 16 [256],
      .unknownCommandKind 16 (List.replicate 251 0), .commandWhileSending 256,
      .frameDropped [{ value := 256, stopBit := true }]].all (fun c => !c.wellFormed) = true := by decide +kernel
theorem test_wf_events :
    [Instr.ownLineTimerExpiry 16, .ownMixerTimerExpiry 4, .watchTimerExpiry (.line 16), .watchTimerExpiry (.mixer 4), .settleExpiry 4,
      .valveExpiry 4, .capture 4, .tapMeterPulse 16, .seatingTimerExpiry 8, .pusherPulseExpiry (.toMixer 4),
      .confirmTimerExpiry (.toMixer 4), .occupiedInputChange 4 true, .runTimerExpiry 4, .doneInputRise 4, .doneInputFall 4].all
        (fun c => !c.wellFormed) = true := by decide +kernel
theorem test_wf_accepts :
    [Instr.setup block, .order fields, .joinTaken 5 5 77 (some 3), .imageTaken 3 5 (.line 0 line0),
      .imageTaken 3 5 (.rosterTokens roster none (some { station := 8, tag := 1 })), .imageTaken 3 5 (.mixers mixers.recs []),
      .revokeTaken 3 (.mixer 1) 8 4, .pusherPulseExpiry (.toMixer 3)].all Instr.wellFormed = true := by decide +kernel

/-! ### The layouts against the spec's own numbers -/

/-- R175, R177: the frame of START, with the check worked from the generator's sixteen coefficients. -/
theorem test_start_frame : frameBytes (commandKind .start) (commandPayload .start) = [195, 0, 2, 79, 237] := by decide +kernel

/-- R178: the payload of a CLAIM and of a REVOKE. -/
theorem test_claim_payload : noticePayload (.claim 1 4 300 1 0) = [1, 4, 1, 44, 1, 0] := by decide +kernel
theorem test_revoke_payload : noticePayload (.revoke (.mixer 1) 8 4) = [17, 8, 4] := by decide +kernel

/-- R3: a complement follows every run of five. -/
theorem test_stuffing : stuff [false, false, false, false, false, false, true] =
    [false, false, false, false, false, true, false, true] := by decide +kernel

/-- R8: what is sent is heard without fault; a changed bit is an objection. -/
theorem test_reception : receptionFaulty (noticeBits 8 (.refill 1 500)) = false ∧
    receptionFaulty ((noticeBits 8 (.refill 1 500)).set 30 true) = true := by decide +kernel

/-! ### The states that meet the hypotheses of the statements, clause by clause -/

theorem test_witness_CommandsLeaveWhatIsNotTheirs :
    Instr.queryStation ≠ .hardwareReset ∧ (∀ b, Instr.queryStation ≠ .setup b) ∧ Instr.queryStation.isPin = false
      ∧ Instr.queryStation.isBay = false ∧ after .queryStation inBay (fun _ => true) = true :=
  ⟨by decide, by intro b; exact Instr.noConfusion, by decide, by decide, by decide +kernel⟩

theorem test_witness_WaitsOnTheIdleLine :
    ({ inBay.blu with listen := .firstWait } : Blu).listen = .firstWait ∧ ready.blu.listen ≠ .firstWait
      ∧ inBay.blu.listen = .following ∧ inBay.transmitting = false := by decide +kernel

def offering (n : Notice) (turnSpent : Bool) : State :=
  { inBay with blu := { inBay.blu with list := [Entry.fresh n .book false], turnSpent := turnSpent } }

def sending (n : Notice) (voids objections : Nat) : State :=
  { inBay with
    blu := { inBay.blu with list := [{ Entry.fresh n .book false with transmitting := true }], voids := voids,
                            objections := objections } }

theorem test_witness_NoticesAreBegunAndTakesBooked :
    (offering .mixWithdraw false).hears = true ∧ (offering .mixWithdraw false).transmitting = false
      ∧ (offering .mixWithdraw false).blu.list = [Entry.fresh .mixWithdraw .book false]
      ∧ noticeClass .mixWithdraw = 1 ∧ (offering .mixWithdraw false).blu.turnSpent = false
      ∧ contentionValue (noticeClass .mixWithdraw) (offering .mixWithdraw false).me = 19
      ∧ noticeClass (.lineOut 1) = 0 ∧ (offering (.lineOut 1) true).blu.turnSpent = true
      ∧ after (.beginNotice (some 19)) (offering .mixWithdraw false) (fun t => t.transmitting) = true
      ∧ after (.beginNotice (some 18)) (offering .mixWithdraw false) (fun t => !t.transmitting) = true
      ∧ after (.beginNotice none) (offering .mixWithdraw true) (fun t => !t.transmitting) = true
      ∧ after (.beginNotice none) (offering (.lineOut 1) true) (fun t => t.transmitting) = true
      ∧ (sending .mixWithdraw 5 2).isOwnTake 3 .mixWithdraw = true ∧ (sending .mixWithdraw 5 2).isOwnTake 8 .mixWithdraw = false
      ∧ (sending .mixWithdraw 5 2).transmitting = true ∧ inBay.isOwnTake 8 .mixWithdraw = false ∧ inBay.transmitting = false := by
  decide +kernel

theorem test_witness_payloads_filled_in :
    inBay.bt.tokens = some { a := none, b := none } ∧ inBay.bt.pool = some mixers ∧ inBay.bt.line 0 = some line0
      ∧ inBay.fillNotice (Entry.fresh (.image 5 (.line 0 line1)) .cursor false) = .image 5 (.line 0 line0)
      ∧ inBay.fillNotice (Entry.fresh (.imageEnd 5 0 0) .cursor false) = .imageEnd 5 0 7
      ∧ inBay.fillNotice (Entry.fresh (.refill 1 5) .terminal true) = .refill 1 5
      ∧ (sentBack (.claim 1 1 96 0 0) (.channel 0)).refill = true ∧ ((dosing .claiming .stopped 0).dc 0).line = 1
      ∧ (dosing .claiming .stopped 0).fillNotice (sentBack (.claim 1 1 96 0 0) (.channel 0)) = .claim 1 4 300 1 0
      ∧ awaiting.awaitsMixer = some 0
      ∧ awaiting.fillNotice (sentBack (.mixClaim 10 0 0) .book) = .mixClaim 60 1 0 := by decide +kernel

def heard3 : Bits := noticeBits 3 .mixWithdraw

def heard8 : Bits := noticeBits 8 .mixWithdraw

theorem test_witness_VoidRaisesTheRightCounter :
    (sending .mixWithdraw 6 0).hears = true ∧ (sending .mixWithdraw 6 0).isOwnVoid heard3 = true
      ∧ (sending .mixWithdraw 6 0).blu.voids = 6 ∧ (sending .mixWithdraw 7 0).isOwnVoid heard3 = true
      ∧ (sending .mixWithdraw 0 2).isOwnVoid heard8 = false ∧ receptionFaulty (heard8 ++ [true]) = true
      ∧ inBay.isOwnVoid (heard8 ++ [true]) = false ∧ receptionFaulty heard8 = false
      ∧ after (.void heard3) (sending .mixWithdraw 6 0) (fun t => t.blu.voids == 7 && t.isAttached) = true
      ∧ after (.void heard3) (sending .mixWithdraw 7 0) (fun t => t.ssl.lastDetach == .bayJammed) = true
      ∧ after (.void (heard8 ++ [true])) (sending .mixWithdraw 0 2) (fun t => t.blu.objections == 3 && t.isAttached) = true
      ∧ after (.void (heard8 ++ [true])) (sending .mixWithdraw 0 3) (fun t => t.ssl.lastDetach == .objectionLimit) = true := by
  decide +kernel

def fullBlu (n : Nat) : Blu := { Blu.reset with list := List.replicate n (Entry.fresh (.withdraw 1) .book false) }

def clashBlu : Blu := { Blu.reset with list := [Entry.fresh (.claim 1 4 300 1 0) (.channel 0) false] }

theorem test_witness_OffersAndStrikes :
    (clashBlu.list ++ clashBlu.held).any (clashes (.claim 1 1 96 0 0)) = true
      ∧ (clashBlu.list ++ clashBlu.held).any (clashes (.claim 2 1 96 0 0)) = false ∧ (fullBlu 16).list.length = 16
      ∧ ((fullBlu 16).list ++ (fullBlu 16).held).any (clashes .mixWithdraw) = false ∧ (fullBlu 15).list.length < 16
      ∧ classSorted (fullBlu 15).list = true
      ∧ (Entry.fresh .mixWithdraw .book false).transmitting = false
      ∧ ({ Entry.fresh .mixWithdraw .book false with transmitting := true, strikeHeld := true } : Entry).strikeHeld = true := by
  decide +kernel

/-- Fifteen entries in the list, and one offer held of each of three classes. -/
def heldBlu : Blu :=
  { fullBlu 15 with
    held := [Entry.fresh .mixWithdraw .book false, Entry.fresh (.lineOut 1) .terminal true, Entry.fresh (.refill 1 5) .terminal true] }

theorem test_witness_held_offers_are_admitted :
    heldBlu.list.length < 16
      ∧ heldBlu.held = [Entry.fresh .mixWithdraw .book false] ++ Entry.fresh (.lineOut 1) .terminal true
          :: [Entry.fresh (.refill 1 5) .terminal true]
      ∧ (Entry.fresh (.lineOut 1) .terminal true).class_ < (Entry.fresh .mixWithdraw .book false).class_
      ∧ (Entry.fresh (.lineOut 1) .terminal true).class_ ≤ (Entry.fresh (.refill 1 5) .terminal true).class_
      ∧ heldBlu.admitHeld.list.head? = some (Entry.fresh (.lineOut 1) .terminal true) ∧ heldBlu.admitHeld.held.length = 2
      ∧ (fullBlu 15).held = [] ∧ (fullBlu 16).admitHeld = fullBlu 16
      ∧ (heldBlu.strike fun e => noticeKind e.notice == 15).held = [Entry.fresh (.refill 1 5) .terminal true] := by decide +kernel

/-- Station 3 in its bay keeps its records at the command, and counts the take. -/
def discards (c : Instr) : Bool := after c inBay fun t => t.bt == inBay.bt.counted

theorem test_witness_NoticesOfNonMembersOrUnequippedSubjectsAreDiscarded :
    (Instr.refillTaken 8 2 5).taken = some (8, .refill 2 5) ∧ (Notice.refill 2 5).lineNamed = some 2 ∧ inBay.member = true
      ∧ (inBay.bt.rosterAt 8).state ≠ .absent ∧ inBay.bt.unequipped 2 = true ∧ inBay.bt.unequipped 1 = false
      ∧ (inBay.bt.rosterAt 5).state = .joining ∧ inBay.bt.isPresent 5 = false ∧ inBay.bt.isPresent 8 = true
      ∧ (Instr.leaveTaken 5).taken = some (5, .leave) ∧ 5 ≤ noticeKind .leave
      ∧ ([.leaveTaken 5, .claimTaken 5 1 1 96 0 0, .rushTakeTaken 5 7, .rushDropTaken 5 0, .mixClaimTaken 5 60 0 0,
            .mixWithdrawTaken 5, .mixReleaseTaken 5 0 2 0, .mixerReturnTaken 5 0, .revokeTaken 5 (.line 0) 8 4].all discards) = true
      ∧ inBay.bt.pool = some mixers ∧ mixers.recs[2]? = none ∧ inBay.bay.mixersEquipped = 2
      ∧ discards (.mixReleaseTaken 8 2 2 0) = true ∧ discards (.mixerReturnTaken 8 2) = true
      ∧ inBay.bt.line 1 = some line1 ∧ line1.holder = none ∧ inBay.bt.line 0 = some line0 ∧ line0.holder = some held8
      ∧ held8.station = 8 ∧ held8.grant = 4
      ∧ ([.revokeTaken 8 (.line 2) 8 4, .revokeTaken 8 (.line 0) 16 4, .revokeTaken 8 (.line 0) 8 256, .revokeTaken 8 (.line 1) 8 0,
            .revokeTaken 8 (.line 0) 3 4, .revokeTaken 8 (.line 0) 8 5].all discards) = true
      ∧ discards (.revokeTaken 8 (.line 0) 8 4) = false
      ∧ mixers.recs[0]? = some { state := .held, holder := some 8, grant := 2, mixTime := some 60 }
      ∧ mixers.recs[1]? = some { state := .free, holder := none, grant := 0, mixTime := none }
      ∧ ([.revokeTaken 8 (.mixer 2) 8 2, .revokeTaken 8 (.mixer 0) 16 2, .revokeTaken 8 (.mixer 0) 8 256,
            .revokeTaken 8 (.mixer 1) 8 0, .revokeTaken 8 (.mixer 0) 3 2, .revokeTaken 8 (.mixer 0) 8 3].all discards) = true
      ∧ discards (.revokeTaken 8 (.mixer 0) 8 2) = false := by decide +kernel

def waitLine : LineRec := { line1 with level := 50, waiting := [claim8] }

theorem test_witness_ClaimAndWithdrawTakes :
    inBay.member = true ∧ inBay.bt.isPresent 8 = true ∧ inBay.bt.line 1 = some line1 ∧ rushOfCode 2 = some .b
      ∧ rushOfCode 3 = none ∧ inBay.bt.line 0 = some line0 ∧ held8.station = 8
      ∧ (withLine 1 waitLine).bt.line 1 = some waitLine ∧ claim8 ∈ waitLine.waiting
      ∧ (withLine 1 { line1 with service := .out }).bt.line 1 = some { line1 with service := .out }
      ∧ after (.claimTaken 8 1 63 1000 2 0) inBay (fun t => (t.bt.line 1).any fun r => r.grant == 1) = true
      ∧ after (.claimTaken 8 1 64 1000 2 0) inBay (fun t => t.bt.line 1 == some line1) = true
      ∧ after (.claimTaken 8 0 1 1 0 0) inBay (fun t => t.bt.line 0 == some line0) = true
      ∧ after (.withdrawTaken 8 1) (withLine 1 waitLine) (fun t => t.bt.line 1 == some { line1 with level := 50 }) = true
      ∧ after (.withdrawTaken 8 1) inBay (fun t => t.bt.line 1 == some line1) = true := by decide +kernel

theorem test_witness_ReleaseTakeEndsTheHolding :
    inBay.member = true ∧ inBay.bt.isPresent 8 = true ∧ inBay.bt.line 0 = some line0 ∧ line0.holder = some held8
      ∧ held8.station = 8 ∧ held8.grant = 4
      ∧ after (.releaseTaken 8 0 4 150 0) inBay (fun t => (t.bt.line 0).any fun r => r.level == 850) = true
      ∧ after (.releaseTaken 8 0 4 16383 0) inBay (fun t => (t.bt.line 0).any fun r => r.level == 0 && r.holder.isNone) = true
      ∧ after (.releaseTaken 8 0 4 16384 0) inBay (fun t => t.bt.line 0 == some line0) = true
      ∧ after (.releaseTaken 8 0 4 1 1) inBay (fun t => (t.bt.line 0).any fun r => r.level == 0 && r.service == .inService) = true
      ∧ after (.releaseTaken 8 0 4 1 2) inBay (fun t => (t.bt.line 0).any fun r => r.service == .out) = true
      ∧ after (.releaseTaken 8 0 4 1 3) inBay (fun t => t.bt.line 0 == some line0) = true
      ∧ after (.releaseTaken 8 0 5 1 0) inBay (fun t => t.bt.line 0 == some line0) = true := by decide +kernel

theorem test_witness_RefillLineOutAndLineReturnTakes :
    inBay.member = true ∧ inBay.bt.isPresent 8 = true ∧ inBay.bt.line 0 = some line0 ∧ line0.service = .inService
      ∧ (withLine 1 { line1 with service := .out }).bt.line 1 = some { line1 with service := .out }
      ∧ (withLine 1 { line1 with service := .out }).member = true
      ∧ after (.refillTaken 8 1 16777215) (withLine 1 waitLine)
          (fun t => (t.bt.line 1).any fun r => r.holder.isSome && r.waiting.isEmpty) = true
      ∧ after (.lineOutTaken 8 0) inBay (fun t => (t.bt.line 0).any fun r => r.holder.isNone && r.service == .out) = true
      ∧ after (.lineReturnTaken 8 1 7) (withLine 1 { line1 with service := .out })
          (fun t => t.bt.line 1 == some { line1 with level := 7 }) = true := by decide +kernel

/-- Line 1 held by this station, with the grant that its channel 0 has. -/
def ownHolding (s : State) : State :=
  { s with bt := inBay.bt.setLine 1 { line1 with grant := 1, holder := some { held8 with station := 3, grant := 1 } } }

/-- This station's claim alone waits on line 1, and its level is too low for it. -/
def ownClaim (s : State) : State :=
  { s with
    bt := inBay.bt.setLine 1 { line1 with level := 200, waiting := [{ claim8 with station := 3, askedShots := 4, askedDrops := 300 }] } }

theorem test_witness_line_takes_tell_the_channel :
    (dosing .claiming .stopped 0).worker 1 = some 0 ∧ (dosing .claiming .stopped 0).worker 0 = none
      ∧ inBay.bt.unequipped 2 = true
      ∧ after (.claimTaken 3 1 4 300 1 0) (dosing .claiming .stopped 0) (fun t => (t.dc 0).state == .settling) = true
      ∧ after (.claimTaken 3 1 0 300 1 0) (dosing .claiming .stopped 0) (fun t => t.dc 0 == Channel.idle) = true
      ∧ (ownClaim (dosing .withdrawing .stopped 0)).member = true
      ∧ after (.withdrawTaken 3 1) (ownClaim (dosing .withdrawing .stopped 0)) (fun t => t.dc 0 == Channel.idle) = true
      ∧ (ownHolding (result (dosing .releasing .stopped 0) .done)).member = true
      ∧ after (.releaseTaken 3 1 1 300 0) (ownHolding (result (dosing .releasing .stopped 0) .done))
          (fun t => t.dc 0 == Channel.idle) = true
      ∧ after (.releaseTaken 3 1 1 16384 0) (ownHolding (result (dosing .releasing .stopped 0) .done))
          (fun t => t.dc 0 == Channel.idle && t.bt.line 1 == (ownHolding inBay).bt.line 1) = true
      ∧ after (.lineOutTaken 8 1) (ownHolding (dosing .shooting .opened 5))
          (fun t => (t.dc 0).stopCause == .lineOut && (t.mp 0).phase == .drain && !t.tapValve 1) = true
      ∧ after (.lineOutTaken 8 1) (ownClaim (dosing .waiting .stopped 0)) (fun t => t.dc 0 == Channel.idle) = true
      ∧ after (.claimTaken 8 1 63 1000 2 0) inBay (· == inBay.takenBy 8 (.claim 1 63 1000 2 0)
          (inBay.bt.setLine 1 (LineRec.grantChoice 100 { line1 with waiting :=
            [{ claim8 with askedShots := 63, askedDrops := 1000, requested := 2, effective := 2, passed := 0 }] }))
          [.lineGranted 1 { held8 with grant := 1, askedShots := 63, askedDrops := 1000 }]) = true := by decide +kernel

theorem test_witness_LineStatusAndLow :
    ({ line1 with service := .out } : LineRec).service = .out ∧ line0.holder = some held8 ∧ line1.waiting = [] ∧ waitLine.waiting ≠ []
      ∧ waitLine.holder = none ∧ lineLow 50 waitLine = false ∧ lineLow 51 waitLine = true := by decide +kernel

theorem test_witness_GrantChoiceGrantsTheBestClaimOrStalls :
    LineRec.best 50 waitLine = some 0 ∧ waitLine.waiting[0]? = some claim8 ∧ waitLine.level < claim8.askedDrops
      ∧ LineRec.best 50 { waitLine with level := 96 } = some 0 ∧ claim8.askedDrops = 96
      ∧ LineRec.best 100 { waitLine with level := 99, waiting := [{ claim8 with effective := 0 }] } = none
      ∧ LineRec.best 0 { line1 with waiting := [claim8, { claim8 with station := 3, rush := .b }, { claim8 with station := 4, rush := .a }] }
          = some 2 := by decide +kernel

theorem test_witness_RushTokensAreTakenAndDropped :
    (withTokens none none).member = true ∧ (withTokens none none).bt.isPresent 8 = true
      ∧ (withTokens none none).bt.tokens = some { a := none, b := none }
      ∧ tokenOfCode 0 = some .a ∧ (withTokens (some { station := 8, tag := 9 }) none).bt.holdsToken 8 .a = true
      ∧ tokenOfCode 2 = none ∧ (withTokens none none).bt.holdsToken 8 .b = false
      ∧ after (.rushTakeTaken 8 65535) (withTokens none none)
          (fun t => t.bt.tokens == some { a := some { station := 8, tag := 65535 }, b := none }) = true
      ∧ after (.rushTakeTaken 8 1) (withTokens (some { station := 3, tag := 1 }) none)
          (fun t => t.bt.tokens == some { a := some { station := 3, tag := 1 }, b := some { station := 8, tag := 1 } }) = true
      ∧ after (.rushTakeTaken 8 9) (withTokens (some { station := 8, tag := 9 }) none)
          (fun t => t.bt.tokens == some { a := some { station := 8, tag := 9 }, b := none }) = true
      ∧ after (.rushDropTaken 8 0) (withTokens (some { station := 8, tag := 9 }) none)
          (fun t => t.bt.tokens == some { a := none, b := none }) = true := by decide +kernel

def mixClaim8 : MixClaim := { station := 8, mixTime := 60, requested := 1, effective := 1, passed := 3, rush := .none }

def fullPool : Pool := { recs := [{ state := .held, holder := some 3, grant := 2, mixTime := some 60 }], waiting := [mixClaim8] }

theorem test_witness_MixClaimAndMixWithdrawTakes :
    inBay.member = true ∧ inBay.bt.isPresent 8 = true ∧ inBay.bt.pool = some mixers ∧ (withPool fullPool).member = true
      ∧ (withPool fullPool).bt.pool = some fullPool ∧ mixClaim8 ∈ fullPool.waiting
      ∧ after (.mixClaimTaken 8 300 2 0) inBay (fun t => (t.bt.pool).any fun p => p.recs[1]?.any fun r => r.state == .held) = true
      ∧ after (.mixClaimTaken 8 301 2 0) inBay (fun t => t.bt.pool == some mixers) = true
      ∧ after (.mixClaimTaken 8 60 0 0) (withPool fullPool) (fun t => t.bt.pool == some fullPool) = true
      ∧ after (.mixWithdrawTaken 8) (withPool fullPool) (fun t => t.bt.pool == some { fullPool with waiting := [] }) = true
      ∧ after (.mixWithdrawTaken 8) inBay (fun t => t.bt.pool == some mixers) = true := by decide +kernel

theorem test_witness_MixReleaseAndMixerReturnTakes :
    inBay.member = true ∧ inBay.bt.isPresent 8 = true ∧ inBay.bt.pool = some mixers
      ∧ mixers.recs[0]? = some { state := .held, holder := some 8, grant := 2, mixTime := some 60 }
      ∧ after (.mixReleaseTaken 8 0 2 0) inBay (fun t => t.bt.pool.any fun p => p.recs[0]?.any fun r => r.state == .free) = true
      ∧ after (.mixReleaseTaken 8 0 2 2) inBay (fun t => t.bt.pool.any fun p => p.recs[0]?.any fun r => r.state == .out) = true
      ∧ after (.mixReleaseTaken 8 0 2 3) inBay (fun t => t.bt.pool == some mixers) = true
      ∧ after (.mixReleaseTaken 8 0 1 0) inBay (fun t => t.bt.pool == some mixers) = true
      ∧ after (.mixerReturnTaken 8 0) (withPool { recs := [{ MixRec.built with state := .out }], waiting := [] })
          (fun t => t.bt.pool == some { recs := [MixRec.built], waiting := [] }) = true
      ∧ after (.mixerReturnTaken 8 1) inBay (fun t => t.bt.pool == some mixers) = true := by decide +kernel

/-- Worked sequence 4.6, take 3105: the tell says FREE, though the mixer is granted again at the same take. -/
theorem test_mix_release_tell_carries_the_state_it_gives :
    (Table.mixRelease 8 { table with pool := some { recs := [mixers.recs.headD MixRec.built], waiting := [mixClaim8] } } 8 0 2 0).2
      = [.mixerEnded 0 8 2, .tellBook (.mixReleaseApplied .free), .mixerGranted 0 8 3 mixClaim8.mixTime] := by decide +kernel

/-- A drop of token A takes the rush of the claim that stalled line 1, and the claim behind it is granted. -/
def stalledByRush : State :=
  { withTokens (some { station := 8, tag := 9 }) none with
    bt := (withTokens (some { station := 8, tag := 9 }) none).bt.setLine 1
      { line1 with level := 150, waiting := [{ claim8 with askedDrops := 200, effective := 0, rush := .a }, { claim8 with station := 3 }] } }

theorem test_witness_a_drop_grants :
    stalledByRush.member = true ∧ stalledByRush.bt.holdsToken 8 .a = true
      ∧ after (.rushDropTaken 8 0) stalledByRush
          (fun t => (t.bt.line 1).any fun r => r.holder.any (fun h => h.station == 3) && r.waiting.length == 1) = true := by
  decide +kernel

theorem test_witness_best_claim_of_the_pool :
    Pool.best { recs := [], waiting := [mixClaim8, { mixClaim8 with rush := .b }, { mixClaim8 with rush := .a }] } = some 2
      ∧ Pool.best { recs := [], waiting := [mixClaim8, { mixClaim8 with rush := .b }] } = some 1
      ∧ Pool.best { recs := [], waiting := [{ mixClaim8 with effective := 0 }, { mixClaim8 with effective := 2 }, mixClaim8,
          { mixClaim8 with effective := 2 }] } = some 1
      ∧ Pool.best mixers = none
      ∧ (Pool.grantChoice { recs := [MixRec.built], waiting := [mixClaim8] }).2 = [.mixerGranted 0 8 1 60] := by decide +kernel

theorem test_witness_PoolGrantChoiceAndAging :
    Pool.best { recs := [MixRec.built], waiting := [mixClaim8] } = some 0
      ∧ ([MixRec.built] : List MixRec)[0]? = some MixRec.built ∧ MixRec.built.state = .free ∧ mixers.waiting = []
      ∧ (∀ r ∈ fullPool.recs, r.state ≠ .free) ∧ claim8.rush = .none ∧ claim8.passed = 3 ∧ claim8.effective < 2
      ∧ ({ claim8 with effective := 2 } : Claim).effective = 2 ∧ ({ claim8 with passed := 2 } : Claim).passed < 3 := by
  decide +kernel

theorem test_witness_LeaveAndRevokePurgeTheStation :
    inBay.member = true ∧ inBay.bt.isPresent 8 = true ∧ 8 ≠ inBay.me ∧ inBay.bt.isPresent 3 = true
      ∧ inBay.bt.line 0 = some line0 ∧ line0.holder = some held8 ∧ held8.station = 8 ∧ held8.grant ≤ 255
      ∧ inBay.bt.pool = some mixers
      ∧ mixers.recs[0]? = some { state := .held, holder := some 8, grant := 2, mixTime := some 60 }
      ∧ after (.leaveTaken 8) inBay (fun t => t.bt.line 0 == some { line0 with holder := none, level := 850 }) = true
      ∧ after (.revokeTaken 3 (.line 0) 8 4) inBay (fun t => (t.bt.rosterAt 8).state == .absent && t.isAttached) = true
      ∧ after (.revokeTaken 3 (.line 0) 8 5) inBay (fun t => (t.bt.rosterAt 8).state == .present) = true := by decide +kernel

/-- Station 5 JOINING with station 8 for its giver. -/
def otherGiver : State := withRoster inBay 5 { joiningRec with giver := some 8 }

/-- What is left of station 8. -/
def gone8 (t : State) : Bool := t.bt.rosterAt 8 == RosterRec.empty && t.bt.line 0 == some { line0 with holder := none, level := 850 }

theorem test_witness_purges_by_JOIN_and_FORMED :
    otherGiver.member = true ∧ otherGiver.bt.roster.length = 16 ∧ 5 ≠ otherGiver.me
      ∧ otherGiver.bt.rosterAt 5 = { state := .joining, giver := some 8, imageMark := false } ∧ otherGiver.bt.isPresent 8 = true
      ∧ inBay.bt.rosterAt 8 = present ∧ inBay.bt.rosterAt 9 = RosterRec.empty
      ∧ after (.joinTaken 5 5 77 none) otherGiver (fun t => gone8 t && (t.bt.rosterAt 5).giver == some 3) = true
      ∧ after (.joinTaken 5 5 77 (some 8)) otherGiver gone8 = true
      ∧ after (.joinTaken 9 9 77 (some 8)) inBay (fun t => gone8 t && (t.bt.rosterAt 9).state == .joining) = true
      ∧ after (.joinTaken 8 8 77 none) inBay
          (fun t => t.bt.rosterAt 8 == joiningRec && t.bt.line 0 == some { line0 with holder := none, level := 850 }) = true
      ∧ after (.joinTaken 9 9 77 (some 9)) inBay (fun t => t.bt.rosterAt 9 == joiningRec) = true
      ∧ after (.formedTaken 8) inBay (fun t => t.bt == inBay.bt.counted) = true
      ∧ after (.formedTaken 9) inBay (fun t => t.bt == inBay.bt.counted) = true
      ∧ after (.formedTaken 5) otherGiver (fun t => gone8 t && t.bt.rosterAt 5 == joiningRec) = true
      ∧ after (.revokeTaken 3 (.mixer 0) 8 2) inBay gone8 = true ∧ 0 < inBay.bay.mixersEquipped := by decide +kernel

theorem test_witness_what_a_purge_takes :
    LineRec.purge 8 (fun r => r == .a) { line0 with level := 100, waiting := [{ claim8 with station := 3, rush := .a }, claim8] } =
        { line0 with level := 0, holder := none, waiting := [{ claim8 with station := 3 }] }
      ∧ LineRec.purge 8 (fun _ => false) waitLine = { line1 with level := 50 }
      ∧ (Pool.purge 8 (fun _ => false) mixers).recs[0]? = some { state := .out, holder := none, grant := 2, mixTime := none } := by
  decide +kernel

theorem test_witness_the_pool_and_the_tokens_are_purged :
    freeHolder 8 (some { station := 8, tag := 9 }) = none
      ∧ freeHolder 8 (some { station := 3, tag := 9 }) = some { station := 3, tag := 9 }
      ∧ after (.joinTaken 5 5 77 none) { otherGiver with bt := { otherGiver.bt with
            tokens := some { a := some { station := 8, tag := 9 }, b := some { station := 3, tag := 4 } } } }
          (fun t => t.bt.tokens == some { a := none, b := some { station := 3, tag := 4 } }
            && t.bt.pool == some (Pool.purge 8 (fun r => r == .a) mixers) && t.bt.digest == some 77) = true
      ∧ after (.formedTaken 5) { otherGiver with bt := { otherGiver.bt with
            tokens := some { a := some { station := 3, tag := 9 }, b := some { station := 8, tag := 4 } } } }
          (fun t => t.bt.tokens == some { a := some { station := 3, tag := 9 }, b := none }
            && t.bt.pool == some (Pool.purge 8 (fun r => r == .b) mixers)) = true := by decide +kernel

/-- A PRESENT station that gives to 5, which has seen no IMAGE of it, with a notice waiting and one held. -/
def selfGiver : State :=
  withBlu (withRoster inBay 5 joiningRec) fun b =>
    { b with
      list := [Entry.fresh .mixWithdraw .book false], held := [Entry.fresh (.refill 1 5) .terminal true]
      cursor := { joiners := [{ station := 5, accepted := true }], next := some .mixers } }

/-- The command purges this station. -/
def purgesSelf (c : Instr) (s : State) : Bool :=
  after c s fun t => t.ssl.state == .detached && t.ssl.lastDetach == .purged && t.bt == Table.empty && t.blu.list.isEmpty
    && t.blu.held.isEmpty && t.blu.cursor.joiners.isEmpty && t.ssl.rejoinTimer == some 2300

/-- This station holds mixer 1. -/
def ownMixer : State := withPool { mixers with recs := mixers.recs.set 1 { MixRec.built with state := .held, holder := some 3, grant := 255 } }

theorem test_witness_purges_of_this_station :
    selfGiver.member = true ∧ selfGiver.bt.roster.length = 16 ∧ selfGiver.me = 3
      ∧ selfGiver.bt.rosterAt 5 = { state := .joining, giver := some 3, imageMark := false }
      ∧ ownMixer.member = true ∧ ownMixer.bt.isPresent 8 = true ∧ 1 < ownMixer.bay.mixersEquipped
      ∧ purgesSelf (.revokeTaken 8 (.mixer 1) 3 255) ownMixer = true
      ∧ purgesSelf (.joinTaken 9 9 77 (some 3)) selfGiver = true ∧ purgesSelf (.joinTaken 5 5 77 none) selfGiver = true
      ∧ purgesSelf (.formedTaken 5) selfGiver = true
      ∧ purgesSelf (.revokeTaken 8 (.line 1) 3 1) (ownHolding inBay) = true
      ∧ purgesSelf (.joinTaken 5 5 77 none) (withRoster selfGiver 5 { joiningRec with imageMark := true }) = false := by decide +kernel

theorem test_witness_TakesThatDetachThisStation :
    (withLine 1 { line1 with holder := some { held8 with station := 3 } }).member = true
      ∧ (withLine 1 { line1 with holder := some { held8 with station := 3 } }).bt.isPresent 8 = true
      ∧ (withLine 1 { line1 with holder := some { held8 with station := 3 } }).me = 3
      ∧ (withLine 1 { line1 with holder := some { held8 with station := 3 } }).bt.line 1
          = some { line1 with holder := some { held8 with station := 3 } }
      ∧ (Instr.leaveTaken 9).taken = some (9, .leave) ∧ inBay.hears = true ∧ (inBay.bt.rosterAt 9).state = .absent
      ∧ (Instr.imageTaken 8 3 (.line 0 line0)).taken = some (8, .image inBay.me (.line 0 line0))
      ∧ after (.leaveTaken 9) inBay (fun t => t.ssl.lastDetach == .outOfStep) = true := by decide +kernel

/-! ### Forming, joining and leaving -/

def forming : State := listening ready .forming

/-- FORMING, with formation open. -/
def formingOpen (digest : Nat) (r : List RosterRec) : State :=
  { forming with bt := { Table.empty with digest := some digest, roster := r } }

theorem test_witness_FormationJoinEntersByDigest :
    forming.hears = true ∧ forming.ssl.state = .forming ∧ forming.ssl.lateMark = false ∧ forming.bt.formed = false
      ∧ 15 < forming.bt.roster.length ∧ forming.bt.digest = none ∧ (formingOpen 77 roster).bt.digest = some 77
      ∧ (formingOpen 77 roster).hears = true
      ∧ after (.joinTaken 15 15 77 none) forming (fun t => t.ssl.formationWindow == some 3000 && t.bt.isPresent 15) = true
      ∧ after (.joinTaken 8 8 78 none) (formingOpen 77 roster) (fun t => !t.bt.isPresent 8 && t.bt.isPresent 3) = true := by
  decide +kernel

theorem test_witness_FormedTakeClosesFormation :
    forming.hears = true ∧ (formingOpen 77 roster).bt.isPresent (formingOpen 77 roster).me = true
      ∧ (formingOpen 78 (List.replicate 16 RosterRec.empty)).bt.isPresent 3 = false
      ∧ (formingOpen 78 (List.replicate 16 RosterRec.empty)).digest = 77
      ∧ after (.formedTaken 8) (formingOpen 77 roster) (fun t => t.isAttached && t.bt.lines.length == 2) = true
      ∧ after (.formedTaken 8) (formingOpen 78 (List.replicate 16 RosterRec.empty)) (fun t => t.ssl.state == .refused) = true
      ∧ after (.formedTaken 8) (formingOpen 77 (List.replicate 16 RosterRec.empty)) (fun t => t.ssl.lateMark) = true
      ∧ after (.formedTaken 8) forming (fun t => t.bt.formed && t.ssl.state == .forming) = true := by decide +kernel

def lateForming : State := { forming with ssl := { forming.ssl with lateMark := true } }

/-- FORMING, the FORMED of a bay heard whose JOINs were not. -/
def formedForming : State := { forming with bt := { Table.empty with formed := true } }

theorem test_witness_a_FORMING_station_counts_once_formed :
    formedForming.hears = true ∧ formedForming.ssl.state = .forming ∧ formedForming.ssl.lateMark = false
      ∧ formedForming.bt.formed = true ∧ 8 ≠ formedForming.me
      ∧ after (.formedTaken 8) formedForming (fun t => t.bt.bayCount == some 1) = true
      ∧ after (.joinTaken 8 8 77 none) formedForming (fun t => t.bt.bayCount == some 1) = true
      ∧ after (.formedTaken 8) lateForming (fun t => t.bt == Table.empty && t.ssl.lateMark) = true
      ∧ after (.joinTaken 8 8 77 none) lateForming (fun t => t.bt == Table.empty) = true
      ∧ after (.joinTaken 3 3 77 none) formedForming (fun t => t.ssl.state == .joining) = true := by decide +kernel

def joiningState : State :=
  { listening ready .joining with
    bt := { Table.joiner 77 2 with roster := (Table.joiner 77 2).roster.set 3 { joiningRec with giver := some 8 } } }

def joiningTaken : State := { joiningState with ssl := { joiningState.ssl with joinTaken := true, imageTimer := some 5000 } }

theorem test_witness_LateStationsJoin :
    (Instr.refillTaken 8 0 5).taken = some (8, .refill 0 5) ∧ noticeKind (.refill 0 5) ≠ 1 ∧ noticeKind (.refill 0 5) ≠ 2
      ∧ forming.hears = true ∧ forming.ssl.joinTaken = false ∧ lateForming.hears = true ∧ lateForming.ssl.lateMark = true
      ∧ joiningState.hears = true ∧ joiningState.ssl.state = .joining
      ∧ after (.refillTaken 8 0 5) forming (fun t => t.ssl.lateMark) = true
      ∧ after (.joinTaken 3 3 77 none) lateForming (fun t => t.ssl.state == .joining && t.ssl.imageTimer == some 5000) = true := by
  decide +kernel

theorem test_witness_LateJoinChoosesTheLowestGiver :
    inBay.member = true ∧ inBay.bt.roster.length = 16 ∧ 9 ≠ inBay.me ∧ (inBay.bt.rosterAt 9).state = .absent
      ∧ after (.joinTaken 9 9 77 none) inBay (fun t => (t.bt.rosterAt 9).giver == some 3 && t.blu.list.length == 1) = true := by
  decide +kernel

def giving (joiners : List Joiner) (next : Option Subject) : State :=
  withBlu inBay fun b => { b with cursor := { joiners := joiners, next := next } }

def joiner (q : Nat) : Joiner := { station := q, accepted := true }

theorem test_witness_image_cursor :
    (giving [joiner 5, joiner 9] (some .mixers)).cursorAdvance.blu.cursor.next = some (.line 0)
      ∧ (giving [joiner 5, joiner 9] (some .mixers)).cursorAdvance.blu.list.length = 1
      ∧ (giving [joiner 5] none).cursorBegin.blu.cursor.next = some .rosterTokens
      ∧ (giving [{ joiner 5 with accepted := false }] none).cursorBegin.blu.cursor.next = some .endMark
      ∧ ((giving [joiner 5, joiner 9] (some .mixers)).cursorDrop 5).blu.cursor.joiners = [joiner 9]
      ∧ ((giving [joiner 5, joiner 9] (some .mixers)).cursorDrop 9).blu.cursor.joiners = [joiner 5]
      ∧ ((giving [] none).cursorAdd 5 true).blu.cursor.next = some .rosterTokens
      ∧ ((giving [joiner 5] (some .mixers)).cursorAdd 9 true).blu.cursor.joiners = [joiner 5, joiner 9]
      ∧ ((giving [joiner 5, joiner 9] (some .mixers)).cursorAdd 5 true).blu.cursor.next = some .rosterTokens
      ∧ (giving [joiner 5, joiner 9] (some .mixers)).cursorPrune.blu.cursor.joiners = [joiner 5]
      ∧ ((giving [joiner 5] (some .mixers)).bt.rosterAt 5).state ≠ .absent
      ∧ nextSubject 2 (.line 1) = .endMark ∧ nextSubject 2 (.line 0) = .line 1 := by decide +kernel

/-- The image cursor's joiners and its notice after a command. -/
def cursorAfter (c : Instr) (s : State) (qs : List Nat) (next : Option Subject) : Bool :=
  after c s fun t => t.blu.cursor.joiners.map Joiner.station == qs && t.blu.cursor.next == next

/-- Stations 5 and 9 JOINING, both given to by this one. -/
def givingTwo : State := withRoster (giving [joiner 5, joiner 9] (some .mixers)) 9 joiningRec

theorem test_witness_takes_move_the_image_cursor :
    givingTwo.member = true ∧ givingTwo.bt.roster.length = 16 ∧ (givingTwo.bt.rosterAt 9).state = .joining
      ∧ (givingTwo.cursorAdd 9 false).blu.cursor.joiners = [joiner 5, { station := 9, accepted := false }]
      ∧ (givingTwo.cursorAdd 9 false).blu.cursor.next = some .mixers
      ∧ cursorAfter (.imageTaken 3 5 (.mixers mixers.recs [])) givingTwo [5, 9] (some (.line 0)) = true
      ∧ after (.imageTaken 3 5 (.mixers mixers.recs [])) givingTwo (fun t => (t.bt.rosterAt 5).imageMark) = true
      ∧ cursorAfter (.imageEndTaken 3 5 0 7) givingTwo [9] (some .rosterTokens) = true
      ∧ after (.imageEndTaken 3 5 0 7) givingTwo (fun t => t.bt.isPresent 5) = true
      ∧ after (.imageEndTaken 3 5 1 7) givingTwo (fun t => t.bt.rosterAt 5 == RosterRec.empty) = true
      ∧ (withRoster givingTwo 5 RosterRec.empty).cursorPrune.blu.cursor.joiners = [joiner 9]
      ∧ (withRoster givingTwo 5 RosterRec.empty).cursorPrune.blu.list.map Entry.notice
          = [.image 9 (.rosterTokens (givingTwo.bt.roster.set 5 RosterRec.empty) none none)]
      ∧ cursorAfter (.joinTaken 5 5 77 none) (withRoster givingTwo 5 { joiningRec with imageMark := true }) [5, 9] (some .rosterTokens)
          = true
      ∧ cursorAfter (.joinTaken 10 10 77 (some 10)) givingTwo [5, 9, 10] (some .mixers) = true
      ∧ cursorAfter (.revokeTaken 3 (.line 0) 8 4) (giving [joiner 8, joiner 5] (some .mixers)) [5] (some .rosterTokens) = true
      ∧ cursorAfter (.joinTaken 5 5 77 none) (withRoster (withRoster givingTwo 5 { joiningRec with imageMark := true }) 1 present)
          [9] (some .rosterTokens) = true
      ∧ cursorAfter (.formedTaken 5) (withRoster givingTwo 5 { joiningRec with giver := some 1 }) [5, 9] (some .mixers) = true := by
  decide +kernel

/-- The roster shows 5 JOINING with station 8 its giver, and this station has applied its JOIN with a digest, or none of it. -/
def reported (digest : Option Nat) : State :=
  match digest with
  | none => otherGiver
  | some d => { otherGiver with bt := otherGiver.bt.setJoinResult 5 (otherGiver.bt.digestAgrees d) }

/-- R30: this station, the new giver, queues its first notice for 5 at the FORMED. -/
def firstNotice (s : State) (n : Notice) : Bool := after (.formedTaken 5) s fun t => t.blu.list.map Entry.notice == [n]

theorem test_a_silent_giver_report_hands_on_the_result :
    (reported none).bt.joinResult 5 = none ∧ (reported (some 77)).bt.joinResult 5 = some true
      ∧ (reported (some 78)).bt.joinResult 5 = some false ∧ (reported none).bt.reportedGiver 5 = some 8
      ∧ (reported none).member = true ∧ (reported none).bt.joinResults.length = 16
      ∧ after (.joinTaken 9 9 78 none) inBay (fun t => t.bt.joinResult 9 == some false && t.bt.joinResult 5 == none) = true
      ∧ firstNotice (reported (some 77)) (.image 5 (.rosterTokens (roster.set 8 RosterRec.empty) none none)) = true
      ∧ firstNotice (reported none) (.image 5 (.rosterTokens (roster.set 8 RosterRec.empty) none none)) = true
      ∧ firstNotice (reported (some 78)) (.imageEnd 5 1 7) = true := by decide +kernel

/-- A joiner that has imaged line 1, in a bay where 8 is PRESENT and 5 JOINING. -/
def imagedLine1 : State :=
  { joiningTaken with bt := { (joiningTaken.bt.setLine 1 line1) with roster := roster } }

theorem test_witness_a_joiner_applies_takes_to_imaged_subjects :
    imagedLine1.hears = true ∧ imagedLine1.ssl.state = .joining ∧ imagedLine1.ssl.joinTaken = true
      ∧ (imagedLine1.bt.rosterAt 5).state = .joining ∧ imagedLine1.bt.isPresent 8 = true
      ∧ after (.joinTaken 8 8 77 none) imagedLine1 (fun t => t.bt == imagedLine1.bt) = true
      ∧ { imagedLine1.bt with tokens := some { a := none, b := none } }.tokens ≠ none
      ∧ after (.joinTaken 9 9 78 none) { imagedLine1 with bt := { imagedLine1.bt with tokens := some { a := none, b := none } } }
          (fun t => t.bt.rosterAt 9 == joiningRec && t.bt.joinResult 9 == some false) = true
      ∧ imagedLine1.bt.reportedGiver 8 = none ∧ imagedLine1.bt.reportedGiver 5 = some 3
      ∧ after (.formedTaken 5) { imagedLine1 with bt := { imagedLine1.bt with tokens := some { a := none, b := none } } }
          (fun t => t.bt.rosterAt 5 == { joiningRec with giver := some 8 } && !t.bt.isPresent 3) = true
      ∧ (Instr.claimTaken 8 1 4 300 1 0).taken = some (8, .claim 1 4 300 1 0) ∧ 5 ≤ noticeKind (.claim 1 4 300 1 0)
      ∧ imagedLine1.bt.line 1 = some line1 ∧ imagedLine1.bt.line 0 = none ∧ imagedLine1.bt.pool = none
      ∧ imagedLine1.bt.tokens = none ∧ noticeKind (.mixWithdraw) = 15 ∧ noticeKind (.rushTake 7) = 12
      ∧ after (.claimTaken 8 1 4 300 1 0) imagedLine1 (fun t => (t.bt.line 1).any fun r => r.holder.isSome) = true
      ∧ after (.claimTaken 8 0 4 300 1 0) imagedLine1 (fun t => t.bt == imagedLine1.bt) = true
      ∧ after (.rushTakeTaken 8 7) imagedLine1 (fun t => t.bt == imagedLine1.bt) = true
      ∧ after (.imageTaken 5 3 (.line 0 line0)) imagedLine1
          (fun t => t.bt == imagedLine1.bt && t.ssl.imageTimer == some 5000 && t.ssl.knownGiver == none) = true
      ∧ (inBay.bt.rosterAt 5).state = .joining ∧ 9 ≠ inBay.me
      ∧ after (.imageTaken 5 9 (.line 0 line0)) inBay (fun t => t.bt == inBay.bt.counted) = true
      ∧ after (.imageEndTaken 5 5 0 7) inBay (fun t => t.bt == inBay.bt.counted) = true := by decide +kernel

theorem test_witness_ImagesReplaceSubjectsAndMarkJoiners :
    joiningTaken.hears = true ∧ joiningTaken.ssl.state = .joining ∧ joiningTaken.ssl.joinTaken = true ∧ joiningTaken.me = 3
      ∧ (joiningTaken.bt.rosterAt 8).state ≠ .joining ∧ inBay.member = true ∧ inBay.bt.isPresent 8 = true ∧ 5 ≠ inBay.me ∧ (inBay.bt.rosterAt 5).state = .joining
      ∧ 5 < inBay.bt.roster.length ∧ mixers.recs.length = joiningTaken.bay.mixersEquipped
      ∧ after (.imageTaken 8 3 (.line 1 line1)) joiningTaken (fun t => t.bt.line 1 == some line1) = true
      ∧ after (.imageTaken 8 3 (.line 2 line1)) joiningTaken
          (fun t => t.bt == joiningTaken.bt && t.ssl.knownGiver == some 8 && t.ssl.imageTimer == some 5000) = true
      ∧ after (.imageTaken 8 5 (.line 1 line1)) inBay (fun t => (t.bt.rosterAt 5).imageMark) = true
      ∧ after (.imageEndTaken 8 5 0 7) inBay (fun t => t.bt.isPresent 5) = true := by decide +kernel

theorem test_witness_ImageEndEndsTheJoin :
    joiningTaken.hears = true ∧ joiningTaken.htb.length = 20 ∧ joiningTaken.bt.lines.length ≤ 16
      ∧ joiningTaken.obu.request = .absent ∧ (joiningTaken.bt.rosterAt 3).state = .joining
      ∧ after (.imageEndTaken 8 3 0 65535) joiningTaken (fun t => t.isAttached && t.bt.bayCount == some 0) = true
      ∧ after (.imageEndTaken 8 3 1 0) joiningTaken (fun t => t.ssl.state == .refused) = true := by decide +kernel

def withTimer (s : State) (i : Nat) (role : TimerRole) (holder grant : Nat) : State :=
  s.modTimer i fun _ => { state := .running, role := role, holder := holder, grant := grant, runTime := 5000 }

def mixing : Order :=
  { anOrder .mixing with mixerUsed := some 1, runRaised := true, mixGrant := some { number := 9, mixTime := 60 } }

def toMix : Order := { mixing with runRaised := false }

def mixingState (s : State) : State := (withOrder s mixing false false).modRun 1 fun _ => RunRec.raise 60

/-- A joiner that has imaged line 0 and the pool, both with a holding of station 8. -/
def imagedHoldings : State :=
  { joiningTaken with bt := { (joiningTaken.bt.setLine 0 line0) with pool := some mixers } }

theorem test_witness_holdings_are_watched_at_the_attach :
    imagedHoldings.hears = true ∧ imagedHoldings.bt.line 0 = some line0 ∧ line0.holder = some held8 ∧ held8.station ≠ imagedHoldings.me
      ∧ imagedHoldings.bt.pool = some mixers ∧ mixers.recs.length = 2 ∧ (imagedHoldings.bt.rosterAt 8).state ≠ .joining
      ∧ after (.imageEndTaken 8 3 0 9) imagedHoldings
          (fun t => (t.timer 0).role == .watch && (t.timer 0).grant == 4 && (t.timer 16).state == .running
            && (t.timer 16).runTime == 72300) = true
      ∧ (imagedLine1.bt.rosterAt 5).state = .joining
      ∧ after (.imageEndTaken 5 3 0 9) imagedLine1 (fun t => t.ssl.state == .joining && t.bt == imagedLine1.bt) = true := by
  decide +kernel

/-- A rush order in slot 0, with the token request as given. -/
def asking (stage : Stage) (r : TokenRequest) : State :=
  withBook (withOrder inBay { anOrder stage with rush := true, rushResult := .pending } true false) fun b => { b with request := r }

/-- What is made of the order in slot 0 as the station leaves the bay. -/
def leftWith (o : Order) (p : Order → Bool) : Bool := ((withOrder inBay o true false).leaveBook.order 0).any p

theorem test_witness_the_book_as_the_station_leaves :
    (withOrder inBay (anOrder .base) true false).order 0 = some (anOrder .base)
      ∧ leftWith (anOrder .tint) (fun o => o.stopping == some .detached) = true
      ∧ leftWith { anOrder .tint with stopping := some .over } (fun o => o.stopping == some .over) = true
      ∧ leftWith { anOrder .mixWait with mixClaimOffered := true } (fun o => !o.mixClaimOffered) = true
      ∧ ((mixingState inBay).run 1).phase ≠ .idle
      ∧ ((mixingState inBay).leaveBook.order 0).any (fun o => o.reason == some .detached) = true
      ∧ ((mixingState inBay).leaveBook.run 1).runLine = false
      ∧ leftWith (anOrder .base) (fun o => o == anOrder .base) = true
      ∧ ((asking .base (.requested 0)).leaveBook.order 0).any
          (fun o => o.rushResult == .refused) = true := by decide +kernel

theorem test_witness_LeavingTheBay :
    inBay.member = true ∧ (dosing .shooting .opened 5).dosingLawful = true
      ∧ (∀ k, k < 4 → ((dosing .shooting .opened 5).mp k).lawful = true) ∧ (dosing .shooting .opened 5).ssl.state = .attached
      ∧ after (.leaveTaken 3) inBay (fun t => t.ssl.state == .ready && t.blu.listen == .off) = true := by
  decide +kernel

def withSsl (s : State) (f : Ssl → Ssl) : State := { s with ssl := f s.ssl }

theorem test_witness_StationTimerExpiries :
    (withSsl forming fun l => { l with firstListen := some 500 }).ssl.firstListen.isSome = true
      ∧ (withSsl (formingOpen 77 roster) fun l => { l with formationWindow := some 3000 }).ssl.formationWindow.isSome = true
      ∧ joiningTaken.ssl.imageTimer.isSome = true ∧ joiningTaken.ssl.knownGiver = none ∧ joiningTaken.ssl.emptyTimeouts = 0
      ∧ (withSsl joiningTaken fun l => { l with emptyTimeouts := 1 }).ssl.emptyTimeouts = 1
      ∧ (withSsl joiningTaken fun l => { l with knownGiver := some 8 }).ssl.knownGiver = some 8
      ∧ (withSsl inBay fun l => { l with state := .detached, rejoinTimer := some 2300 }).ssl.rejoinTimer.isSome = true
      ∧ after .imageTimerExpiry (withSsl joiningTaken fun l => { l with emptyTimeouts := 1 }) (fun t => t.ssl.state == .forming) = true
      ∧ after .rejoinTimerExpiry (withSsl inBay fun l => { l with state := .detached, rejoinTimer := some 2300 })
          (fun t => t.ssl.state == .joining) = true
      ∧ after .rejoinTimerExpiry
          (withSsl inBay fun l => { l with state := .detached, rejoinTimer := some 2300, leavePending := true })
          (fun t => t.ssl.state == .ready) = true := by decide +kernel

theorem test_witness_HoldTimersRunAndExpire :
    inBay.htb.length = 20 ∧ ((withTimer inBay 0 .watch 8 4).timer (timerIndex (.line 0))).state = .running
      ∧ ((withTimer inBay 0 .watch 8 4).timer (timerIndex (.line 0))).role = .watch
      ∧ (withTimer inBay 0 .watch 8 4).bt.shows (.line 0) 8 4 = true ∧ (withTimer inBay 0 .watch 8 5).bt.shows (.line 0) 8 5 = false
      ∧ (withTimer (dosing .shooting .opened 5) 1 .own 3 1).dosingLawful = true
      ∧ (withTimer (dosing .shooting .opened 5) 1 .own 3 1).worker 1 = some 0
      ∧ ((withTimer (dosing .shooting .opened 5) 1 .own 3 1).dc 0).stopCause = .none
      ∧ (withTimer (mixingState inBay) 17 .own 3 9).mixingOn 1 = some 0
      ∧ (withTimer (mixingState inBay) 17 .own 3 9).order 0 = some mixing
      ∧ ((withTimer (mixingState inBay) 17 .own 3 9).run 1).phase ≠ .idle
      ∧ timerIndex (.mixer 1) < inBay.htb.length ∧ inBay.bt.line 0 = some line0 ∧ line0.holder = some held8 ∧ line0.waiting = []
      ∧ after (.releaseTaken 8 0 4 150 0) (withTimer inBay 0 .watch 8 4) (fun t => (t.timer 0).state == .stopped) = true
      ∧ (inBay.bt.shows (.mixer 0) 8 2) = true
      ∧ (withTimer (withOrder inBay toMix false true) 17 .own 3 9).mixingOn 1 = some 0 ∧ toMix.runRaised = false
      ∧ after (.ownMixerTimerExpiry 1) (withTimer (withOrder inBay toMix false true) 17 .own 3 9)
          (fun t => (t.tlu.tickets.map Ticket.reason) == [.mixerFault]) = true
      ∧ after (.watchTimerExpiry (.line 0)) (withTimer inBay 0 .watch 8 4) (fun t => t.blu.list.length == 1) = true
      ∧ after (.ownLineTimerExpiry 1) (withTimer (dosing .shooting .opened 5) 1 .own 3 1) (fun t => !t.tapValve 1) = true
      ∧ after (.ownMixerTimerExpiry 1) (withTimer (mixingState inBay) 17 .own 3 9)
          (fun t => !(t.run 1).runLine && t.tlu.tickets.length == 1) = true := by decide +kernel

/-! ### Dosing -/

theorem test_witness_PlansWidthsAndTests :
    planOf 300 96 = { full := 3, trim := 12, planned := 4 } ∧ askedDropsOf 96 4 (planOf 300 96) = 300
      ∧ widthOf 400 12 96 = 50 ∧ correctedTrim 12 20 96 = 1 ∧ correctedTrim 12 (-90) 96 = 96 ∧ isRunaway 146 96 false = false
      ∧ isRunaway 147 96 false = true
      ∧ (Channel.endTest { aChannel .shooting with delivered := 303 }).result = .done
      ∧ (Channel.endTest { aChannel .shooting with delivered := 304 }).result = .failed .over
      ∧ (Channel.endTest { aChannel .shooting with delivered := 296 }).result = .goOn
      ∧ (Channel.endTest { aChannel .shooting with delivered := 296, trimsUsed := 2 }).result = .failed .under := by decide +kernel

def shotsDone (s : State) (n : Nat) : State := s.modDc 0 fun c => { c with grant := { c.grant with shotsDone := n } }

theorem test_witness_widths_are_written_ahead :
    0 < (dosing .shooting .closed 96).dcs.length ∧ 0 < (dosing .shooting .closed 96).mps.length
      ∧ (aChannel .shooting).plan.isTrim 3 = true ∧ (aChannel .shooting).plan.isTrim 2 = false
      ∧ (((dosing .shooting .closed 96).writeWidth 0 3).mp 0).nextWidth = 50
      ∧ (((dosing .shooting .closed 96).writeWidth 0 3).dc 0).trimNow = 12
      ∧ ((((dosing .shooting .closed 96).modDc 0 fun c => { c with balance := 6 }).writeWidth 0 3).mp 0).nextWidth = 25
      ∧ (((shotsDone (dosing .shooting .closed 96) 2).periodStart 0).mp 0).nextWidth = 50
      ∧ (((shotsDone (dosing .shooting .closed 96) 3).periodStart 0).mp 0).nextWidth = 400
      ∧ widthOf 1 1 96 = 1 ∧ widthOf 400 96 96 = 400 := by decide +kernel

/-- This station's claim waits on an empty line that its channel 0 works. -/
def refillable : State :=
  { dosing .waiting .stopped 0 with
    bt := inBay.bt.setLine 1 { line1 with level := 0, waiting := [{ claim8 with station := 3, askedShots := 4, askedDrops := 300 }] } }

theorem test_witness_a_take_grants_a_waiting_claim :
    refillable.member = true ∧ refillable.transmitting = false ∧ refillable.bt.isPresent 8 = true
      ∧ refillable.bt.line 1 = some { line1 with level := 0, waiting := [{ claim8 with station := 3, askedShots := 4, askedDrops := 300 }] }
      ∧ LineRec.best refillable.bay.reserve
          { line1 with level := 300, waiting := [{ claim8 with station := 3, askedShots := 4, askedDrops := 300 }] } = some 0
      ∧ refillable.worker 1 = some 0 ∧ inBay.worker 1 = none ∧ 1 < refillable.htb.length
      ∧ after (.refillTaken 8 1 300) refillable (fun t => (t.dc 0).state == .settling && (t.mp 0).pump
          && (t.timer 1).role == .own && (t.dc 0).grant.number == 1) = true
      ∧ (inBay.lineGranted 1 { held8 with station := 3 }).blu.list.length = 1
      ∧ (inBay.lineGranted 1 held8).blu.list = [] := by decide +kernel

theorem test_witness_GrantsBeginOrAreGivenBack :
    0 < (dosing .waiting .stopped 0).dcs.length ∧ 0 < (dosing .waiting .stopped 0).mps.length
      ∧ ((dosing .waiting .stopped 0).dc 0).state = .waiting ∧ ((dosing .waiting .stopped 0).dc 0).withdrawPending = false
      ∧ ((dosing .waiting .stopped 0).lineConst 1).settleDelay ≠ 0
      ∧ (State.lineConst { dosing .waiting .stopped 0 with setup := none } 1).settleDelay = 0
      ∧ ((dosing .withdrawing .stopped 0).dc 0).state = .withdrawing
      ∧ (((dosing .claiming .stopped 0).modDc 0 fun c => { c with withdrawPending := true }).dc 0).withdrawPending = true
      ∧ ((((dosing .claiming .stopped 0).modDc 0 fun c => { c with withdrawPending := true }).grantTell 0 held8).dc 0).state
          = .releasing := by decide +kernel

theorem test_witness_StopsAndCuts :
    ((dosing .waiting .stopped 0).dc 0).state = .waiting ∧ ((dosing .settling .settle 0).dc 0).state = .settling
      ∧ ((dosing .shooting .opened 0).dc 0).stopCause = .none ∧ ((dosing .shooting .opened 0).mp 0).phase = .opened
      ∧ ((dosing .releasing .stopped 0).dc 0).state = .releasing
      ∧ (((dosing .shooting .drain 0).modDc 0 fun c => { c with stopCause := .detached }).dc 0).stopCause = .detached
      ∧ (((dosing .releasing .stopped 0).modDc 0 fun c => { c with result := .done }).dc 0).result = .done := by decide +kernel

/-- Channel 0 CLAIMING, its claim in transmission. -/
def claimSent : State :=
  withBlu (dosing .claiming .stopped 0) fun b =>
    { b with list := [{ Entry.fresh (.claim 1 4 300 1 0) (.channel 0) false with transmitting := true }] }

theorem test_witness_stops_by_state :
    ((dosing .claiming .stopped 0).stopChannel 0).dc 0 = Channel.idle ∧ ((dosing .claiming .stopped 0).blu.current) = none
      ∧ claimSent.blu.current.any (isClaimOf 0) = true ∧ ((claimSent.stopChannel 0).dc 0).withdrawPending = true
      ∧ ((claimSent.stopChannel 0).blu.current.any fun e => e.strikeHeld) = true
      ∧ (((claimSent.stopChannel 0).backToWaiting true).dc 0).state = .idle
      ∧ ((result (dosing .releasing .stopped 0) .goOn).stopChannel 0).dc 0
          = { aChannel .releasing with result := .failed .stopped }
      ∧ (result (dosing .releasing .stopped 0) (.failed .over)).stopChannel 0 = result (dosing .releasing .stopped 0) (.failed .over)
      ∧ (dosing .idle .stopped 0).stopChannel 0 = dosing .idle .stopped 0 := by decide +kernel

/-- Channel 0 SETTLING and channel 1 CLAIMING for one order, the list full with the CLAIM in it, and an older MIX CLAIM held. -/
def stoppedTwo : State :=
  { withBlu (dosing .settling .settle 0) fun b =>
      { b with
        list := (fullBlu 15).list ++ [Entry.fresh (.claim 0 1 96 1 0) (.channel 1) false]
        held := [Entry.fresh (.mixClaim 60 1 0) .book false] } with
    dcs := (dosing .settling .settle 0).dcs.set 1 { aChannel .claiming with line := 0, entry := 1 } }

/-- R16 (c): the struck CLAIM admits the MIX CLAIM, which was held before the RELEASE was offered. -/
theorem test_a_stop_strikes_before_it_offers :
    ((stoppedTwo.stopChannels 0).blu.held.map Entry.notice) = [.release 1 1 0 0]
      ∧ ((stoppedTwo.stopChannels 0).blu.list.getLast?.map Entry.notice) = some (.mixClaim 60 1 0)
      ∧ (stoppedTwo.stopChannels 0).dc 1 = Channel.idle ∧ ((stoppedTwo.stopChannels 0).dc 0).state = .releasing := by decide +kernel

theorem test_witness_a_stop_of_an_order :
    stoppedTwo.dcs.length = 4 ∧ stoppedTwo.mps.length = 4
      ∧ ((stoppedTwo.modDc 0 fun c => { c with slot := 1 }).stopChannels 0).dc 0 = { aChannel .settling with slot := 1 }
      ∧ (((dosing .waiting .stopped 0).stopChannels 0).dc 0).state = .withdrawing
      ∧ ((claimSent.stopChannels 0).dc 0).withdrawPending = true
      ∧ (((dosing .shooting .closed 5).stopChannels 0).mp 0).phase = .drain
      ∧ (((dosing .shooting .closed 5).stopChannels 0).mp 0).periodTimer = some 1000
      ∧ (((dosing .shooting .opened 5).stopChannels 0).mp 0).valve = false
      ∧ (((result (dosing .releasing .stopped 0) .goOn).stopChannels 0).dc 0).result = .failed .stopped
      ∧ (dosing .shooting .opened 5).stopChannels 1 = dosing .shooting .opened 5 := by decide +kernel

theorem test_witness_tells_by_state :
    ((dosing .claiming .stopped 0).lineTell 0 (.claimWaits .none false)).dc 0 = aChannel .waiting
      ∧ ((claimSent.stopChannel 0).lineTell 0 (.claimWaits .none true)).dc 0 = (claimSent.stopChannel 0).dc 0
      ∧ (((claimSent.stopChannel 0).lineTell 0 (.claimWaits .none false)).dc 0).state = .withdrawing
      ∧ (((result (dosing .releasing .stopped 0) .goOn).lineTell 0 .releaseLate).dc 0).grant.askedShots = 0
      ∧ ((result (dosing .releasing .stopped 0) .done).lineTell 0 .releaseRefused).dc 0 = Channel.idle
      ∧ (((dosing .settling .settle 0).lineTell 0 .holdingEnded).order 0).any (fun o => o.stopping == some .lineOut) = true
      ∧ ((dosing .waiting .stopped 0).lineTell 0 .claimRemoved).dc 0 = Channel.idle
      ∧ ((dosing .withdrawing .stopped 0).lineTell 0 .claimWithdrawn).dc 0 = Channel.idle
      ∧ (dosing .idle .stopped 0).lineTell 0 .claimRemoved = dosing .idle .stopped 0
      ∧ (dosing .claiming .stopped 0).lineTell 0 .claimRemoved = dosing .claiming .stopped 0
      ∧ (dosing .waiting .stopped 0).lineTell 0 (.claimWaits .none true) = dosing .waiting .stopped 0
      ∧ (dosing .withdrawing .stopped 0).lineTell 0 (.releaseApplied 0) = dosing .withdrawing .stopped 0
      ∧ (dosing .settling .settle 0).lineTell 0 .claimRemoved = dosing .settling .settle 0
      ∧ (dosing .shooting .opened 0).lineTell 0 .releaseLate = dosing .shooting .opened 0
      ∧ (result (dosing .releasing .stopped 0) .done).lineTell 0 .holdingEnded = result (dosing .releasing .stopped 0) .done
      ∧ (result (dosing .releasing .stopped 0) .goOn).lineTell 0 .withdrawDiscarded = result (dosing .releasing .stopped 0) .goOn
      ∧ (dosing .waiting .stopped 0).order 0 = some { anOrder .tint with handed := 2 } := by decide +kernel

theorem test_witness_PairEvents :
    ((dosing .settling .settle 0).mp 0).phase = .settle ∧ ((dosing .settling .settle 0).mp 0).settleTimer.isSome = true
      ∧ ((dosing .shooting .opened 0).mp 0).valveTimer.isSome = true ∧ ((dosing .shooting .opened 4095).mp 0).bound = some 1
      ∧ ((dosing .shooting .opened 4095).mp 1).bound ≠ some 1
      ∧ after (.settleExpiry 0) (dosing .settling .settle 0) (fun t => t.tapValve 1) = true
      ∧ after (.valveExpiry 0) (dosing .shooting .opened 0) (fun t => !t.tapValve 1 && (t.mp 0).phase == .closed) = true
      ∧ after (.tapMeterPulse 1) (dosing .shooting .opened 4095) (fun t => (t.mp 0).counter == 0 && (t.mp 0).overflow) = true
      ∧ after (.tapMeterPulse 1) (dosing .shooting .opened 4094) (fun t => (t.mp 0).counter == 4095 && !(t.mp 0).overflow) = true := by
  decide +kernel

theorem test_witness_CaptureOfAGoodShotGoesOn :
    ((dosing .shooting .closed 146).mp 0).phase = .closed ∧ ((dosing .shooting .closed 146).mp 0).periodTimer.isSome = true
      ∧ ((dosing .shooting .closed 146).dc 0).state = .shooting ∧ ((dosing .shooting .closed 146).mp 0).overflow = false
      ∧ ((dosing .shooting .closed 146).dc 0).plannedDrops ((dosing .shooting .closed 146).lineConst 1).shotSize 0 = 96
      ∧ ((dosing .shooting .closed 146).dc 0).delivered + 146 < ((dosing .shooting .closed 146).dc 0).ordered
      ∧ after (.capture 0) (dosing .shooting .closed 48) (fun t => (t.mp 0).phase == .opened && (t.dc 0).delivered == 48) = true
      ∧ after (.capture 0) (shotsDone (dosing .shooting .closed 90) 1) (fun t => (t.mp 0).nextWidth == widthOf 400 18 96) = true
      ∧ after (.capture 0) (shotsDone (dosing .shooting .closed 96) 2) (fun t => (t.mp 0).nextWidth == 400) = true := by
  decide +kernel

theorem test_witness_CaptureThatEndsTheGrantReleasesTheLine :
    ((dosing .shooting .closed 147).mp 0).counted = 147 ∧ isRunaway 147 96 ((dosing .shooting .closed 147).mp 0).overflow = true
      ∧ after (.capture 0) (dosing .shooting .closed 147) (fun t => (t.dc 0).result == .failed .runaway) = true
      ∧ after (.capture 0) ((dosing .shooting .closed 96).modDc 0 fun c => { c with delivered := 207 })
          (fun t => (t.dc 0).result == .done) = true
      ∧ after (.capture 0) ((dosing .shooting .closed 96).modDc 0 fun c => { c with delivered := 208 })
          (fun t => (t.dc 0).result == .failed .over) = true
      ∧ after (.capture 0) (dosing .shooting .closed 47) (fun t => (t.dc 0).result == .goOn) = true := by decide +kernel

def stoppedBy (s : State) (cause : StopCause) : State := s.modDc 0 fun c => { c with stopCause := cause }

/-- What the capture that ends the grant leaves of channel 0. -/
def captured (s : State) (p : Channel → Bool) : Bool := after (.capture 0) s fun t => p (t.dc 0)

theorem test_witness_captures_by_stop_cause :
    ((dosing .shooting .drain 40).mp 0).phase = .drain ∧ ((dosing .shooting .drain 40).mp 0).periodTimer.isSome = true
      ∧ isRunaway 40 96 false = false
      ∧ captured (stoppedBy (dosing .shooting .drain 40) .lineOut) (fun c => c == Channel.idle) = true
      ∧ captured (stoppedBy (dosing .shooting .drain 40) .detached) (fun c => c == Channel.idle) = true
      ∧ captured (stoppedBy (dosing .shooting .drain 40) .stopped) (fun c => c.result == .failed .stopped && c.delivered == 40) = true
      ∧ captured (stoppedBy (dosing .shooting .drain 40) .ownLimit) (fun c => c.result == .goOn && c.plan.full == 2) = true
      ∧ captured (stoppedBy (dosing .shooting .drain 400) .stopped) (fun c => c.result == .failed .runaway) = true
      ∧ captured ((shotsDone (dosing .shooting .closed 12) 3).modDc 0 fun c => { c with trimNow := 12 })
          (fun c => c.result == .goOn && c.trimsUsed == 1) = true
      ∧ captured ((shotsDone (dosing .shooting .closed 96) 0).modDc 0 fun c => { c with grant := { c.grant with askedShots := 1 } })
          (fun c => c.result == .goOn && c.delivered == 96) = true
      ∧ captured (withBlu (dosing .shooting .closed 47) fun _ => { clashBlu with listen := .following }) (fun c => c == Channel.idle)
          = true
      ∧ captured (withBlu (dosing .shooting .closed 147) fun _ => { clashBlu with listen := .following })
          (fun c => c.result == .failed .runaway && c.delivered == 147) = true := by decide +kernel

/-! ### The terminal -/

theorem test_witness_SetupCommand :
    ready.tlu.sending = none ∧ ready.ssl.state = .ready ∧ (∀ c ∈ ready.dcs, c.state = .idle) ∧ setupInRange block = true
      ∧ setupInRange { block with bay := { block.bay with grace := 11 } } = false ∧ inBay.ssl.state = .attached
      ∧ (∃ c ∈ (State.modDc ready 0 fun _ => aChannel .shooting).dcs, c.state ≠ .idle)
      ∧ after (.setup block) State.reset (fun t => t.ssl.state == .ready && t.tlu.attention) = true := by decide +kernel

def withLines (f : LineConst → LineConst) : SetupBlock :=
  { block with bay := { block.bay with lines := List.replicate 16 (f lineConsts) } }

def withShot (width period : Nat) : SetupBlock :=
  { block with cal := { block.cal with lines := List.replicate 16 { shotWidth := width, shotPeriod := period } } }

def withCal (f : Calibration → Calibration) : SetupBlock := { block with cal := f block.cal }

theorem test_witness_setup_ranges :
    ([withShot 1 51, withShot 4000 4050, withShot 400 10000, withLines fun l => { l with shotSize := 255 },
        withLines fun l => { l with holdLimit := 600, settleDelay := 0 }, withCal fun c => { c with basePeriod := 50, slowBand := 0 },
        withCal fun c => { c with transferLimit := 20, seatDelay := 50 }].all setupInRange) = true
      ∧ ([withShot 0 51, withShot 1 50, withShot 4001 5000, withShot 400 10001, withLines fun l => { l with shotSize := 7 },
        withLines fun l => { l with shareBlock := 16 }, withLines fun l => { l with holdLimit := 4 },
        withCal fun c => { c with station := 16 }, withCal fun c => { c with basePeriod := 0 },
        withCal fun c => { c with transferLimit := 21 }, withCal fun c => { c with pressWidth := 3001 }].any setupInRange)
          = false := by decide +kernel

theorem inBay_holds_no_line : ∀ n r h, inBay.bt.line n = some r → r.holder = some h → h.station ≠ inBay.me := by
  intro n r h hr hh
  have := all_lines inBay (fun r => r.holder.all fun h => h.station != inBay.me) (by decide +kernel) n r hr
  simpa [hh] using this

theorem inBay_holds_no_mixer : ∀ p, inBay.bt.pool = some p → ∀ r ∈ p.recs, r.state = .held → r.holder ≠ some inBay.me := by
  intro p hp
  have : some mixers = some p := hp
  cases this
  decide +kernel

theorem inBay_has_no_order (slot : Nat) (o : Order) : inBay.order slot ≠ some o := fun h =>
  absurd (no_order_lt inBay (fun _ => false) (by decide +kernel) slot o h) (by decide)

theorem test_witness_StartAndLeaveCommands :
    ready.tlu.sending = none ∧ ready.ssl.state = .ready ∧ inBay.ssl.state = .attached ∧ inBay.ssl.leavePending = false
      ∧ (∀ n r h, inBay.bt.line n = some r → r.holder = some h → h.station ≠ inBay.me)
      ∧ (∀ p, inBay.bt.pool = some p → ∀ r ∈ p.recs, r.state = .held → r.holder ≠ some inBay.me)
      ∧ (∀ slot o, inBay.order slot = some o → o.stage = .queued ∨ o.stage = .loading)
      ∧ terminalCount inBay.blu.list < 4 ∧ inBay.blu.list.length < 16
      ∧ after .leave inBay (fun t => t.ssl.leavePending && t.blu.list.length == 1) = true
      ∧ after .start ready (fun t => t.ssl.state == .forming && t.ssl.firstListen == some 500) = true := by
  and_intros
  any_goals first
    | exact inBay_holds_no_line
    | exact inBay_holds_no_mixer
    | exact fun slot o h => absurd h (inBay_has_no_order slot o)
    | decide +kernel

def withTag (tag : Nat) : State := withOrder inBay { anOrder .queued with tag := tag } false false

theorem test_witness_OrderAdmission :
    inBay.tlu.sending = none ∧ State.reset.setup = none ∧ inBay.setup ≠ none ∧ orderFieldsValid fields = true
      ∧ orderFieldsValid { fields with tag := 0 } = false ∧ (∀ e ∈ fields.entries, e.line < inBay.bay.linesEquipped)
      ∧ inBay.obu.slots.length = 8 ∧ inBay.order 0 = none
      ∧ (∃ e ∈ fields.entries, ∃ r, (withLine 1 { line1 with service := .out }).bt.line e.line = some r ∧ r.service = .out)
      ∧ (∀ slot o, inBay.order slot = some o → o.tag ≠ fields.tag) ∧ (∀ k ∈ inBay.tlu.tickets, k.tag ≠ fields.tag)
      ∧ after (.order fields) inBay (fun t => t.stageAt 0 == some .loading && t.pdu.lamp) = true
      ∧ after (.order { fields with entries := [{ line := 2, drops := 1, mode := 0 }] }) inBay
          (fun t => (t.tlu.sending.map Reply.result) == some .notEquipped) = true
      ∧ after (.order fields) (withTag 4410) (fun t => (t.tlu.sending.map Reply.result) == some .duplicateTag) = true
      ∧ after (.order fields) { inBay with obu := { inBay.obu with slots := List.replicate 8 (some { anOrder .queued with tag := 1 }) } }
          (fun t => (t.tlu.sending.map Reply.result) == some .noSlot) = true
      ∧ after (.order fields) (withPool { recs := [{ MixRec.built with state := .out }], waiting := [] })
          (fun t => (t.tlu.sending.map Reply.result) == some .wrongState) = true := by
  and_intros
  any_goals first
    | exact ⟨{ line := 1, drops := 300, mode := 2 }, by decide +kernel, { line1 with service := .out }, by decide +kernel⟩
    | exact fun slot o h => absurd h (inBay_has_no_order slot o)
    | decide +kernel

theorem test_witness_order_fields :
    ([{ fields with tag := 65535, base := 20000 }, { fields with rush := 0, priority := 2 }, { fields with mixTime := 0, lid := 1 },
        { fields with mixTime := 300, entries := [] }, { fields with priority := 3, entries := [{ line := 15, drops := 16383, mode := 2 }] }].all
          orderFieldsValid) = true
      ∧ ([{ fields with base := 20001 }, { fields with rush := 0, priority := 1 }, { fields with lid := 1 }, { fields with mixTime := 9 },
        { fields with size := 8 }, { fields with priority := 4 }, { fields with entries := [{ line := 15, drops := 0, mode := 2 }] },
        { fields with entries := [{ line := 1, drops := 5, mode := 2 }, { line := 1, drops := 6, mode := 0 }] }].any
          orderFieldsValid) = false := by decide +kernel

theorem withTag_only_slot_0 (tag j : Nat) (p : Order) (h : (withTag tag).order j = some p) :
    j = 0 ∧ p = { anOrder .queued with tag := tag } := by
  match j with
  | 0 => exact ⟨rfl, (Option.some.inj h).symm⟩
  | n + 1 =>
    have hx : (withTag tag).order (n + 1) = inBay.order (n + 1) := by
      simp [withTag, withOrder, State.order, List.getD]
    exact absurd (hx ▸ h) (inBay_has_no_order _ _)

theorem test_witness_CancelAndPriority :
    inBay.tlu.sending = none ∧ inBay.setup ≠ none ∧ (withTag 7).order 0 = some { anOrder .queued with tag := 7 }
      ∧ (∀ j p, (withTag 7).order j = some p → p.tag = 7 → j = 0)
      ∧ (∀ slot o, (withTag 7).order slot = some o → o.tag ≠ 8) ∧ priorityOfCode 3 = some .hold
      ∧ after (.cancel 4410) (withOrder inBay (anOrder .queued) false false) (fun t => t.tlu.tickets.length == 1) = true
      ∧ after (.cancel 4410) (withOrder inBay (anOrder .loading) true false) (fun t => t.obu.cradle == none && !t.pdu.lamp) = true
      ∧ after (.cancel 4410) (withOrder inBay (anOrder .base) true false) (fun t => t.pdu.chute.output) = true
      ∧ after (.cancel 4410) (dosing .shooting .opened 5) (fun t => !t.tapValve 1 && t.stageAt 0 == some .tint) = true
      ∧ after (.cancel 4410) (dosing .shooting .opened 5)
          (· == State.answered (State.settle ((dosing .shooting .opened 5).stopOrder 0 .cancelled)) 5 .accepted .nothing) = true
      ∧ after (.cancel 4410) (withOrder inBay (anOrder .lid) true false)
          (fun t => (t.tlu.sending.map Reply.result) == some .late) = true
      ∧ after (.priority 4410 2) (withOrder inBay (anOrder .mixWait) false true)
          (fun t => (t.order 0).any fun o => o.priority == .p2) = true
      ∧ after (.priority 4410 3) (withOrder inBay (anOrder .base) true false)
          (fun t => (t.tlu.sending.map Reply.result) == some .badField) = true
      ∧ after (.priority 4410 0) (withOrder inBay (anOrder .mixing) false true)
          (fun t => (t.tlu.sending.map Reply.result) == some .late) = true := by
  and_intros
  any_goals first
    | exact fun j p h _ => (withTag_only_slot_0 7 j p h).1
    | exact fun slot o h => by rw [(withTag_only_slot_0 7 slot o h).2]; decide
    | decide +kernel

theorem test_witness_BayRequestsAreQueuedOrRefused :
    inBay.tlu.sending = none ∧ inBay.ssl.state = .attached ∧ ready.ssl.state ≠ .attached ∧ 1 < inBay.bay.linesEquipped
      ∧ ¬ (2 < inBay.bay.linesEquipped) ∧ ¬ (2 < inBay.bay.mixersEquipped) ∧ terminalCount inBay.blu.list < 4
      ∧ after (.lineOut 1) inBay (fun t => t.blu.list.length == 1) = true
      ∧ after (.mixerReturn 2) inBay (fun t => (t.tlu.sending.map Reply.result) == some .notEquipped) = true
      ∧ after (.refill 1 16777216) inBay (fun t => (t.tlu.sending.map Reply.result) == some .badField) = true
      ∧ after (.lineReturn 1 16777215) { inBay with blu := { fullBlu 16 with listen := .following } }
          (fun t => (t.tlu.sending.map Reply.result) == some .busy) = true := by decide +kernel

def aTicket : Ticket :=
  { tag := 9, outcome := .filled, reason := .none, baseDelivered := 500, entries := [300], mixerUsed := none, rushResult := .notAsked }

theorem test_witness_QueriesAndTickets :
    inBay.tlu.sending = none ∧ State.reset.setup = none ∧ inBay.setup ≠ none ∧ inBay.bt.line 1 = some line1
      ∧ inBay.bay.linesEquipped ≤ 2 ∧ ready.bt.lines = [] ∧ ready.ssl.state ≠ .joining ∧ inBay.bt.pool = some mixers
      ∧ ready.bt.pool = none
      ∧ after .queryStation { inBay with tlu := { Tlu.reset with unread := true, attention := true } }
          (fun t => !t.tlu.unread && !t.tlu.attention) = true
      ∧ after .readTicket { inBay with tlu := { Tlu.reset with tickets := [aTicket], attention := true } }
          (fun t => t.tlu.tickets.isEmpty && !t.tlu.attention) = true
      ∧ after .readTicket inBay (fun t => (t.tlu.sending.map Reply.data) == some .nothing) = true := by decide +kernel

theorem test_witness_OneReplyAtATime :
    sendingReply.sending = some { kind := 11, result := .busy, data := .nothing } ∧ commandKind .start = 2
      ∧ commandLengthOk 16 [] = false ∧ commandLengthOk 2 [0] = false ∧ sendingReply.pendingReply = none
      ∧ after .start (withTlu ready sendingReply) (fun t => (t.tlu.pendingReply.map Reply.kind) == some 2 && t.ssl == ready.ssl) = true
      ∧ after (.commandWhileSending 4) (withTlu ready sendingReply) (fun t => (t.tlu.pendingReply.map Reply.kind) == some 4) = true
      ∧ after .replySent (withTlu ready sendingReply) (fun t => t.tlu.sending.isNone) = true
      ∧ after (.frameDropped [{ value := 195, stopBit := true }, { value := 251, stopBit := true }]) ready
          (fun t => t.tlu.receiver == .hunting) = true
      ∧ after (.frameDropped [{ value := 195, stopBit := true }, { value := 250, stopBit := true }]) ready
          (fun t => t.tlu.receiver == .inFrame [250]) = true
      ∧ after .interByteTimeout ready (fun t => t.tlu.receiver == .hunting) = true := by decide +kernel

/-! ### The plant -/

def seated (s : State) (arrived : Option Nat) (seating : Option Nat) : State :=
  { s with pins := { s.pins with tinPresent := true }, pdu := { s.pdu with arrived := arrived, seatingTimer := seating } }

def filling (ph : FillPhase) (counter : Nat) : State :=
  let s := withOrder inBay (anOrder .base) true false
  { s with pdu := { s.pdu with fill := { Fill.start (fillCalOf block.cal) 500 with
      phase := ph, counter := counter, runOnTimer := if ph = .runOn then some 20 else none } } }

theorem test_witness_TinAtTheCradle :
    inBay.pins.tinPresent = false
      ∧ (seated (withOrder inBay (anOrder .loading) true false) none (some 100)).cradleIn .loading = some 0
      ∧ (seated (withOrder inBay (anOrder .loading) true false) none (some 100)).order 0 = some (anOrder .loading)
      ∧ (anOrder .loading).size = 4 ∧ (anOrder .loading).base = 500
      ∧ (seated (withOrder inBay (anOrder .base) true false) (some 4) none).pdu.arrived.isSome = true
      ∧ after (.seatingTimerExpiry 4) (seated (withOrder inBay (anOrder .loading) true false) none (some 100))
          (fun t => t.pdu.fill.valve && t.pdu.fill.phase == .fast && t.stageAt 0 == some .base) = true
      ∧ after (.seatingTimerExpiry 4) (seated (withOrder inBay { anOrder .loading with base := 40 } true false) none (some 100))
          (fun t => t.pdu.fill.phase == .slow) = true
      ∧ after (.seatingTimerExpiry 4) (seated (withOrder inBay { anOrder .loading with base := 0 } true false) none (some 100))
          (fun t => t.stageAt 0 == some .tint && (t.dc 0).state == .claiming && (t.dc 1).state == .claiming) = true
      ∧ after (.seatingTimerExpiry 5) (seated (withOrder inBay (anOrder .loading) true false) none (some 100))
          (fun t => (t.order 0).any Order.wrongTin) = true
      ∧ after .tinPresentFall (seated (withOrder inBay (anOrder .base) true false) (some 4) none)
          (fun t => t.pdu.chute.output && t.stageAt 0 == some .reject) = true
      ∧ after .tinPresentFall (seated (filling .slow 470) (some 4) none)
          (fun t => t.pdu.fill.phase == .idle && !t.pdu.fill.valve && !t.pdu.fill.pump && t.pdu.fill.periodTimer.isNone
            && t.pdu.fill.limitTimer.isNone && (t.order 0).any fun o => o.baseDelivered == 470) = true
      ∧ after .tinPresentFall (seated (withOrder inBay { anOrder .loading with wrongTin := true } true false) (some 5) none)
          (fun t => (t.order 0).any fun o => !o.wrongTin && o.stage == .loading) = true
      ∧ after .tinPresentFall (seated (dosing .shooting .opened 5) (some 4) none)
          (fun t => !t.tapValve 1 && (t.order 0).any fun o => o.stage == .tint && o.stopping == some .cancelled) = true
      ∧ after .tinPresentFall (seated inBay none (some 100)) (fun t => t.pdu.seatingTimer.isNone) = true
      ∧ after .tinPresentRise inBay (fun t => t.pdu.seatingTimer == some 100) = true := by decide +kernel

theorem test_witness_BaseFillRunsAndEnds :
    (filling .fast 459).pdu.fill.phase = .fast ∧ (filling .fast 459).pdu.fill.target = 500
      ∧ (filling .fast 459).pdu.fill.periodTimer.isSome = true ∧ (filling .fast 459).pdu.fill.dutyTimer.isSome = true
      ∧ (filling .fast 459).pdu.fill.limitTimer.isSome = true ∧ (filling .fast 459).cradleIn .base = some 0
      ∧ (filling .fast 459).order 0 = some (anOrder .base) ∧ dutyTicks 20 80 = 160 ∧ dutyTicks 20 25 = 50
      ∧ after .baseMeterPulse (filling .fast 458) (fun t => t.pdu.fill.phase == .fast) = true
      ∧ after .baseMeterPulse (filling .fast 459) (fun t => t.pdu.fill.phase == .slow && t.pdu.fill.dutyInUse == 80) = true
      ∧ after .baseMeterPulse (filling .slow 499) (fun t => t.pdu.fill.phase == .runOn && !t.pdu.fill.valve) = true
      ∧ after .baseMeterPulse (filling .runOn 65535) (fun t => t.pdu.fill.counter == 65535) = true
      ∧ after .basePeriodExpiry (filling .slow 470) (fun t => t.pdu.fill.pump && t.pdu.fill.dutyTimer == some 160) = true
      ∧ after .dutyTimerExpiry (filling .slow 470) (fun t => !t.pdu.fill.pump) = true
      ∧ (filling .fast 1).pdu.fill.dutyTimer = some 160 ∧ (filling .fast 1).pdu.fill.periodTimer = some 20
      ∧ after .dutyTimerExpiry ((filling .fast 1).modPdu fun p => { p with fill := { p.fill with dutyTimer := some 200 } })
          (fun t => t.pdu.fill.pump && t.pdu.fill.dutyTimer.isNone) = true
      ∧ after .fillLimitExpiry (filling .slow 470) (fun t => t.stageAt 0 == some .reject && !t.pdu.fill.valve) = true
      ∧ after .runOnExpiry (filling .runOn 505) (fun t => t.stageAt 0 == some .tint) = true
      ∧ after .runOnExpiry (filling .runOn 506) (fun t => t.stageAt 0 == some .reject) = true := by decide +kernel

def pressing (ph : PressPhase) (tries : Nat) (home : Bool) : State :=
  let s := withOrder inBay (anOrder .lid) true false
  { s with pdu := { s.pdu with press := { Press.reset with
      phase := ph, tries := tries, homeSeen := home, seatTimer := if ph = .seat then some 200 else none,
      pressTimer := if ph = .press then some 500 else none, output := ph == .press } } }

theorem test_witness_LidPressTriesTwice :
    (pressing .seat 1 false).pdu.press.seatTimer.isSome = true ∧ (pressing .press 1 true).pdu.press.pressTimer.isSome = true
      ∧ (pressing .press 2 false).cradleIn .lid = some 0 ∧ (pressing .press 2 false).order 0 = some (anOrder .lid)
      ∧ after (.seatTimerExpiry true) (pressing .seat 1 false) (fun t => t.pdu.press.output && t.pdu.press.homeSeen) = true
      ∧ after .lidHomeOn (pressing .press 1 false) (fun t => t.pdu.press.homeSeen) = true
      ∧ after .lidHomeOn (pressing .seat 1 false) (fun t => !t.pdu.press.homeSeen) = true
      ∧ after .pressTimerExpiry (pressing .press 1 true) (fun t => t.stageAt 0 == some .outfeedWait && t.pdu.toOutfeed.output) = true
      ∧ after .pressTimerExpiry (pressing .press 1 false) (fun t => t.pdu.press.tries == 2 && t.pdu.press.phase == .seat) = true
      ∧ after .pressTimerExpiry (pressing .press 2 false) (fun t => t.stageAt 0 == some .reject) = true := by decide +kernel

def pushing (s : State) (p : Pusher) (ph : OpPhase) : State :=
  s.modPusher p fun _ =>
    { phase := ph, pulseTimer := if ph = .pulse then some 300 else none, confirmTimer := if ph = .confirm then some 5 else none,
      output := ph == .pulse, limit := 5 }

def outfeedOn (s : State) (on : Bool) : State := { s with pins := { s.pins with outfeed := on } }

def occupiedOn (s : State) (m : Nat) : State := { s with pins := { s.pins with occupied := s.pins.occupied.set m true } }

def rejecting : State :=
  let s := withOrder inBay { anOrder .reject with outcome := some .spoiled, reason := some .lidFault } true false
  s.modPdu fun p => { p with chute := { OpRec.reset with phase := .pulse, pulseTimer := some 300, output := true } }

theorem test_witness_TransfersAndChuteEnd :
    ((pushing (withOrder inBay (anOrder .shelf) false true) .toShelf .pulse).pusher .toShelf).phase = .pulse
      ∧ (pushing (withOrder inBay (anOrder .shelf) false true) .toShelf .pulse).outfeedIn .shelf = some 0
      ∧ (pushing (withOrder inBay (anOrder .outfeedWait) true false) .toOutfeed .confirm).cradleIn .outfeedWait = some 0
      ∧ (pushing (withOrder inBay toMix false true) (.toMixer 1) .confirm).transferringTo 1 = some 0
      ∧ rejecting.cradleIn .reject = some 0
      ∧ after (.pusherPulseExpiry .toOutfeed) (pushing (withOrder inBay (anOrder .outfeedWait) true false) .toOutfeed .pulse)
          (fun t => t.pdu.toOutfeed.phase == .confirm && t.pdu.toOutfeed.confirmTimer == some 5) = true
      ∧ after (.pusherPulseExpiry .toOutfeed) (outfeedOn (pushing (withOrder inBay (anOrder .outfeedWait) true false) .toOutfeed .pulse) true)
          (fun t => t.obu.outfeed == some 0 && t.stageAt 0 == some .mixWait && t.blu.list.length == 1) = true
      ∧ after (.pusherPulseExpiry .toShelf) (pushing (withOrder inBay (anOrder .shelf) false true) .toShelf .pulse)
          (fun t => (t.tlu.tickets.map Ticket.outcome) == [.filled] && t.order 0 == none) = true
      ∧ after (.confirmTimerExpiry .toOutfeed) (pushing (withOrder inBay (anOrder .outfeedWait) true false) .toOutfeed .confirm)
          (fun t => t.stageAt 0 == some .reject) = true
      ∧ after (.confirmTimerExpiry (.toMixer 1)) (pushing (withOrder inBay toMix false true) (.toMixer 1) .confirm)
          (fun t => (t.tlu.tickets.map Ticket.outcome) == [.mixIncomplete] && t.blu.list.length == 1) = true
      ∧ after .chutePulseEnded rejecting (fun t => (t.tlu.tickets.map Ticket.reason) == [.lidFault] && t.obu.cradle == none) = true := by
  decide +kernel

theorem test_witness_SensorsConfirmTransfers :
    inBay.pins.outfeed = false ∧ inBay.pins.occupied.length = 4 ∧ inBay.occupied 1 = false ∧ (occupiedOn inBay 1).occupied 1 = true
      ∧ (pushing inBay .toOutfeed .confirm).pdu.toOutfeed.phase = .confirm
      ∧ (outfeedOn (withOrder inBay (anOrder .mixWait) false true) true).outfeedIn .mixWait = some 0
      ∧ (outfeedOn inBay true).outfeedIn .mixWait = none
      ∧ after (.outfeedSensorChange true) (pushing (withOrder inBay (anOrder .outfeedWait) true false) .toOutfeed .confirm)
          (fun t => t.obu.outfeed == some 0) = true
      ∧ after (.outfeedSensorChange false) (outfeedOn (pushing (withOrder inBay (anOrder .shelf) false true) .toShelf .confirm) true)
          (fun t => t.tlu.tickets.length == 1) = true
      ∧ after (.outfeedSensorChange false) (outfeedOn (withOrder inBay { anOrder .mixWait with mixClaimOffered := true } false true) true)
          (fun t => (t.tlu.tickets.map Ticket.outcome) == [.mixIncomplete] && t.blu.list.length == 1) = true
      ∧ after (.occupiedInputChange 1 true) (pushing (withOrder inBay toMix false true) (.toMixer 1) .confirm)
          (fun t => (t.run 1).runLine && t.obu.outfeed == none) = true := by decide +kernel

def waitingDone (s : State) (armed : Bool) : State :=
  (mixingState s).modRun 1 fun _ => { phase := .awaitDone, runTimer := none, doneArmed := armed, runLine := false }

theorem test_witness_MixerRunEndsAtDone :
    ((mixingState inBay).run 1).phase = .running ∧ ((mixingState inBay).run 1).runTimer.isSome = true
      ∧ ((waitingDone inBay true).run 1).doneArmed = true ∧ (waitingDone inBay true).mixingOn 1 = some 0
      ∧ (waitingDone inBay true).order 0 = some mixing ∧ ((waitingDone inBay true).setDoneInput 1 true).doneInput 1 = true
      ∧ after (.runTimerExpiry 1) (mixingState inBay) (fun t => !(t.run 1).runLine && (t.run 1).doneArmed) = true
      ∧ after (.doneInputRise 1) (waitingDone inBay true) (fun t => (t.tlu.tickets.map Ticket.outcome) == [.filled]) = true
      ∧ after (.doneInputRise 1) (waitingDone inBay false) (fun t => t.tlu.tickets.isEmpty && t.doneInput 1) = true
      ∧ after (.doneInputFall 1) ((waitingDone inBay false).setDoneInput 1 true) (fun t => (t.run 1).doneArmed) = true := by
  decide +kernel

theorem test_witness_MixerGrantActsByTheSensors :
    inBay.awaitsMixer = none ∧ awaiting.awaitsMixer = some 0 ∧ awaiting.occupied 1 = false ∧ (outfeedOn awaiting true).pins.outfeed = true
      ∧ ((outfeedOn awaiting true).pusher (.toMixer 1)).phase = .idle ∧ 1 < awaiting.pdu.toMixer.length
      ∧ (occupiedOn awaiting 1).occupied 1 = true
      ∧ (((outfeedOn awaiting true).mixerGranted 1 9 60).pusher (.toMixer 1)).output = true
      ∧ ((awaiting.mixerGranted 1 9 60).stageAt 0) = some .done
      ∧ (((outfeedOn (occupiedOn awaiting 1) true).mixerGranted 1 9 60).stageAt 0) = some .mixWait := by decide +kernel

theorem test_witness_a_blocked_mixer_is_claimed_again :
    awaiting.isAttached = true ∧ (awaiting.blu.list ++ awaiting.blu.held).any isMixClaim = false
      ∧ ((outfeedOn (occupiedOn awaiting 1) true).mixerGranted 1 9 60).blu.list.map Entry.notice
          = [.mixRelease 1 9 2, .mixClaim 60 1 0]
      ∧ (((outfeedOn (occupiedOn awaiting 1) true).mixerGranted 1 9 60).order 0).any Order.mixClaimOffered = true
      ∧ ((((withBlu (outfeedOn (occupiedOn awaiting 1) true) fun b =>
            { b with list := [Entry.fresh (.mixClaim 60 0 0) .book false] }).mixerGranted 1 9 60).order 0).any fun o =>
            !o.mixClaimOffered) = true
      ∧ inBay.awaitsMixer = none ∧ (inBay.mixerGranted 1 9 60).blu.list.map Entry.notice = [.mixRelease 1 9 0] := by decide +kernel

theorem test_witness_tells_to_the_book :
    ((asking .base (.requested 0)).bookTell (.tokenTaken .a)).obu.request = .held .a 0
      ∧ (((asking .base (.requested 0)).bookTell (.tokenRefused .noneFree)).order 0).any (fun o => o.rushResult == .refused) = true
      ∧ (asking .reject (.requested 0)).stageAt 0 ≠ some .base
      ∧ ((asking .reject (.requested 0)).bookTell (.tokenTaken .b)).blu.list.map Entry.notice = [.rushDrop 1]
      ∧ ((asking .base .orphaned).bookTell (.tokenTaken .a)).blu.list.map Entry.notice = [.rushDrop 0]
      ∧ (asking .base .orphaned).bookTell (.tokenRefused .noneFree) = asking .base .absent
      ∧ (inBay.bookTell (.mixClaimWaits .none)).blu.list.map Entry.notice = [.mixWithdraw]
      ∧ awaiting.bookTell (.mixClaimWaits .none) = awaiting
      ∧ (awaiting.bookTell (.mixClaimDiscarded .duplicate)).stageAt 0 = some .done := by decide +kernel

/-- The tickets' reasons after a command. -/
def ticketReasons (c : Instr) (s : State) (rs : List OrderReason) : Bool := after c s fun t => t.tlu.tickets.map Ticket.reason == rs

theorem test_witness_pool_and_token_takes_tell_the_book :
    (asking .base (.requested 0)).member = true ∧ awaiting.member = true
      ∧ after (.rushTakeTaken 3 4410) (asking .base (.requested 0)) (fun t => t.obu.request == .held .a 0) = true
      ∧ after (.rushTakeTaken 3 0) (asking .base (.requested 0)) (fun t => (t.order 0).any fun o => o.rushResult == .refused) = true
      ∧ after (.mixClaimTaken 3 60 1 0) (outfeedOn awaiting true) (fun t => t.stageAt 0 == some .mixing) = true
      ∧ ticketReasons (.mixClaimTaken 3 9 1 0) awaiting [.mixerFault] = true
      ∧ after (.mixClaimTaken 3 60 1 0) (withPool { mixers with recs := mixers.recs.take 1 })
          (fun t => t.blu.list.map Entry.notice == [.mixWithdraw]) = true
      ∧ after (.mixWithdrawTaken 3) (withPool { fullPool with waiting := [{ mixClaim8 with station := 3 }] })
          (fun t => t.bt.pool == some { fullPool with waiting := [] }) = true
      ∧ after (.mixReleaseTaken 3 1 255 0) (withTimer ownMixer 17 .own 3 255)
          (fun t => (t.timer 17).state == .stopped && t.bt.pool.any fun p => p.recs[1]?.any fun r => r.state == .free) = true
      ∧ after (.mixReleaseTaken 3 1 255 3) (withTimer ownMixer 17 .own 3 255) (fun t => (t.timer 17).state == .running) = true := by
  decide +kernel

/-- A mixer comes back while this station's claim is the one that waits. -/
def returning : State :=
  { outfeedOn awaiting true with
    bt := { inBay.bt with
      pool := some
        { recs := [{ state := .held, holder := some 8, grant := 2, mixTime := some 60 }, { MixRec.built with state := .out, grant := 255 }],
          waiting := [{ mixClaim8 with station := 3 }] } } }

theorem test_witness_a_take_grants_a_mixer :
    returning.member = true ∧ returning.transmitting = false ∧ returning.bt.isPresent 8 = true ∧ 17 < returning.htb.length
      ∧ 1 < returning.pdu.toMixer.length ∧ returning.awaitsMixer = some 0 ∧ returning.occupied 1 = false
      ∧ returning.pins.outfeed = true ∧ (returning.pusher (.toMixer 1)).phase = .idle
      ∧ after (.mixerReturnTaken 8 1) returning (fun t => t.stageAt 0 == some .mixing && (t.timer 17).role == .own
          && (t.timer 17).runTime == 70000 && (t.pusher (.toMixer 1)).output && (t.timer 17).grant == 0) = true := by decide +kernel

/-! ### What the order book makes at the end of an event -/

/-- Two orders QUEUED, the younger of the higher priority, and one on HOLD. -/
def queuedOrders : State :=
  withBook inBay fun b =>
    { b with
      slots := [some { anOrder .queued with priority := .p0 }, some { anOrder .queued with priority := .p2, admission := 1 },
                some { anOrder .queued with priority := .hold, admission := 2 }, none, none, none, none, none] }

theorem test_witness_SettleMakesWhatIsDue :
    queuedOrders.obu.cradle = none ∧ queuedOrders.chooseCradle.obu.cradle = some 1 ∧ queuedOrders.chooseCradle.pdu.lamp = true
      ∧ (queuedOrders.modPdu fun p => { p with arrived := some 4 }).chooseCradle.stageAt 1 = some .base
      ∧ (queuedOrders.modPdu fun p => { p with arrived := some 5 }).chooseCradle.stageAt 1 = some .loading
      ∧ (withOrder inBay (anOrder .base) true false).obu.cradle ≠ none
      ∧ (asking .base .absent).cradleIn .base = some 0 
      ∧ (asking .base .absent).requestRush.obu.request = .requested 0
      ∧ (asking .base .orphaned).requestRush = asking .base .orphaned
      ∧ (withOrder inBay { anOrder .base with baseFinished := true, rushResult := .refused } true false).openGate.stageAt 0
          = some .tint
      ∧ (withOrder inBay (anOrder .base) true false).openGate.stageAt 0 = some .base
      ∧ inBay.cradleIn .base = none ∧ inBay.cradleIn .tint = none ∧ inBay.outfeedIn .mixWait = none
      ∧ (withOrder inBay (anOrder .mixWait) false true).claimMixer.blu.list.map Entry.notice = [.mixClaim 60 1 0]
      ∧ awaiting.claimMixer = awaiting := by decide +kernel

theorem test_witness_dosing_begins_and_ends :
    (withOrder inBay (anOrder .tint) true false).cradleIn .tint = some 0
      ∧ (withOrder inBay (anOrder .tint) true false).dose.blu.list.map Entry.notice = [.claim 1 4 300 1 0, .claim 0 1 96 1 0]
      ∧ ((withOrder inBay (anOrder .tint) true false).dose.mp 1).bound = some 0
      ∧ ((withOrder inBay { anOrder .tint with handed := 2 } true false).handNext 0)
          = withOrder inBay { anOrder .tint with handed := 2 } true false
      ∧ (dosing .shooting .opened 0).endTint 0 = dosing .shooting .opened 0
      ∧ ((withOrder inBay { anOrder .tint with stopping := some .over } true false).endTint 0).stageAt 0 = some .reject
      ∧ ((withOrder inBay (anOrder .tint) true false).endTint 0) = withOrder inBay (anOrder .tint) true false
      ∧ ((withOrder inBay { anOrder .tint with results := [], lid := false } true false).endTint 0).stageAt 0 = some .outfeedWait
      ∧ ((withOrder inBay { anOrder .tint with results := [], lid := true } true false).endTint 0).pdu.press.phase = .seat := by
  decide +kernel

/-- An order in DONE, and `n` tickets that wait for the terminal. -/
def leavingBook (n : Nat) : State :=
  { withBook (withOrder inBay { anOrder .done with outcome := some .filled } false false) fun b =>
      { b with slots := b.slots.set 1 (some { anOrder .queued with admission := 1 }), doneOrder := [0] } with
    tlu := { Tlu.reset with tickets := List.replicate n aTicket } }

theorem test_witness_the_outfeed_and_the_tickets :
    (withOrder inBay (anOrder .outfeedWait) true false).cradleIn .outfeedWait = some 0
      ∧ (withOrder inBay (anOrder .outfeedWait) true false).callOutfeed.pdu.toOutfeed.output = true
      ∧ (outfeedOn (withOrder inBay (anOrder .outfeedWait) true false) true).callOutfeed.pdu.toOutfeed.output = false
      ∧ (leavingBook 7).obu.doneOrder = [0] ∧ (State.queueTickets 1 (leavingBook 7)).tlu.tickets.length = 8
      ∧ (State.queueTickets 1 (leavingBook 7)).order 0 = none
      ∧ ((State.queueTickets 1 (leavingBook 7)).order 1).any (fun o => o.admission == 0) = true
      ∧ State.queueTickets 8 (leavingBook 8) = leavingBook 8 := by decide +kernel

/-! ### The laws and the layouts -/

def queued (s : State) (c : Instr) : State := { s with pending := [c] }

theorem test_witness_laws :
    (queued (dosing .shooting .opened 5) (.tapMeterPulse 1)).dosingLawful = true
      ∧ (∀ p ∈ (queued (dosing .shooting .opened 5) (.tapMeterPulse 1)).mps, p.lawful = true)
      ∧ (queued (dosing .shooting .opened 5) (.tapMeterPulse 1)).tapValve 1 = true
      ∧ (queued (sending .mixWithdraw 0 0) (.leaveTaken 8)).blu.lawful = true
      ∧ (queued (withTlu ready sendingReply) .start).tlu.lawful = true
      ∧ (queued (withTag 7) (.order fields)).obu.numbered = true ∧ (queued (withTag 7) (.order fields)).tagsDistinct = true
      ∧ (queued inBay (.order fields)).shaped = true ∧ (queued inBay (.order fields)).queueWellFormed = true := by decide +kernel

theorem test_witness_layouts :
    (Notice.image 5 (.mixers mixers.recs [mixClaim8])).wellFormed = true ∧ mixers.recs.length = 2
      ∧ noticeOf 2 3 (noticePayload (.image 5 (.mixers mixers.recs [mixClaim8]))) = some (.image 5 (.mixers mixers.recs [mixClaim8]))
      ∧ noticeOf 2 3 (noticePayload (.image 5 (.line 1 waitLine))) = some (.image 5 (.line 1 waitLine))
      ∧ noticeOf 2 3 (noticePayload (.image 5 (.rosterTokens roster none (some { station := 8, tag := 300 }))))
          = some (.image 5 (.rosterTokens roster none (some { station := 8, tag := 300 })))
      ∧ (Instr.order fields).wellFormed = true ∧ commandKind (.order fields) ≠ 0
      ∧ commandOf 4 (commandPayload (.order fields)) = some (.order fields) ∧ commandLengthOk 1 (setupBytes block) = true
      ∧ commandOf 1 (commandPayload (.setup block)) = some (.setup block)
      ∧ framesIn .hunting ((frameBytes 5 [17, 58]).map fun v => { value := v, stopBit := true }) = [(5, [17, 58])] := by
  decide +kernel

end Sys2Proof.Tests
end

section
/-! SUPPORT. The outgoing list (R15 to R17): what a notice claims, where an entry is inserted, which held offer is taken up, and the
law of the list as one structure that every operation of the list keeps. -/

namespace Sys2Proof.Machine

/-! ### What a notice claims -/

/-- What a notice claims: a line (`some (some line)`), any mixer (`some none`), or nothing. -/
def claimOf : Notice → Option (Option Nat)
  | .claim line _ _ _ _ => some (some line)
  | .mixClaim _ _ _ => some none
  | _ => none

/-- R16 (a): two notices clash exactly when they claim the same thing. -/
theorem clashes_eq (n : Notice) (e : Entry) : clashes n e = ((claimOf n).isSome && claimOf n == claimOf e.notice) := by
  obtain ⟨m, _⟩ := e
  cases n with
  | claim => cases m <;> simp [clashes, claimOf]
  | mixClaim => cases m <;> simp [clashes, claimOf]
  | _ => simp [clashes, claimOf]

/-- A notice that claims nothing clashes with no entry. -/
theorem clashes_of_claimOf_none {n : Notice} (h : claimOf n = none) (e : Entry) : clashes n e = false := by
  rw [clashes_eq, h]; rfl

theorem clashes_comm (a b : Entry) : clashes a.notice b = clashes b.notice a := by
  rw [clashes_eq, clashes_eq, Bool.eq_iff_iff]
  simp only [Bool.and_eq_true, beq_iff_eq]
  exact ⟨fun ⟨h, e⟩ => ⟨e ▸ h, e.symm⟩, fun ⟨h, e⟩ => ⟨e ▸ h, e.symm⟩⟩

/-! ### The place of an entry -/

theorem classSorted_iff (l : List Entry) : classSorted l = true ↔ l.Pairwise fun a b => a.class_ ≤ b.class_ := by
  have : IsTrans Entry fun a b => a.class_ ≤ b.class_ := ⟨fun _ _ _ => Nat.le_trans⟩
  rw [← List.isChain_iff_pairwise]
  induction l using classSorted.induct with
  | case1 a b rest ih => simp [classSorted, ih]
  | case2 l h =>
    match l with
    | [] => simp [classSorted]
    | [a] => simp [classSorted]
    | a :: b :: rest => exact absurd rfl (h a b rest)

/-- R15: in an ordered list an entry goes behind every entry of its own class and ahead of the higher classes. -/
theorem insertEntry_split (e : Entry) (l : List Entry) (h : l.Pairwise fun a b => a.class_ ≤ b.class_) :
    ∃ before after, l = before ++ after ∧ (∀ x ∈ before, x.class_ ≤ e.class_) ∧ (∀ x ∈ after, e.class_ < x.class_)
      ∧ insertEntry e l = before ++ e :: after := by
  induction l with
  | nil => exact ⟨[], [], by simp [insertEntry]⟩
  | cons x xs ih =>
    obtain ⟨hx, hxs⟩ := List.pairwise_cons.1 h
    by_cases hlt : e.class_ < x.class_
    · refine ⟨[], x :: xs, rfl, by simp, ?_, by simp [insertEntry, hlt]⟩
      intro y hy
      rcases List.mem_cons.1 hy with rfl | hy
      · exact hlt
      · exact Nat.lt_of_lt_of_le hlt (hx y hy)
    · obtain ⟨before, after, rfl, hb, ha, hi⟩ := ih hxs
      refine ⟨x :: before, after, rfl, ?_, ha, by simp [insertEntry, hlt, hi]⟩
      exact List.forall_mem_cons.2 ⟨Nat.le_of_not_lt hlt, hb⟩

theorem insertEntry_perm (e : Entry) (l : List Entry) : (insertEntry e l).Perm (e :: l) := by
  induction l with
  | nil => exact .refl _
  | cons x xs ih =>
    unfold insertEntry
    split
    · exact .refl _
    · exact (ih.cons x).trans (.swap e x xs)

theorem insertEntry_sorted (e : Entry) (l : List Entry) (h : l.Pairwise fun a b => a.class_ ≤ b.class_) :
    (insertEntry e l).Pairwise fun a b => a.class_ ≤ b.class_ := by
  obtain ⟨before, after, rfl, hb, ha, hi⟩ := insertEntry_split e l h
  obtain ⟨h1, h2, h3⟩ := List.pairwise_append.1 h
  rw [hi]
  refine List.pairwise_append.2 ⟨h1, List.pairwise_cons.2 ⟨fun x hx => Nat.le_of_lt (ha x hx), h2⟩, fun x hx y hy => ?_⟩
  rcases List.mem_cons.1 hy with rfl | hy
  · exact hb x hx
  · exact h3 x hx y hy

/-! ### The held offer that is taken up -/

theorem eq_nil_of_takeLowest {held : List Entry} (h : takeLowest held = none) : held = [] := by
  cases held with
  | nil => rfl
  | cons x xs =>
    unfold takeLowest at h
    split at h
    · cases h
    · split at h <;> cases h

theorem takeLowest_perm {held rest : List Entry} {e : Entry} (h : takeLowest held = some (e, rest)) :
    held.Perm (e :: rest) := by
  induction held generalizing e rest with
  | nil => cases h
  | cons x xs ih =>
    unfold takeLowest at h
    split at h
    · next hn =>
      cases h
      rw [eq_nil_of_takeLowest hn]
    · next e' rest' hs =>
      split at h <;> cases h
      · exact .refl _
      · exact ((ih hs).cons x).trans (.swap _ _ _)

/-- R16 (c): of the held offers the one of lowest class is taken up, and of one class the one held longest. -/
theorem takeLowest_middle (before after : List Entry) (e : Entry) (hb : ∀ x ∈ before, e.class_ < x.class_)
    (ha : ∀ x ∈ after, e.class_ ≤ x.class_) : takeLowest (before ++ e :: after) = some (e, before ++ after) := by
  induction before with
  | nil =>
    simp only [List.nil_append, takeLowest]
    split
    · next hn => rw [eq_nil_of_takeLowest hn]
    · next e' rest' hs =>
      rw [if_pos (ha e' ((takeLowest_perm hs).symm.subset List.mem_cons_self))]
  | cons x xs ih =>
    obtain ⟨hx, hxs⟩ := List.forall_mem_cons.1 hb
    simp only [List.cons_append, takeLowest, ih hxs]
    rw [if_neg (Nat.not_le.2 hx)]

/-! ### The law of the list -/

/-- What the law of the list reads of an entry: its class, what it claims, and whether a terminal command offered it. -/
structure Standing where
  class_ : Nat
  claims : Option (Option Nat)
  fromTerminal : Bool

/-- The standing of an entry. -/
def Entry.standing (e : Entry) : Standing :=
  { class_ := e.class_, claims := claimOf e.notice, fromTerminal := e.fromTerminal }

/-- A relation of standings that holds along a list holds along one with fewer of them. -/
theorem pairwise_of_standings {l l' : List Entry} (R : Standing → Standing → Prop)
    (hs : (l'.map Entry.standing).Sublist (l.map Entry.standing)) (h : l.Pairwise fun a b => R a.standing b.standing) :
    l'.Pairwise fun a b => R a.standing b.standing :=
  List.pairwise_map.1 ((List.pairwise_map.2 h).sublist hs)

/-- R15, R16: the law of the outgoing list and the held offers, `Blu.lawful` part by part. -/
structure ListLawful (list held : List Entry) : Prop where
  room : list.length ≤ 16
  terminals : terminalCount list ≤ 4
  sorted : list.Pairwise fun a b => a.class_ ≤ b.class_
  apart : (list ++ held).Pairwise fun a b => clashes a.notice b = false
  blocks : ∀ e ∈ held, e.fromTerminal = false

theorem noClash_iff (l : List Entry) : noClash l = true ↔ l.Pairwise fun a b => clashes a.notice b = false := by
  induction l with
  | nil => simp [noClash]
  | cons x xs ih => simp [noClash, ih, List.pairwise_cons]

theorem Blu.lawful_iff (b : Blu) : b.lawful = true ↔ ListLawful b.list b.held := by
  unfold Blu.lawful
  simp only [Bool.and_eq_true, decide_eq_true_eq, classSorted_iff, noClash_iff, List.all_eq_true, Bool.not_eq_true']
  exact ⟨fun ⟨⟨⟨⟨room, terminals⟩, sorted⟩, apart⟩, blocks⟩ => ⟨room, terminals, sorted, apart, blocks⟩,
    fun ⟨room, terminals, sorted, apart, blocks⟩ => ⟨⟨⟨⟨room, terminals⟩, sorted⟩, apart⟩, blocks⟩⟩

namespace ListLawful

variable {list held list' held' : List Entry} {e : Entry}

theorem nil : ListLawful [] [] := ⟨by decide, by decide, .nil, .nil, by simp⟩

/-- The law reads standings alone, and fewer entries keep it. -/
theorem of_sublist (h : ListLawful list held) (hl : (list'.map Entry.standing).Sublist (list.map Entry.standing))
    (hh : (held'.map Entry.standing).Sublist (held.map Entry.standing)) : ListLawful list' held' where
  room := by simpa using hl.length_le.trans (by simpa using h.room)
  terminals := by
    have count : ∀ l : List Entry, terminalCount l = (l.map Entry.standing).countP Standing.fromTerminal := fun l => by
      rw [List.countP_map]; rfl
    exact (count list' ▸ count list ▸ hl.countP_le).trans h.terminals
  sorted := pairwise_of_standings (fun k k' => k.class_ ≤ k'.class_) hl h.sorted
  apart := by
    have apart := h.apart
    simp only [clashes_eq] at apart ⊢
    exact pairwise_of_standings (fun k k' => (k.claims.isSome && k.claims == k'.claims) = false) (by simpa using hl.append hh)
      apart
  blocks := by
    intro e he
    obtain ⟨e', he', hs⟩ := List.mem_map.1 (hh.subset (List.mem_map_of_mem he))
    have : e'.fromTerminal = e.fromTerminal := congrArg Standing.fromTerminal hs
    exact this ▸ h.blocks e' he'

/-- R15, R16: an entry inserted where there is room for it, that clashes with nothing. -/
theorem insert (h : ListLawful list held) (room : list.length < 16) (terminals : terminalCount (e :: list) ≤ 4)
    (apart : ∀ x ∈ list ++ held, clashes e.notice x = false) : ListLawful (insertEntry e list) held where
  room := by rw [(insertEntry_perm e list).length_eq]; exact room
  terminals := by unfold terminalCount; rw [(insertEntry_perm e list).countP_eq]; exact terminals
  sorted := insertEntry_sorted e list h.sorted
  apart :=
    (((insertEntry_perm e list).append_right held).pairwise_iff fun h => by rwa [clashes_comm]).2
      (List.pairwise_cons.2 ⟨apart, h.apart⟩)
  blocks := h.blocks

end ListLawful

/-- A block's entry does not count among those of terminal commands. -/
theorem terminalCount_cons_of_block {e : Entry} (l : List Entry) (h : e.fromTerminal = false) :
    terminalCount (e :: l) = terminalCount l := List.countP_cons_of_neg (by simp [h])

theorem lawful_admitUpTo (n : Nat) {l held : List Entry} (h : ListLawful l held) :
    ListLawful (admitUpTo n l held).1 (admitUpTo n l held).2 := by
  induction n generalizing l held with
  | zero => exact h
  | succ n ih =>
    unfold admitUpTo
    split
    · next room =>
      split
      · exact h
      · next e rest ht =>
        have hp := takeLowest_perm ht
        have he : e.fromTerminal = false := h.blocks e (hp.symm.subset List.mem_cons_self)
        have apart : (e :: (l ++ rest)).Pairwise fun a b => clashes a.notice b = false :=
          (((hp.append_left l).trans List.perm_middle).pairwise_iff fun h => by rwa [clashes_comm]).1 h.apart
        have rested : ListLawful l rest :=
          ⟨h.room, h.terminals, h.sorted, apart.of_cons, fun x hx => h.blocks x (hp.symm.subset (List.mem_cons_of_mem e hx))⟩
        exact ih (rested.insert room ((terminalCount_cons_of_block l he).le.trans h.terminals)
          (List.pairwise_cons.1 apart).1)
    · exact h

/-- R16 (c): filling the room from the held offers keeps the law. -/
theorem lawful_admitHeld {b : Blu} (h : ListLawful b.list b.held) : b.admitHeld.lawful = true :=
  b.admitHeld.lawful_iff.2 (lawful_admitUpTo _ h)

end Sys2Proof.Machine
end

section
/-! SUPPORT. What can become of the outgoing list at one event, as the moves of the list that the operations of the model are made
of; and that each move keeps the law of the list. -/

namespace Sys2Proof.Machine

/-- One thing that becomes of the outgoing list and the held offers (R15 to R17, R20). -/
inductive Blu.Move (b : Blu) : Blu → Prop
  | offer (n : Notice) (o : Owner) : Move b (b.offer n o).1
  | offerTerminal {n : Notice} {b' : Blu} (free : claimOf n = none) (h : b.offerTerminal n = some b') : Move b b'
  | strike (p : Entry → Bool) : Move b (b.strike p)
  | ownTaken (n : Notice) : Move b (b.ownTaken n)
  | backToWaiting (refill : Bool) : Move b (b.backToWaiting refill)
  /-- Every entry keeps its standing and its place: the counters, the listening, a notice filled in. -/
  | restand {b' : Blu} (list : b'.list.map Entry.standing = b.list.map Entry.standing) (held : b'.held = b.held) : Move b b'
  | clear {b' : Blu} (list : b'.list = []) (held : b'.held = []) : Move b b'

theorem lawful_offer (b : Blu) (n : Notice) (o : Owner) (h : ListLawful b.list b.held) :
    ListLawful (b.offer n o).1.list (b.offer n o).1.held := by
  unfold Blu.offer
  split
  · exact h
  · next hc =>
    have free : ∀ x ∈ b.list ++ b.held, clashes n x = false := fun x hx =>
      Bool.eq_false_of_not_eq_true (List.any_eq_false.1 (Bool.eq_false_of_not_eq_true hc) x hx)
    split
    · exact
        { room := h.room, terminals := h.terminals, sorted := h.sorted
          apart := by
            rw [← List.append_assoc]
            refine List.pairwise_append.2 ⟨h.apart, List.pairwise_singleton _ _, fun x hx y hy => ?_⟩
            rw [List.mem_singleton.1 hy, clashes_comm]
            exact free x hx
          blocks := by
            intro e he
            rcases List.mem_append.1 he with he | he
            · exact h.blocks e he
            · rw [List.mem_singleton.1 he]; rfl }
    · next room =>
      exact h.insert (Nat.lt_of_not_le room) ((terminalCount_cons_of_block b.list rfl).le.trans h.terminals) free

theorem lawful_offerTerminal {b b' : Blu} {n : Notice} (free : claimOf n = none) (hb : b.offerTerminal n = some b')
    (h : ListLawful b.list b.held) : ListLawful b'.list b'.held := by
  unfold Blu.offerTerminal at hb
  split at hb
  · cases hb
  · next hroom =>
    cases hb
    obtain ⟨ht, hr⟩ := not_or.1 hroom
    refine h.insert (Nat.lt_of_not_le hr) ?_ fun x _ => clashes_of_claimOf_none free x
    rw [terminalCount, List.countP_cons_of_pos rfl]
    exact Nat.lt_of_not_le ht

/-- What a strike or a way back to waiting leaves of a list are entries of it, of the same standing. -/
theorem standings_filterMap {f : Entry → Option Entry} (hf : ∀ e e', f e = some e' → e'.standing = e.standing)
    (l : List Entry) : ((l.filterMap f).map Entry.standing).Sublist (l.map Entry.standing) := by
  induction l with
  | nil => exact .refl _
  | cons x xs ih =>
    cases hx : f x with
    | none => rw [List.filterMap_cons_none hx]; exact ih.trans (List.sublist_cons_self _ _)
    | some y =>
      rw [List.filterMap_cons_some hx, List.map_cons, List.map_cons, hf x y hx]
      exact ih.cons_cons _

theorem standing_of_strikeEntry (p : Entry → Bool) (e e' : Entry) (h : strikeEntry p e = some e') : e'.standing = e.standing := by
  unfold strikeEntry at h
  split at h
  · split at h <;> cases h
    rfl
  · cases h; rfl

theorem standing_of_backEntry (refill : Bool) (e e' : Entry) (h : backEntry refill e = some e') : e'.standing = e.standing := by
  unfold backEntry at h
  split at h
  · split at h <;> cases h
    rfl
  · cases h; rfl

/-- Every move of the list keeps its law. -/
theorem Blu.Move.lawful {b b' : Blu} (m : b.Move b') (h : b.lawful = true) : b'.lawful = true := by
  rw [Blu.lawful_iff] at h
  cases m with
  | offer n o => exact (Blu.lawful_iff _).2 (lawful_offer b n o h)
  | offerTerminal free hb => exact (Blu.lawful_iff _).2 (lawful_offerTerminal free hb h)
  | strike p =>
    exact lawful_admitHeld (h.of_sublist (standings_filterMap (standing_of_strikeEntry p) _) (List.filter_sublist.map _))
  | ownTaken n => exact lawful_admitHeld (h.of_sublist (List.filter_sublist.map _) (.refl _))
  | backToWaiting refill =>
    exact lawful_admitHeld (h.of_sublist (standings_filterMap (standing_of_backEntry refill) _) (.refl _))
  | restand list held => exact (Blu.lawful_iff _).2 (h.of_sublist (list ▸ .refl _) (held ▸ .refl _))
  | clear list held => rw [Blu.lawful_iff, list, held]; exact .nil

/-! ### Moves from state to state -/

/-- From `s` to `t` the outgoing list makes moves of the list and nothing else becomes of it. -/
structure ListMoves (s t : State) : Prop where
  of ::
  moves : Relation.ReflTransGen Blu.Move s.blu t.blu

namespace ListMoves

variable {s t u : State}

theorem lawful (h : ListMoves s t) (hs : s.blu.lawful = true) : t.blu.lawful = true := by
  obtain ⟨m⟩ := h
  generalize t.blu = b at m
  induction m with
  | refl => exact hs
  | tail _ m ih => exact m.lawful ih

theorem move (h : s.blu.Move t.blu) : ListMoves s t := .of (.single h)

/-- Nothing becomes of the list. -/
theorem same (h : t.blu = s.blu) : ListMoves s t := .of (h ▸ .refl)

/-- The list stands, with the held offers; only what stands beside them in the block may change. -/
theorem beside (list : t.blu.list = s.blu.list) (held : t.blu.held = s.blu.held) : ListMoves s t :=
  .move (.restand (congrArg _ list) held)

theorem refl (s : State) : ListMoves s s := .same rfl

theorem trans (h : ListMoves s t) (g : ListMoves t u) : ListMoves s u := .of (h.moves.trans g.moves)

/-- Nothing became of the list before. -/
theorem after (g : ListMoves t u) (h : t.blu = s.blu := by rfl) : ListMoves s u := (ListMoves.same h).trans g

/-- Nothing becomes of the list afterwards. -/
theorem before (g : ListMoves s t) (h : u.blu = t.blu) : ListMoves s u := g.trans (.same h)

theorem modDc {k f} (g : ListMoves s t) : ListMoves s (t.modDc k f) := g.before rfl
theorem modMp {k f} (g : ListMoves s t) : ListMoves s (t.modMp k f) := g.before rfl
theorem modTimer {i f} (g : ListMoves s t) : ListMoves s (t.modTimer i f) := g.before rfl
theorem modBt {f} (g : ListMoves s t) : ListMoves s (t.modBt f) := g.before rfl
theorem modSsl {f} (g : ListMoves s t) : ListMoves s (t.modSsl f) := g.before rfl
theorem modBook {f} (g : ListMoves s t) : ListMoves s (t.modBook f) := g.before rfl
theorem modOrder {k f} (g : ListMoves s t) : ListMoves s (t.modOrder k f) := g.before rfl
theorem modTlu {f} (g : ListMoves s t) : ListMoves s (t.modTlu f) := g.before rfl
theorem enter {st} (g : ListMoves s t) : ListMoves s (t.enter st) := g.before (State.enter_blu t st)

theorem offer {n o} (g : ListMoves s t) : ListMoves s (t.offer n o) := g.trans (.move (.offer n o))
theorem strike {p} (g : ListMoves s t) : ListMoves s (t.strike p) := g.trans (.move (.strike p))

theorem foldl {α : Type} (f : State → α → State) (h : ∀ s a, ListMoves s (f s a)) (l : List α) (s : State) :
    ListMoves s (l.foldl f s) := by
  induction l generalizing s with
  | nil => exact .refl s
  | cons a l ih => exact (h s a).trans (ih (f s a))

end ListMoves

theorem listMoves_offer (s : State) (n o) : ListMoves s (s.offer n o) := .move (.offer n o)

theorem listMoves_strike (s : State) (p) : ListMoves s (s.strike p) := .move (.strike p)

end Sys2Proof.Machine
end

section
/-! SUPPORT. What dosing, the drives and the order book make of the outgoing list: offers and strikes. -/

namespace Sys2Proof.Machine

/-! ### Dosing -/

theorem listMoves_writeReport (s : State) (k o) : ListMoves s (s.writeReport k o) := .same (s.writeReport_blu k o)

theorem listMoves_stopChannel (s : State) (k : Nat) : ListMoves s (s.stopChannel k) := by
  unfold State.stopChannel
  split
  · exact .refl s
  · exact .refl s
  · split
    · exact (listMoves_strike s _).modDc
    · exact (listMoves_strike s _).trans (listMoves_writeReport _ _ _)
  · exact (listMoves_offer s _ _).modDc
  · exact (listMoves_offer s _ _).modMp.modDc
  · split
    · exact (ListMoves.refl s).modMp.modDc
    · exact (ListMoves.refl s).modDc
    all_goals exact .refl s
  · split
    · exact (listMoves_strike s _).modDc
    all_goals exact .refl s

theorem listMoves_stopThose (s : State) (slot : Nat) (pick) : ListMoves s (s.stopThose slot pick) := by
  refine .foldl _ (fun s k => ?_) _ s
  split
  · exact listMoves_stopChannel s k
  · exact .refl s

theorem listMoves_stopChannels (s : State) (slot : Nat) : ListMoves s (s.stopChannels slot) :=
  (listMoves_stopThose s _ _).trans (listMoves_stopThose _ _ _)

theorem listMoves_stopOrder (s : State) (slot reason) : ListMoves s (s.stopOrder slot reason) := by
  unfold State.stopOrder
  split
  · exact .refl s
  · split
    · exact .refl s
    · exact (listMoves_stopChannels _ _).after

theorem listMoves_report (s : State) (k o) : ListMoves s (s.report k o) := by
  unfold State.report
  repeat' split
  · exact (listMoves_writeReport s _ _).trans (listMoves_stopOrder _ _ _)
  all_goals exact listMoves_writeReport s _ _

/-- The list as an offer that is looked at leaves it. -/
theorem listMoves_of_offer {s : State} {n : Notice} {o : Owner} {b : Blu} {r : OfferResult} (h : s.blu.offer n o = (b, r)) :
    ListMoves s { s with blu := b } :=
  .move (by rw [show b = (s.blu.offer n o).1 by rw [h]]; exact .offer n o)

theorem listMoves_offerClaim (s : State) (k st) : ListMoves s (s.offerClaim k st) := by
  unfold State.offerClaim
  simp only
  split
  · exact (listMoves_report _ _ _).after
  · next h => exact ((listMoves_of_offer h).modDc).after

theorem listMoves_handOver (s : State) (k slot entry e) : ListMoves s (s.handOver k slot entry e) :=
  (ListMoves.refl s).modDc.modMp.trans (listMoves_offerClaim _ _ _)

theorem listMoves_giveBack (s : State) (k drops o) : ListMoves s (s.giveBack k drops o) := by
  unfold State.giveBack
  simp only
  split
  · exact (listMoves_offer s _ _).modMp.modDc.trans (listMoves_offerClaim _ _ _)
  · exact (listMoves_offer s _ _).modMp.modDc

@[simp] theorem State.periodStart_blu (s : State) (k : Nat) : (s.periodStart k).blu = s.blu := by
  unfold State.periodStart
  simp only
  split <;> rfl

@[simp] theorem State.beginDose_blu (s : State) (k g a d : Nat) : (s.beginDose k g a d).blu = s.blu := by
  unfold State.beginDose
  simp only
  split
  · rw [State.periodStart_blu]; rfl
  · rfl

theorem listMoves_refuseGrant (s : State) (k g) : ListMoves s (s.refuseGrant k g) :=
  (ListMoves.refl s).modDc.offer.modDc

theorem listMoves_grantTell (s : State) (k h) : ListMoves s (s.grantTell k h) := by
  unfold State.grantTell
  repeat' split
  all_goals first | exact .refl s | exact listMoves_refuseGrant s _ _ | exact .same (s.beginDose_blu _ _ _ _)

theorem listMoves_released (s : State) (k) : ListMoves s (s.released k) := by
  unfold State.released
  repeat' split
  all_goals first | exact .refl s | exact (ListMoves.refl s).modDc | exact listMoves_report s _ _

theorem listMoves_lineTell (s : State) (k t) : ListMoves s (s.lineTell k t) := by
  unfold State.lineTell
  repeat' split
  all_goals
    first
    | exact .refl s
    | exact (ListMoves.refl s).modDc
    | exact (listMoves_offer s _ _).modDc
    | exact (ListMoves.refl s).modMp.modDc
    | exact listMoves_report s _ _
    | exact listMoves_released s _
    | exact (ListMoves.refl s).modMp.trans (listMoves_report _ _ _)

theorem listMoves_afterShot (s : State) (k m p o) : ListMoves s (s.afterShot k m p o) := by
  unfold State.afterShot
  simp only
  repeat' split
  all_goals
    first
    | exact .same (s.periodStart_blu k)
    | exact (ListMoves.refl s).modMp.trans (listMoves_report _ _ _)
    | exact (ListMoves.refl s).modDc.trans (listMoves_giveBack _ _ _ _)

theorem listMoves_captureShot (s : State) (k) : ListMoves s (s.captureShot k) :=
  (ListMoves.refl s).modMp.modDc.trans (listMoves_afterShot _ _ _ _ _)

theorem listMoves_ownLimit (s : State) (k) : ListMoves s (s.ownLimit k) := by
  unfold State.ownLimit
  split
  · exact (ListMoves.refl s).modDc.trans (listMoves_giveBack _ _ _ _)
  · exact (ListMoves.refl s).modMp.modDc
  · exact .refl s

theorem listMoves_leaveChannel (s : State) (k) : ListMoves s (s.leaveChannel k) := by
  unfold State.leaveChannel
  split
  · exact .refl s
  · exact (ListMoves.refl s).modMp.modDc
  · exact (ListMoves.refl s).modMp.trans (listMoves_report _ _ _)
  all_goals exact listMoves_report s _ _

/-! ### Drives -/

@[simp] theorem State.startFill_blu (s : State) (t : Nat) : (s.startFill t).blu = s.blu := by
  unfold State.startFill; split <;> rfl
@[simp] theorem State.startPress_blu (s : State) : s.startPress.blu = s.blu := by
  unfold State.startPress; split <;> rfl
@[simp] theorem State.startTransfer_blu (s : State) (p : Pusher) : (s.startTransfer p).blu = s.blu := by
  unfold State.startTransfer; split
  · exact State.modPusher_blu s p _
  · rfl
@[simp] theorem State.startChute_blu (s : State) : s.startChute.blu = s.blu := by
  unfold State.startChute; split <;> rfl
@[simp] theorem State.raiseRun_blu (s : State) (m t : Nat) : (s.raiseRun m t).blu = s.blu := by
  unfold State.raiseRun; split <;> rfl
@[simp] theorem State.dropRun_blu (s : State) (m : Nat) : (s.dropRun m).blu = s.blu := by
  unfold State.dropRun; split <;> rfl

/-! ### Orders -/

theorem listMoves_dropToken (s : State) (slot) : ListMoves s (s.dropToken slot) := by
  unfold State.dropToken
  split
  · split
    · exact (listMoves_offer s _ _).modBook
    · exact .refl s
  · exact .refl s

theorem listMoves_finish (s : State) (slot o r) : ListMoves s (s.finish slot o r) :=
  (listMoves_dropToken s slot).modOrder.modBook

theorem listMoves_reject (s : State) (slot r) : ListMoves s (s.reject slot r) :=
  (listMoves_dropToken s slot).modOrder.before (State.startChute_blu _)

@[simp] theorem State.seat_blu (s : State) (slot : Nat) : (s.seat slot).blu = s.blu := by
  unfold State.seat
  simp only
  split
  · split
    · rfl
    · exact State.startFill_blu _ _
  · rfl

@[simp] theorem State.judgeTin_blu (s : State) (slot code : Nat) : (s.judgeTin slot code).blu = s.blu := by
  unfold State.judgeTin
  split
  · split
    · exact State.seat_blu s slot
    · rfl
  · rfl

@[simp] theorem State.chooseCradle_blu (s : State) : s.chooseCradle.blu = s.blu := by
  unfold State.chooseCradle
  simp only
  split
  · split
    · exact State.judgeTin_blu _ _ _
    · rfl
  · rfl

theorem listMoves_requestRush (s : State) : ListMoves s s.requestRush := by
  unfold State.requestRush
  repeat' split
  all_goals first | exact .refl s | exact (listMoves_offer s _ _).modBook

@[simp] theorem State.openGate_blu (s : State) : s.openGate.blu = s.blu := by
  unfold State.openGate
  repeat' split
  all_goals rfl

theorem listMoves_handNext (s : State) (slot) : ListMoves s (s.handNext slot) := by
  unfold State.handNext
  repeat' split
  all_goals first | exact .refl s | exact (ListMoves.refl s).modOrder.trans (listMoves_handOver _ _ _ _ _)

theorem listMoves_leaveTint (s : State) (slot o) : ListMoves s (s.leaveTint slot o) := by
  have dropped : ListMoves s (if o.mixTime = 0 then s.dropToken slot else s) := by
    split
    · exact listMoves_dropToken s slot
    · exact .refl s
  unfold State.leaveTint
  simp only
  split
  · exact dropped.before (State.startPress_blu _)
  · exact dropped.modOrder

theorem listMoves_endTint (s : State) (slot) : ListMoves s (s.endTint slot) := by
  unfold State.endTint
  repeat' split
  all_goals first | exact .refl s | exact listMoves_reject s _ _ | exact listMoves_leaveTint s _ _

theorem listMoves_dose (s : State) : ListMoves s s.dose := by
  unfold State.dose
  split
  · exact .refl s
  · refine .trans ?_ (listMoves_endTint _ _)
    iterate 3 refine .trans ?_ (listMoves_handNext _ _)
    exact listMoves_handNext s _

@[simp] theorem State.callOutfeed_blu (s : State) : s.callOutfeed.blu = s.blu := by
  unfold State.callOutfeed
  split
  · rfl
  · split
    · exact State.startTransfer_blu s _
    · rfl

theorem listMoves_claimMixer (s : State) : ListMoves s s.claimMixer := by
  unfold State.claimMixer
  split
  · exact .refl s
  · split
    · split
      · exact .refl s
      · next h => exact (listMoves_of_offer h).modOrder
    · exact .refl s

@[simp] theorem State.queueTickets_blu (n : Nat) (s : State) : (State.queueTickets n s).blu = s.blu := by
  induction n generalizing s with
  | zero => rfl
  | succ n ih =>
    unfold State.queueTickets
    repeat' split
    all_goals first | rfl | exact ih _

/-- What the order book makes at the end of an event are moves of the list. -/
theorem listMoves_settle (s : State) : ListMoves s s.settle := by
  refine (listMoves_claimMixer s).trans (ListMoves.after ?_ (State.chooseCradle_blu _))
  refine (listMoves_requestRush _).trans (ListMoves.after ?_ (State.openGate_blu _))
  exact (listMoves_dose _).before ((State.queueTickets_blu 8 _).trans (State.callOutfeed_blu _))

theorem listMoves_rushUnwanted (s : State) (token) : ListMoves s (s.rushUnwanted token) := by
  unfold State.rushUnwanted
  split
  · exact (ListMoves.refl s).modBook
  · exact (listMoves_offer s _ _).modBook

@[simp] theorem State.rushSettled_blu (s : State) (slot : Nat) (token : Rush) : (s.rushSettled slot token).blu = s.blu := by
  cases token <;> rfl

theorem listMoves_rushTell (s : State) (t) : ListMoves s (s.rushTell t) := by
  unfold State.rushTell
  repeat' split
  all_goals first | exact .refl s | exact .same (State.rushSettled_blu _ _ _) | exact listMoves_rushUnwanted s _

theorem listMoves_enterMixing (s : State) (slot m g t) : ListMoves s (s.enterMixing slot m g t) :=
  (ListMoves.refl s).modOrder.trans (listMoves_dropToken _ _)

theorem listMoves_mixerGranted (s : State) (m g t) : ListMoves s (s.mixerGranted m g t) := by
  unfold State.mixerGranted
  simp only
  split
  · exact listMoves_offer s _ _
  · next slot _ =>
    have entered := listMoves_enterMixing s slot m g t
    split
    · split
      · exact entered.offer.modOrder.trans (listMoves_claimMixer _)
      · exact entered.offer.trans (listMoves_finish _ _ _ _)
    · split
      · exact entered.before (State.startTransfer_blu _ _)
      · exact entered.offer.trans (listMoves_finish _ _ _ _)

theorem listMoves_bookTell (s : State) (t) : ListMoves s (s.bookTell t) := by
  unfold State.bookTell
  repeat' split
  all_goals
    first
    | exact .refl s
    | exact listMoves_rushTell s _
    | exact listMoves_offer s _ _
    | exact listMoves_finish s _ _ _

@[simp] theorem State.baseDone_blu (s : State) (d : Nat) : (s.baseDone d).blu = s.blu := by
  unfold State.baseDone; split <;> rfl

theorem listMoves_baseFaulted (s : State) (d f) : ListMoves s (s.baseFaulted d f) := by
  unfold State.baseFaulted
  split
  · exact (ListMoves.refl s).modOrder.trans (listMoves_reject _ _ _)
  · exact .refl s

@[simp] theorem State.lidHome_blu (s : State) : s.lidHome.blu = s.blu := by
  unfold State.lidHome; split <;> rfl

theorem listMoves_lidFaulted (s : State) : ListMoves s s.lidFaulted := by
  unfold State.lidFaulted
  split
  · exact listMoves_reject s _ _
  · exact .refl s

@[simp] theorem State.outfeedReached_blu (s : State) : s.outfeedReached.blu = s.blu := by
  unfold State.outfeedReached
  simp only
  split
  · rfl
  · split
    · exact State.startTransfer_blu _ _
    · rfl

@[simp] theorem State.mixerReached_blu (s : State) (m : Nat) : (s.mixerReached m).blu = s.blu := by
  unfold State.mixerReached
  split
  · rfl
  · exact State.raiseRun_blu _ _ _

theorem listMoves_endMix (s : State) (slot m o oc r) : ListMoves s (s.endMix slot m o oc r) :=
  (listMoves_offer s _ _).trans (listMoves_finish _ _ _ _)

theorem listMoves_transferConfirmed (s : State) (p) : ListMoves s (s.transferConfirmed p) := by
  unfold State.transferConfirmed
  split
  · exact .same s.outfeedReached_blu
  · split
    · exact listMoves_finish s _ _ _
    · exact .refl s
  · exact .same (s.mixerReached_blu _)

theorem listMoves_transferFailed (s : State) (p) : ListMoves s (s.transferFailed p) := by
  unfold State.transferFailed
  repeat' split
  all_goals
    first
    | exact .refl s
    | exact listMoves_reject s _ _
    | exact listMoves_finish s _ _ _
    | exact listMoves_endMix s _ _ _ _ _

theorem listMoves_mixerDone (s : State) (m) : ListMoves s (s.mixerDone m) := by
  unfold State.mixerDone
  split
  · exact listMoves_endMix s _ _ _ _ _
  · exact .refl s

theorem listMoves_outfeedEmptied (s : State) : ListMoves s s.outfeedEmptied := by
  unfold State.outfeedEmptied
  simp only
  split
  · exact .refl s
  · refine .trans ?_ (listMoves_finish _ _ _ _)
    split
    · exact .refl s
    · split
      · exact listMoves_strike s _
      · exact listMoves_offer s _ _

@[simp] theorem State.stopFill_blu (s : State) (slot : Nat) : (s.stopFill slot).blu = s.blu := by
  unfold State.stopFill; split <;> rfl

theorem listMoves_cancelOrder (s t : State) (slot) (h : s.cancelOrder slot = some t) : ListMoves s t := by
  unfold State.cancelOrder at h
  split at h <;> cases h
  · exact listMoves_finish s _ _ _
  · exact (listMoves_finish _ _ _ _).after
  · exact (listMoves_reject _ _ _).after (s.stopFill_blu slot)
  · exact listMoves_stopOrder s _ _

@[simp] theorem State.loseRequest_blu (s : State) : s.loseRequest.blu = s.blu := by
  unfold State.loseRequest; split <;> rfl

theorem listMoves_leaveOrder (s : State) (slot) : ListMoves s (s.leaveOrder slot) := by
  unfold State.leaveOrder
  split
  · exact .refl s
  · split
    · exact (ListMoves.refl s).modOrder
    · exact (ListMoves.refl s).modOrder
    · refine .trans ?_ (listMoves_finish _ _ _ _)
      repeat' split
      · exact .same (s.dropRun_blu _)
      all_goals exact .refl s
    · exact .refl s

theorem listMoves_leaveBook (s : State) : ListMoves s s.leaveBook :=
  (ListMoves.foldl _ listMoves_leaveOrder _ _).after s.loseRequest_blu

end Sys2Proof.Machine
end

section
/-! SUPPORT. What a take, a void and the station state logic make of the outgoing list. -/

namespace Sys2Proof.Machine

/-! ### Hold timers and the effects of a take -/

theorem listMoves_endHolding (s : State) (key h g) : ListMoves s (s.endHolding key h g) :=
  (ListMoves.refl s).modTimer.strike

theorem listMoves_lineGranted (s : State) (line h) : ListMoves s (s.lineGranted line h) := by
  unfold State.lineGranted
  simp only
  split
  · split
    · exact (listMoves_grantTell _ _ _).after
    · exact (listMoves_offer _ _ _).after
  · exact .same rfl

theorem listMoves_applyEffect (s : State) (e) : ListMoves s (s.applyEffect e) := by
  unfold State.applyEffect
  split
  · exact listMoves_endHolding s _ _ _
  · exact listMoves_lineGranted s _ _
  · exact listMoves_endHolding s _ _ _
  · simp only
    split
    · exact (listMoves_mixerGranted _ _ _ _).after
    · exact .same rfl
  · split
    · exact listMoves_lineTell s _ _
    · exact .refl s
  · exact listMoves_bookTell s _

theorem listMoves_applyEffects (s : State) (es) : ListMoves s (s.applyEffects es) := .foldl _ listMoves_applyEffect es s

@[simp] theorem watchLines_blu (n : Nat) (l : List (Option LineRec)) (s : State) : (watchLines s n l).blu = s.blu := by
  induction l generalizing n s with
  | nil => rfl
  | cons r rs ih => unfold watchLines; split <;> exact ih _ _

@[simp] theorem watchMixers_blu (n : Nat) (l : List MixRec) (s : State) : (watchMixers s n l).blu = s.blu := by
  induction l generalizing n s with
  | nil => rfl
  | cons r rs ih => unfold watchMixers; split <;> exact ih _ _

@[simp] theorem State.watchAll_blu (s : State) : s.watchAll.blu = s.blu := by
  unfold State.watchAll
  split
  · rw [watchMixers_blu, watchLines_blu]
  · rw [watchLines_blu]

/-! ### The image cursor -/

theorem listMoves_setJoiners (s : State) (js) : ListMoves s (s.setJoiners js) := .beside rfl rfl

theorem listMoves_cursorOffer (s : State) (x) : ListMoves s (s.cursorOffer x) := by
  unfold State.cursorOffer
  split
  · exact .refl s
  · exact ListMoves.offer (.beside rfl rfl)

theorem listMoves_cursorBegin (s : State) : ListMoves s s.cursorBegin := by
  unfold State.cursorBegin
  split
  · exact .beside rfl rfl
  · exact listMoves_cursorOffer s _

theorem listMoves_cursorDrop (s : State) (st) : ListMoves s (s.cursorDrop st) := by
  unfold State.cursorDrop
  simp only
  split
  · exact ((listMoves_strike s _).trans (listMoves_setJoiners _ _)).trans (listMoves_cursorBegin _)
  · exact listMoves_setJoiners s _

theorem listMoves_cursorAdd (s : State) (st a) : ListMoves s (s.cursorAdd st a) := by
  unfold State.cursorAdd
  simp only
  split
  · split
    · exact (listMoves_setJoiners s _).strike.trans (listMoves_cursorBegin _)
    · exact listMoves_setJoiners s _
  · split
    · exact (listMoves_setJoiners s _).trans (listMoves_cursorBegin _)
    · exact listMoves_setJoiners s _

theorem listMoves_cursorPrune (s : State) : ListMoves s s.cursorPrune := by
  unfold State.cursorPrune
  refine .foldl _ (fun t j => ?_) _ s
  split
  · exact listMoves_cursorDrop t _
  · exact .refl t

theorem listMoves_cursorAdvance (s : State) : ListMoves s s.cursorAdvance := by
  unfold State.cursorAdvance
  split
  · exact listMoves_cursorOffer s _
  · exact .refl s

theorem listMoves_giveImage (s : State) (j g a) : ListMoves s (s.giveImage j g a) := by
  unfold State.giveImage
  split
  · exact listMoves_cursorAdd s _ _
  · exact listMoves_cursorDrop s _

/-! ### Leaving the bay -/

/-- R20: the outgoing list as the station leaves the bay: emptied, and then what the blocks make of it. -/
theorem listMoves_leaveBay (s : State) (listen) : ListMoves s (s.leaveBay listen) := by
  have cleared : ListMoves s (State.stopTimers { s with bt := Table.empty, blu := s.blu.cleared listen }) :=
    .move (.clear rfl rfl)
  exact (cleared.trans (listMoves_leaveBook _)).trans (.foldl _ listMoves_leaveChannel _ _)

theorem listMoves_detach (s : State) (r) : ListMoves s (s.detach r) := (listMoves_leaveBay s _).modSsl.enter

theorem listMoves_refuse (s : State) : ListMoves s s.refuse :=
  ListMoves.enter (.modSsl (.move (.clear rfl rfl)))

theorem listMoves_ownLeave (s : State) : ListMoves s s.ownLeave := (listMoves_leaveBay s _).modSsl.enter

/-! ### Forming and joining -/

theorem listMoves_setLateMark (s : State) : ListMoves s s.setLateMark := ListMoves.strike (.same rfl)

theorem listMoves_lateJoinSelf (s : State) : ListMoves s s.lateJoinSelf := ListMoves.enter (.same rfl)

theorem listMoves_joinForming (s : State) (a b c) : ListMoves s (s.joinForming a b c) := by
  unfold State.joinForming
  repeat' split
  · exact listMoves_lateJoinSelf s
  all_goals exact .same rfl

theorem listMoves_formedForming (s : State) : ListMoves s s.formedForming := by
  have struck : ListMoves s ((s.modSsl fun l => { l with formationWindow := none }).strike isOwnFormed) :=
    (ListMoves.refl s).modSsl.strike
  unfold State.formedForming
  simp only
  split
  · exact struck
  · split
    · exact struck.modBt
    · split
      · split
        · exact ListMoves.enter (struck.before rfl)
        · split
          · exact (struck.before rfl).trans (listMoves_refuse _)
          · exact struck.trans (listMoves_setLateMark _)
      · exact struck.before rfl

theorem listMoves_imageHere (s : State) (a b) : ListMoves s (s.imageHere a b) := ListMoves.strike (.same rfl)

theorem listMoves_imageForming (s : State) (a b) : ListMoves s (s.imageForming a b) :=
  ((ListMoves.refl s).modSsl.strike.trans (listMoves_lateJoinSelf _)).trans (listMoves_imageHere _ _ _)

theorem listMoves_otherForming (s : State) (a n) : ListMoves s (s.otherForming a n) := by
  unfold State.otherForming
  repeat' split
  all_goals
    first
    | exact .refl s
    | exact listMoves_imageForming s _ _
    | exact listMoves_refuse s
    | exact listMoves_setLateMark s

theorem listMoves_takeForming (s : State) (a n) : ListMoves s (s.takeForming a n) := by
  unfold State.takeForming
  split
  · exact listMoves_joinForming s _ _ _
  · exact listMoves_formedForming s
  · exact listMoves_otherForming s _ _

@[simp] theorem State.restartImageTimer_blu (s : State) (j : Nat) : (s.restartImageTimer j).blu = s.blu := by
  unfold State.restartImageTimer; split <;> rfl

theorem listMoves_accepted (s : State) (c) : ListMoves s (s.accepted c) := by
  unfold State.accepted
  refine .before ?_ (State.watchAll_blu _)
  exact ListMoves.enter (.strike (.same rfl))

theorem listMoves_imageJoining (s : State) (a j img) : ListMoves s (s.imageJoining a j img) := by
  unfold State.imageJoining
  split
  · exact .same (s.restartImageTimer_blu j)
  · split
    · exact listMoves_imageHere s _ _
    · exact .same (State.restartImageTimer_blu _ j)

theorem listMoves_imageEndJoining (s : State) (a j r c) : ListMoves s (s.imageEndJoining a j r c) := by
  unfold State.imageEndJoining
  repeat' split
  all_goals
    first
    | exact listMoves_accepted s _
    | exact listMoves_refuse s
    | exact .same (State.restartImageTimer_blu _ j)

theorem listMoves_takeJoining (s : State) (a n) : ListMoves s (s.takeJoining a n) := by
  unfold State.takeJoining
  repeat' split
  all_goals
    first
    | exact .same rfl
    | exact listMoves_lateJoinSelf s
    | exact listMoves_imageJoining s _ _ _
    | exact listMoves_imageEndJoining s _ _ _ _

/-! ### A take -/

theorem listMoves_takeEffects (s : State) (t es) (cursor : State → State) (h : ∀ u, ListMoves u (cursor u)) :
    ListMoves s (s.takeEffects t es cursor) := by
  have ended : ListMoves s (State.applyEffects { s with bt := t } (es.filter Effect.ends)) := (listMoves_applyEffects _ _).after
  exact ((ended.trans (listMoves_cursorPrune _)).trans (h _)).trans (listMoves_applyEffects _ _)

theorem listMoves_applyTake (s : State) (a n) : ListMoves s (s.applyTake a n) := by
  unfold State.applyTake
  split
  · exact listMoves_takeEffects s _ _ _ fun u => listMoves_giveImage u _ _ _
  · unfold State.formedAttached
    split
    · exact listMoves_takeEffects s _ _ _ .refl
    · exact listMoves_takeEffects s _ _ _ fun u => listMoves_giveImage u _ _ _
  · refine listMoves_takeEffects s _ _ _ fun u => ?_
    split
    · exact listMoves_cursorAdvance u
    · exact .refl u
  · refine listMoves_takeEffects s _ _ _ fun u => ?_
    split
    · exact listMoves_cursorDrop u _
    · exact .refl u
  · exact listMoves_takeEffects s _ _ _ .refl

theorem listMoves_afterTake (s : State) : ListMoves s s.afterTake := by
  unfold State.afterTake
  simp only
  split
  · exact (ListMoves.refl s).modBt
  · exact (ListMoves.refl s).modBt.trans (listMoves_detach _ _)

theorem listMoves_takeAttached (s : State) (a n) : ListMoves s (s.takeAttached a n) := by
  unfold State.takeAttached
  repeat' split
  · exact listMoves_detach s _
  · exact listMoves_ownLeave s
  · exact (listMoves_leaveBay s _).trans (listMoves_lateJoinSelf _)
  · exact (listMoves_applyTake s _ _).trans (listMoves_afterTake _)

theorem listMoves_deliver (s : State) (a n) : ListMoves s (s.deliver a n) := by
  unfold State.deliver
  split
  · exact listMoves_takeForming s _ _
  · exact listMoves_takeJoining s _ _
  · exact listMoves_takeAttached s _ _
  all_goals exact .refl s

/-- R17 (b): the report of the channel whose struck CLAIM has left the list leaves the list as it is. -/
@[simp] theorem State.struckTell_blu (s : State) (e : Entry) : (s.struckTell e).blu = s.blu := by
  unfold State.struckTell
  repeat' split
  all_goals rfl

theorem listMoves_backToWaiting (s : State) (refill) : ListMoves s (s.backToWaiting refill) := by
  unfold State.backToWaiting
  split
  · exact .refl s
  · exact .move (by rw [State.struckTell_blu]; exact .backToWaiting refill)

theorem listMoves_bookTake (s : State) (a n) : ListMoves s (s.bookTake a n) := by
  unfold State.bookTake
  split
  · exact .move (.ownTaken n)
  · exact (listMoves_backToWaiting s false).trans (.beside rfl rfl)

/-- What a take makes of the outgoing list are moves of the list. -/
theorem listMoves_take (s : State) (a n) : ListMoves s (s.take a n) := by
  unfold State.take
  split
  · exact ((listMoves_bookTake s _ _).trans (listMoves_deliver _ _ _)).trans (listMoves_settle _)
  · exact .refl s

/-! ### The line short of a take -/

theorem listMoves_ownVoid (s : State) : ListMoves s s.ownVoid := by
  have back : ListMoves s ((s.backToWaiting true).modBlu fun b => { b with voids := b.voids + 1 }) :=
    (listMoves_backToWaiting s true).trans (.beside rfl rfl)
  unfold State.ownVoid
  simp only
  split
  · exact back.trans (listMoves_detach _ _)
  · exact back

theorem listMoves_otherVoid (s : State) (heard) : ListMoves s (s.otherVoid heard) := by
  have back := listMoves_backToWaiting s false
  have objected : ListMoves s ((s.backToWaiting false).modBlu fun b => { b with objections := b.objections + 1 }) :=
    back.trans (.beside rfl rfl)
  unfold State.otherVoid
  simp only
  split
  · split
    · exact objected.trans (listMoves_detach _ _)
    · exact objected
  · exact back

theorem listMoves_void (s : State) (heard) : ListMoves s (s.void heard) := by
  unfold State.void
  split
  · refine .trans ?_ (listMoves_settle _)
    split
    · exact listMoves_ownVoid s
    · exact listMoves_otherVoid s heard
  · exact .refl s

/-- R15: a payload filled in leaves the class of the notice and what it claims. -/
theorem fillNotice_standing (s : State) (e : Entry) :
    noticeClass (s.fillNotice e) = noticeClass e.notice ∧ claimOf (s.fillNotice e) = claimOf e.notice := by
  unfold State.fillNotice
  split
  · next h => rw [h]; exact ⟨rfl, rfl⟩
  · next h => rw [h]; exact ⟨rfl, rfl⟩
  · next h _ =>
    split
    · next hl => rw [h]; simp only [State.claimNotice, hl.2]; exact ⟨rfl, rfl⟩
    · exact ⟨rfl, rfl⟩
  · next h =>
    split
    · rw [h]; cases s.awaitsMixer <;> exact ⟨rfl, rfl⟩
    · exact ⟨rfl, rfl⟩
  · exact ⟨rfl, rfl⟩

theorem transmitHead_standings (s : State) : s.transmitHead.map Entry.standing = s.blu.list.map Entry.standing := by
  unfold State.transmitHead
  split
  · next h => rw [h]
  · next e rest h =>
    obtain ⟨class_eq, claim_eq⟩ := fillNotice_standing s e
    rw [h, List.map_cons, List.map_cons]
    simp only [Entry.standing, Entry.class_, class_eq, claim_eq]

theorem listMoves_beginNotice (s : State) (rival) : ListMoves s (s.beginNotice rival) := by
  unfold State.beginNotice
  split
  · split
    · exact .refl s
    · exact .move (.restand (transmitHead_standings s) rfl)
  · exact .refl s

end Sys2Proof.Machine
end

section
/-! The law of the outgoing list through every command. -/

namespace Sys2Proof.Machine

/-! ### Timers and the plant -/

theorem listMoves_imageTimerExpiry (s : State) : ListMoves s s.imageTimerExpiry := by
  unfold State.imageTimerExpiry
  split
  · split
    · exact ListMoves.enter (.modSsl (.strike (.same rfl)))
    · exact (ListMoves.refl s).modSsl.offer
  · exact .refl s

theorem listMoves_rejoinTimerExpiry (s : State) : ListMoves s s.rejoinTimerExpiry := by
  unfold State.rejoinTimerExpiry
  split
  · split
    · exact ListMoves.enter (.beside rfl rfl)
    · exact (ListMoves.refl s).modSsl.enter.offer
  · exact .refl s

theorem listMoves_firstListenExpiry (s : State) : ListMoves s s.firstListenExpiry := by
  unfold State.firstListenExpiry
  split
  · exact (ListMoves.refl s).modSsl.offer
  · exact .refl s

theorem listMoves_formationWindowExpiry (s : State) : ListMoves s s.formationWindowExpiry := by
  unfold State.formationWindowExpiry
  simp only
  split
  · split
    · exact (ListMoves.refl s).modSsl.offer
    · exact (ListMoves.refl s).modSsl
  · exact .refl s

theorem listMoves_ownLineTimerExpiry (s : State) (line) : ListMoves s (s.ownLineTimerExpiry line) := by
  unfold State.ownLineTimerExpiry
  split
  · split
    · exact ((listMoves_ownLimit _ _).trans (listMoves_settle _)).after
    · exact .same rfl
  · exact .refl s

theorem listMoves_ownMixerTimerExpiry (s : State) (m) : ListMoves s (s.ownMixerTimerExpiry m) := by
  have dropped : ∀ (u : State) (slot : Nat), (u.dropRunOf slot m).blu = u.blu := fun u slot => by
    unfold State.dropRunOf
    split
    · exact u.dropRun_blu m
    · rfl
  unfold State.ownMixerTimerExpiry
  split
  · split
    · exact ((listMoves_endMix _ _ _ _ _ _).trans (listMoves_settle _)).after (dropped _ _)
    · exact .same rfl
  · exact .refl s

theorem listMoves_watchTimerExpiry (s : State) (key) : ListMoves s (s.watchTimerExpiry key) := by
  unfold State.watchTimerExpiry
  simp only
  repeat' split
  · exact (listMoves_offer _ _ _).after
  all_goals exact .same rfl

theorem listMoves_capture (s : State) (k) : ListMoves s (s.capture k) := by
  unfold State.capture
  split
  · exact (listMoves_captureShot s k).trans (listMoves_settle _)
  · exact .refl s

theorem listMoves_settleExpiry (s : State) (k) : ListMoves s (s.settleExpiry k) := by
  unfold State.settleExpiry
  split
  · exact .same (s.periodStart_blu k)
  · exact .refl s

theorem listMoves_seatingTimerExpiry (s : State) (code) : ListMoves s (s.seatingTimerExpiry code) := by
  unfold State.seatingTimerExpiry
  simp only
  split
  · refine .trans ?_ (listMoves_settle _)
    split
    · exact .same (State.judgeTin_blu _ _ _)
    · exact .same rfl
  · exact .refl s

theorem listMoves_tinRemoved (s : State) : ListMoves s s.tinRemoved := by
  have cancelled : ∀ slot, ListMoves s ((s.cancelOrder slot).getD s) := fun slot => by
    cases h : s.cancelOrder slot with
    | none => exact .refl s
    | some t => exact listMoves_cancelOrder s t slot h
  unfold State.tinRemoved
  repeat' split
  all_goals first | exact .same rfl | exact cancelled _

theorem listMoves_tinPresentFall (s : State) : ListMoves s s.tinPresentFall := by
  unfold State.tinPresentFall
  simp only
  repeat' split
  · exact .refl s
  · exact ((listMoves_tinRemoved _).trans (listMoves_settle _)).after
  · exact .same rfl

theorem listMoves_fillLimitExpiry (s : State) : ListMoves s s.fillLimitExpiry := by
  unfold State.fillLimitExpiry
  split
  · exact ((listMoves_baseFaulted _ _ _).trans (listMoves_settle _)).after
  · exact .refl s

theorem listMoves_runOnExpiry (s : State) : ListMoves s s.runOnExpiry := by
  unfold State.runOnExpiry
  split
  · refine .trans ?_ (listMoves_settle _)
    split
    · exact (listMoves_baseFaulted _ _ _).after
    · exact .same (State.baseDone_blu _ _)
  · exact .refl s

theorem listMoves_pressTimerExpiry (s : State) : ListMoves s s.pressTimerExpiry := by
  unfold State.pressTimerExpiry
  repeat' split
  · exact (listMoves_settle _).after (State.lidHome_blu _)
  · exact .same rfl
  · exact ((listMoves_lidFaulted _).trans (listMoves_settle _)).after
  · exact .refl s

theorem listMoves_pusherPulseExpiry (s : State) (p) : ListMoves s (s.pusherPulseExpiry p) := by
  unfold State.pusherPulseExpiry
  repeat' split
  · exact ((listMoves_transferConfirmed _ _).trans (listMoves_settle _)).after (s.modPusher_blu p _)
  · exact .same (s.modPusher_blu p _)
  · exact .refl s

theorem listMoves_confirmTimerExpiry (s : State) (p) : ListMoves s (s.confirmTimerExpiry p) := by
  unfold State.confirmTimerExpiry
  split
  · exact ((listMoves_transferFailed _ _).trans (listMoves_settle _)).after (s.modPusher_blu p _)
  · exact .refl s

theorem listMoves_confirmBySensor (s : State) (p) : ListMoves s (s.confirmBySensor p) := by
  unfold State.confirmBySensor
  split
  · exact (listMoves_transferConfirmed _ _).after (s.modPusher_blu p _)
  · exact .refl s

theorem listMoves_outfeedSensorChange (s : State) (on) : ListMoves s (s.outfeedSensorChange on) := by
  unfold State.outfeedSensorChange
  simp only
  repeat' split
  · exact .refl s
  · exact ((listMoves_confirmBySensor _ _).trans (listMoves_settle _)).after
  · exact (((listMoves_confirmBySensor _ _).trans (listMoves_outfeedEmptied _)).trans (listMoves_settle _)).after

theorem listMoves_occupiedInputChange (s : State) (m on) : ListMoves s (s.occupiedInputChange m on) := by
  unfold State.occupiedInputChange
  split
  · exact .refl s
  · exact ((listMoves_confirmBySensor _ _).trans (listMoves_settle _)).after

theorem listMoves_chutePulseEnded (s : State) : ListMoves s s.chutePulseEnded := by
  unfold State.chutePulseEnded
  simp only
  split
  · refine .trans ?_ (listMoves_settle _)
    split
    · exact (listMoves_finish _ _ _ _).after
    · exact .same rfl
  · exact .refl s

theorem listMoves_doneInputRise (s : State) (m) : ListMoves s (s.doneInputRise m) := by
  unfold State.doneInputRise
  repeat' split
  · exact .refl s
  · exact ((listMoves_mixerDone _ _).trans (listMoves_settle _)).after
  · exact .same rfl

/-! ### The terminal -/

/-- R168: a command of the terminal makes of the list what its action makes of it. -/
theorem listMoves_command {s : State} (kind : Nat) {act : State → Answer} (h : ListMoves s (act s).state) :
    ListMoves s (s.command kind act) := by
  unfold State.command
  split
  · exact .same rfl
  · exact h.modTlu

theorem listMoves_queueTerminal {s : State} {n : Notice} {s' : Blu → State} (free : claimOf n = none)
    (h : ∀ b, (s' b).blu = b) : ListMoves s (s.queueTerminal n s').state := by
  unfold State.queueTerminal
  split
  · next b hb =>
    refine .move ?_
    show s.blu.Move (s' b).blu
    rw [h b]
    exact .offerTerminal free hb
  · exact .refl s

theorem listMoves_askBay {s : State} {equipped levelOk : Bool} {n : Notice} (free : claimOf n = none) :
    ListMoves s (s.askBay equipped levelOk n).state := by
  unfold State.askBay
  repeat' split
  · exact .refl s
  · exact .refl s
  · exact .refl s
  · exact listMoves_queueTerminal free fun _ => rfl

theorem listMoves_setupAnswer (s : State) (block) : ListMoves s (s.setupAnswer block).state := by
  unfold State.setupAnswer
  repeat' split
  · exact .refl s
  · exact ListMoves.enter (.beside rfl rfl)
  all_goals exact .refl s

theorem listMoves_startAnswer (s : State) : ListMoves s s.startAnswer.state := by
  unfold State.startAnswer
  split
  · exact ListMoves.enter (.modSsl (.beside rfl rfl))
  · exact .refl s

theorem listMoves_leaveAnswer (s : State) : ListMoves s s.leaveAnswer.state := by
  unfold State.leaveAnswer
  split
  · exact listMoves_queueTerminal rfl fun _ => rfl
  · exact .refl s

theorem listMoves_orderAnswer (s : State) (f) : ListMoves s (s.orderAnswer f).state := by
  unfold State.orderAnswer
  split
  · exact .refl s
  · exact (listMoves_settle _).after

theorem listMoves_cancelAnswer (s : State) (tag) : ListMoves s (s.cancelAnswer tag).state := by
  unfold State.cancelAnswer
  repeat' split
  · exact .refl s
  · exact .refl s
  · next h => exact (listMoves_cancelOrder s _ _ h).trans (listMoves_settle _)
  · exact .refl s

theorem listMoves_priorityAnswer (s : State) (tag level) : ListMoves s (s.priorityAnswer tag level).state := by
  unfold State.priorityAnswer
  repeat' split
  all_goals first | exact .refl s | exact (listMoves_settle _).after

theorem listMoves_queryOrderAnswer (s : State) (tag) : ListMoves s (s.queryOrderAnswer tag).state := by
  unfold State.queryOrderAnswer
  repeat' split
  all_goals exact .refl s

theorem listMoves_queryLineAnswer (s : State) (line) : ListMoves s (s.queryLineAnswer line).state := by
  unfold State.queryLineAnswer
  repeat' split
  all_goals exact .refl s

theorem listMoves_readTicketAnswer (s : State) : ListMoves s s.readTicketAnswer.state := by
  unfold State.readTicketAnswer
  split
  · exact .refl s
  · exact (listMoves_settle _).after

/-! ### Every command -/

/-- A choice between a state in which the list stands and the state as it is. -/
theorem listMoves_ite {c : Prop} [Decidable c] {s t : State} (h : t.blu = s.blu) : ListMoves s (if c then t else s) := by
  split
  · exact .same h
  · exact .refl s

/-- Whatever command comes, what becomes of the outgoing list are moves of the list. -/
theorem listMoves_exec (c : Instr) (s : State) : ∃ t, exec c s = .next t ∧ ListMoves s t := by
  cases c with
  | hardwareReset => exact ⟨_, rfl, .move (.clear rfl rfl)⟩
  | idleWait =>
    refine ⟨_, rfl, ?_⟩
    split
    · exact .beside rfl rfl
    · exact .refl s
  | beginNotice rival => exact ⟨_, rfl, listMoves_beginNotice s rival⟩
  | turnSpentIdleClear =>
    refine ⟨_, rfl, ?_⟩
    split
    · exact .beside rfl rfl
    · exact .refl s
  | void heard => exact ⟨_, rfl, listMoves_void s heard⟩
  | joinTaken | formedTaken | imageTaken | imageEndTaken | leaveTaken | claimTaken | withdrawTaken | releaseTaken | refillTaken
  | lineOutTaken | lineReturnTaken | rushTakeTaken | rushDropTaken | mixClaimTaken | mixWithdrawTaken | mixReleaseTaken
  | mixerReturnTaken | revokeTaken => exact ⟨_, rfl, listMoves_take s _ _⟩
  | setup block => exact ⟨_, rfl, listMoves_command 1 (listMoves_setupAnswer s block)⟩
  | start => exact ⟨_, rfl, listMoves_command 2 (listMoves_startAnswer s)⟩
  | leave => exact ⟨_, rfl, listMoves_command 3 (listMoves_leaveAnswer s)⟩
  | order fields => exact ⟨_, rfl, listMoves_command 4 (listMoves_orderAnswer s fields)⟩
  | cancel tag => exact ⟨_, rfl, listMoves_command 5 (listMoves_cancelAnswer s tag)⟩
  | priority tag level => exact ⟨_, rfl, listMoves_command 6 (listMoves_priorityAnswer s tag level)⟩
  | refill line level => exact ⟨_, rfl, listMoves_command 7 (listMoves_askBay rfl)⟩
  | lineReturn line level => exact ⟨_, rfl, listMoves_command 8 (listMoves_askBay rfl)⟩
  | lineOut line => exact ⟨_, rfl, listMoves_command 9 (listMoves_askBay rfl)⟩
  | mixerReturn mixer => exact ⟨_, rfl, listMoves_command 10 (listMoves_askBay rfl)⟩
  | queryStation => exact ⟨_, rfl, listMoves_command 11 (.same rfl)⟩
  | queryOrder tag => exact ⟨_, rfl, listMoves_command 12 (listMoves_queryOrderAnswer s tag)⟩
  | queryLine line => exact ⟨_, rfl, listMoves_command 13 (listMoves_queryLineAnswer s line)⟩
  | queryMixers => exact ⟨_, rfl, listMoves_command 14 (.same rfl)⟩
  | readTicket => exact ⟨_, rfl, listMoves_command 15 (listMoves_readTicketAnswer s)⟩
  | unknownCommandKind kind payload =>
    refine ⟨_, rfl, ?_⟩
    split
    · exact .refl s
    · exact listMoves_command kind (.same rfl)
  | commandWhileSending => exact ⟨_, rfl, listMoves_ite rfl⟩
  | replySent => exact ⟨_, rfl, listMoves_ite rfl⟩
  | frameDropped => exact ⟨_, rfl, .same rfl⟩
  | interByteTimeout => exact ⟨_, rfl, .same rfl⟩
  | firstListenExpiry => exact ⟨_, rfl, listMoves_firstListenExpiry s⟩
  | formationWindowExpiry => exact ⟨_, rfl, listMoves_formationWindowExpiry s⟩
  | imageTimerExpiry => exact ⟨_, rfl, listMoves_imageTimerExpiry s⟩
  | rejoinTimerExpiry => exact ⟨_, rfl, listMoves_rejoinTimerExpiry s⟩
  | ownLineTimerExpiry line => exact ⟨_, rfl, listMoves_ownLineTimerExpiry s line⟩
  | ownMixerTimerExpiry mixer => exact ⟨_, rfl, listMoves_ownMixerTimerExpiry s mixer⟩
  | watchTimerExpiry subject => exact ⟨_, rfl, listMoves_watchTimerExpiry s subject⟩
  | settleExpiry pair => exact ⟨_, rfl, listMoves_settleExpiry s pair⟩
  | valveExpiry pair => exact ⟨_, rfl, listMoves_ite rfl⟩
  | capture pair => exact ⟨_, rfl, listMoves_capture s pair⟩
  | tapMeterPulse line => exact ⟨_, rfl, .same rfl⟩
  | tinPresentRise =>
    refine ⟨_, rfl, ?_⟩
    unfold State.tinPresentRise
    split <;> exact .same rfl
  | seatingTimerExpiry code => exact ⟨_, rfl, listMoves_seatingTimerExpiry s code⟩
  | tinPresentFall => exact ⟨_, rfl, listMoves_tinPresentFall s⟩
  | baseMeterPulse => exact ⟨_, rfl, .same rfl⟩
  | basePeriodExpiry => exact ⟨_, rfl, listMoves_ite rfl⟩
  | dutyTimerExpiry => exact ⟨_, rfl, listMoves_ite rfl⟩
  | fillLimitExpiry => exact ⟨_, rfl, listMoves_fillLimitExpiry s⟩
  | runOnExpiry => exact ⟨_, rfl, listMoves_runOnExpiry s⟩
  | seatTimerExpiry => exact ⟨_, rfl, listMoves_ite rfl⟩
  | lidHomeOn => exact ⟨_, rfl, listMoves_ite rfl⟩
  | pressTimerExpiry => exact ⟨_, rfl, listMoves_pressTimerExpiry s⟩
  | pusherPulseExpiry pusher => exact ⟨_, rfl, listMoves_pusherPulseExpiry s pusher⟩
  | confirmTimerExpiry pusher => exact ⟨_, rfl, listMoves_confirmTimerExpiry s pusher⟩
  | outfeedSensorChange on => exact ⟨_, rfl, listMoves_outfeedSensorChange s on⟩
  | occupiedInputChange mixer on => exact ⟨_, rfl, listMoves_occupiedInputChange s mixer on⟩
  | chutePulseEnded => exact ⟨_, rfl, listMoves_chutePulseEnded s⟩
  | runTimerExpiry mixer => exact ⟨_, rfl, listMoves_ite rfl⟩
  | doneInputRise mixer => exact ⟨_, rfl, listMoves_doneInputRise s mixer⟩
  | doneInputFall mixer =>
    refine ⟨_, rfl, ?_⟩
    unfold State.doneInputFall
    repeat' split
    all_goals exact .same rfl

theorem listMoves_step {s t : State} (h : step s = .next t) : ListMoves s t := by
  unfold step at h
  split at h
  · cases h; exact .refl s
  · next c rest _ =>
    obtain ⟨u, hu, m⟩ := listMoves_exec c { s with pending := rest }
    rw [hu] at h
    cases h
    exact m.after

end Sys2Proof.Machine

namespace Sys2Proof

open Machine

/-- Settles O54: every step makes moves of the list, and each move keeps its law. -/
theorem outgoingListLawKept : Obligations.OutgoingListLawKept := fun _ _ lawful stepped =>
  (listMoves_step stepped).lawful lawful

end Sys2Proof
end

section
/-! The offers, the strikes and the held offers (R15 to R17). -/

namespace Sys2Proof.Machine

/-! ### What an offer comes to -/

theorem offer_of_clash {b : Blu} {n : Notice} (o : Owner) (h : (b.list ++ b.held).any (clashes n) = true) :
    b.offer n o = (b, .refused) := by
  unfold Blu.offer
  rw [if_pos h]

theorem offer_of_full {b : Blu} {n : Notice} (o : Owner) (h : (b.list ++ b.held).any (clashes n) = false)
    (full : 16 ≤ b.list.length) : b.offer n o = ({ b with held := b.held ++ [Entry.fresh n o false] }, .held) := by
  unfold Blu.offer
  rw [if_neg (by simp [h]), if_pos full]

theorem offer_of_room {b : Blu} {n : Notice} (o : Owner) (h : (b.list ++ b.held).any (clashes n) = false)
    (room : b.list.length < 16) : b.offer n o = ({ b with list := insertEntry (Entry.fresh n o false) b.list }, .admitted) := by
  unfold Blu.offer
  rw [if_neg (by simp [h]), if_neg (Nat.not_le.2 room)]

/-- R16 (a): what it is for a notice and an entry to clash. -/
theorem clashes_iff (n : Notice) (e : Entry) : clashes n e = true ↔
    (∃ line a d v r a' d' v' r', n = .claim line a d v r ∧ e.notice = .claim line a' d' v' r')
      ∨ ∃ time v r time' v' r', n = .mixClaim time v r ∧ e.notice = .mixClaim time' v' r' := by
  obtain ⟨m, _⟩ := e
  cases n with
  | claim line =>
    cases m with
    | claim line' => simpa [clashes] using eq_comm
    | _ => simp [clashes]
  | mixClaim => cases m <;> simp [clashes]
  | _ => simp [clashes]

/-! ### One entry under a strike, and on its way back -/

section
variable {p : Entry → Bool} {e : Entry} {refill : Bool}

theorem strikeEntry_waiting (hp : p e = true) (ht : e.transmitting = false) : strikeEntry p e = none := by
  simp [strikeEntry, hp, ht]

theorem strikeEntry_transmitting (hp : p e = true) (ht : e.transmitting = true) :
    strikeEntry p e = some { e with strikeHeld := true } := by
  simp [strikeEntry, hp, ht]

theorem strikeEntry_spared (hp : p e = false) : strikeEntry p e = some e := by
  simp [strikeEntry, hp]

theorem backEntry_struck (ht : e.transmitting = true) (hs : e.strikeHeld = true) : backEntry refill e = none := by
  simp [backEntry, ht, hs]

theorem backEntry_transmitting (ht : e.transmitting = true) (hs : e.strikeHeld = false) :
    backEntry refill e = some { e with transmitting := false, refill := e.refill || refill } := by
  simp [backEntry, ht, hs]

theorem backEntry_waiting (ht : e.transmitting = false) : backEntry refill e = some e := by
  simp [backEntry, ht]

end

/-! ### Held offers taken up -/

theorem admitUpTo_full (n : Nat) {l : List Entry} (held : List Entry) (h : 16 ≤ l.length) : admitUpTo n l held = (l, held) := by
  cases n with
  | zero => rfl
  | succ n => unfold admitUpTo; rw [if_neg (Nat.not_lt.2 h)]

theorem admitHeld_full {b : Blu} (h : 16 ≤ b.list.length) : b.admitHeld = b := by
  unfold Blu.admitHeld
  rw [admitUpTo_full _ _ h]

theorem admitHeld_none {b : Blu} (h : b.held = []) : b.admitHeld = b := by
  unfold Blu.admitHeld
  rw [h, List.length_nil]
  show { b with list := b.list, held := [] } = b
  rw [← h]

/-- R16 (c): while the list has room, the held offer of lowest class, and of one class the one held longest, enters it. -/
theorem admitHeld_step {b : Blu} {before after : List Entry} {e : Entry} (room : b.list.length < 16)
    (hb : b.held = before ++ e :: after) (lower : ∀ x ∈ before, e.class_ < x.class_)
    (rest : ∀ x ∈ after, e.class_ ≤ x.class_) :
    b.admitHeld = Blu.admitHeld { b with list := insertEntry e b.list, held := before ++ after } := by
  have step : admitUpTo b.held.length b.list b.held
      = admitUpTo (before ++ after).length (insertEntry e b.list) (before ++ after) := by
    rw [hb, show (before ++ e :: after).length = (before ++ after).length + 1 by simp; omega]
    conv => lhs; unfold admitUpTo
    rw [if_pos room, takeLowest_middle before after e lower rest]
  unfold Blu.admitHeld
  rw [step]

end Sys2Proof.Machine

namespace Sys2Proof

open Machine

/-- Settles O10: an offer by its three outcomes, a strike and a way back entry by entry, and the held offers one by one as they are
taken up. -/
theorem offersAndStrikes : Obligations.OffersAndStrikes := by
  refine ⟨fun b n o => ⟨offer_of_clash o, offer_of_full o, fun free room sorted => ?_⟩, clashes_iff, fun p e refill =>
    ⟨strikeEntry_waiting, strikeEntry_transmitting, strikeEntry_spared, backEntry_struck, backEntry_transmitting,
      backEntry_waiting⟩, fun b p refill => ⟨rfl, rfl⟩, fun b => ⟨fun h => h.elim admitHeld_full admitHeld_none,
    fun _ _ _ => admitHeld_step⟩, fun e l sorted => insertEntry_split e l ((classSorted_iff l).1 sorted)⟩
  obtain ⟨before, after, hl, hb, ha, hi⟩ :=
    insertEntry_split (Entry.fresh n o false) b.list ((classSorted_iff b.list).1 sorted)
  exact ⟨before, after, hl, hb, ha, by rw [offer_of_room o free room, hi]⟩

end Sys2Proof
end

section
/-! The reset, the classes of the notices and the waits on the idle line (R1, R6, R13, R23). -/

namespace Sys2Proof.Machine

/-- R23, R166: what a reset leaves, the plant inputs and the queue as they stand. -/
def State.afterReset (s : State) : State := { State.reset with pins := s.pins, pending := s.pending }

section
variable (s : State) (i : Nat)

theorem rosterAt_afterReset : s.afterReset.bt.rosterAt i = RosterRec.empty := List.getElem?_getD_replicate_default_eq _ _ _

theorem joinResult_afterReset : s.afterReset.bt.joinResult i = none := List.getElem?_getD_replicate_default_eq _ _ _

theorem timer_afterReset : s.afterReset.timer i = HoldTimer.reset := List.getElem?_getD_replicate_default_eq _ _ _

theorem dc_afterReset : s.afterReset.dc i = Channel.idle := List.getElem?_getD_replicate_default_eq _ _ _

theorem mp_afterReset : s.afterReset.mp i = Pair.reset := List.getElem?_getD_replicate_default_eq _ _ _

theorem order_afterReset : s.afterReset.order i = none := List.getElem?_getD_replicate_default_eq _ _ _

theorem run_afterReset : s.afterReset.run i = RunRec.reset := List.getElem?_getD_replicate_default_eq _ _ _

theorem pusher_afterReset (p : Pusher) : s.afterReset.pusher p = OpRec.reset := by
  cases p with
  | toMixer m => exact List.getElem?_getD_replicate_default_eq _ _ _
  | _ => rfl

/-- No pair is bound after a reset, so every tap valve is closed and no pump is asked for. -/
theorem taps_afterReset : s.afterReset.tapValve i = false ∧ s.afterReset.pumpRequest i = false := by
  constructor <;> simp [State.tapValve, State.pumpRequest, State.afterReset, State.reset, Pair.reset]

end

/-- R5: the class makes the first two of the six contention bits. -/
theorem contentionValue_class {station : Nat} (h : station < 16) (n : Notice) :
    contentionValue (noticeClass n) station / 16 = noticeClass n ∧ contentionValue (noticeClass n) station < 64 := by
  have : noticeClass n < 4 := by cases n <;> simp [noticeClass]
  unfold contentionValue
  omega

/-- R4, R6: when the head notice is eligible. -/
theorem headEligible_iff {b : Blu} {e : Entry} {rest : List Entry} (h : b.list = e :: rest) :
    headEligible b = true ↔ noticeClass e.notice = 0 ∨ b.turnSpent = false := by
  unfold headEligible
  rw [h]
  simp [Entry.class_]

end Sys2Proof.Machine

namespace Sys2Proof

open Machine

/-- Settles O4: each list of records is a list of equal reset records, and each other field is read off. -/
theorem hardwareResetLeavesResetValues : Obligations.HardwareResetLeavesResetValues := by
  intro s
  refine ⟨s.afterReset, rfl, rfl, rfl, rfl, rfl, rfl, rfl, rfl, rfl, rfl, rfl, rfl, rfl, rfl, rfl, rfl, rfl, rfl, rfl, rfl, rfl,
    rfl,
    fun n _ => ⟨rosterAt_afterReset s n, joinResult_afterReset s n⟩, rfl, rfl, rfl, rfl, rfl, rfl,
    fun i _ => timer_afterReset s i, fun k _ => ⟨dc_afterReset s k, mp_afterReset s k⟩, fun n _ => taps_afterReset s n,
    fun slot _ => order_afterReset s slot, rfl, rfl, rfl, rfl, rfl, rfl, rfl, rfl, rfl, pusher_afterReset s, rfl,
    fun m _ => run_afterReset s m, rfl, rfl, rfl, rfl, rfl, rfl, rfl, rfl⟩

/-- Settles O5: the table kind by kind, then the contention bits and the eligible head. -/
theorem noticeClassesFollowTheTable : Obligations.NoticeClassesFollowTheTable := by
  refine ⟨?_, ?_, rfl, ?_, ?_, ?_, ?_, ?_, rfl, ?_, rfl, ?_, ?_, ?_, ?_, ?_, ?_, ?_, fun n _ h => contentionValue_class h n,
    fun _ _ _ hl hc => (headEligible_iff hl).2 (.inl hc)⟩
  all_goals intros; rfl

/-- Settles O6, by the condition of each of the two commands. -/
theorem waitsOnTheIdleLine : Obligations.WaitsOnTheIdleLine := by
  refine ⟨fun s => ⟨fun h => ?_, fun h => ?_⟩, fun s following quiet => ?_⟩
  · exact congrArg Host.Outcome.next (if_pos h)
  · exact congrArg Host.Outcome.next (if_neg h)
  · exact congrArg Host.Outcome.next (if_pos (by simp [following, quiet]))

end Sys2Proof
end

section
/-! The beginning of a notice, the booking of a take, and the void (R4, R5, R9 to R13, R39, R40). -/

namespace Sys2Proof.Machine

/-! ### A notice begun -/

/-- R4, R5: the head wins the line, being eligible, unless a rival's contention value is lower. -/
theorem beginNotice_wins {s : State} {e : Entry} {rest : List Entry} {rival : Option Nat} (hears : s.hears = true)
    (hl : s.blu.list = e :: rest) (quiet : s.transmitting = false)
    (eligible : noticeClass e.notice = 0 ∨ s.blu.turnSpent = false)
    (wins : ∀ v, rival = some v → contentionValue (noticeClass e.notice) s.me ≤ v) :
    s.beginNotice rival = { s with
      blu := { s.blu with list := { e with notice := s.fillNotice e, transmitting := true, refill := false } :: rest } } := by
  have own : s.ownContention = contentionValue (noticeClass e.notice) s.me := by unfold State.ownContention; rw [hl]; rfl
  have unrivalled : rival.any (fun v => v < s.ownContention) = false := by
    cases rival with
    | none => rfl
    | some v => simpa [own] using wins v rfl
  unfold State.beginNotice State.transmitHead
  rw [if_pos ⟨hears, (headEligible_iff hl).2 eligible, by rw [quiet]; rfl⟩, unrivalled, hl, if_neg Bool.false_ne_true]

theorem beginNotice_not_eligible {s : State} {e : Entry} {rest : List Entry} (rival : Option Nat)
    (hl : s.blu.list = e :: rest) (h : ¬ (noticeClass e.notice = 0 ∨ s.blu.turnSpent = false)) : s.beginNotice rival = s := by
  unfold State.beginNotice
  rw [if_neg fun ⟨_, eligible, _⟩ => h ((headEligible_iff hl).1 eligible)]

theorem beginNotice_loses {s : State} {e : Entry} {rest : List Entry} {v : Nat} (hl : s.blu.list = e :: rest)
    (h : v < contentionValue (noticeClass e.notice) s.me) : s.beginNotice (some v) = s := by
  have own : v < s.ownContention := by unfold State.ownContention; rw [hl]; exact h
  unfold State.beginNotice
  split
  · rw [if_pos (by simpa using own)]
  · rfl

/-! ### The payload filled in -/

/-- R15: the payload of a notice that is neither an IMAGE nor an IMAGE END, and no claim sent back by a void, is the one offered. -/
theorem fillNotice_as_offered {s : State} {e : Entry} (image : noticeKind e.notice ≠ 3) (imageEnd : noticeKind e.notice ≠ 4)
    (fresh : e.refill = false ∨ (noticeKind e.notice ≠ 6 ∧ noticeKind e.notice ≠ 14)) : s.fillNotice e = e.notice := by
  unfold State.fillNotice
  split
  · next h => rw [h] at image; exact absurd rfl image
  · next h => rw [h] at imageEnd; exact absurd rfl imageEnd
  · next h _ =>
    rw [h] at fresh
    have : e.refill = false := fresh.resolve_right fun f => f.1 rfl
    rw [if_neg (by simp [this])]
  · next h =>
    rw [h] at fresh
    have : e.refill = false := fresh.resolve_right fun f => f.2 rfl
    rw [if_neg (by simp [this])]
  · rfl

theorem fillNotice_rosterTokens {s : State} {e : Entry} {j : Nat} {roster : List RosterRec} {a b : Option TokenHolder}
    {tk : Tokens} (h : e.notice = .image j (.rosterTokens roster a b)) (ht : s.bt.tokens = some tk) :
    s.fillNotice e = .image j (.rosterTokens s.bt.roster tk.a tk.b) := by
  simp [State.fillNotice, h, Table.imageOf, ht]

theorem fillNotice_mixers {s : State} {e : Entry} {j : Nat} {recs : List MixRec} {waiting : List MixClaim} {p : Pool}
    (h : e.notice = .image j (.mixers recs waiting)) (hp : s.bt.pool = some p) :
    s.fillNotice e = .image j (.mixers p.recs p.waiting) := by
  simp [State.fillNotice, h, Table.imageOf, hp]

theorem fillNotice_line {s : State} {e : Entry} {j n : Nat} {r now : LineRec} (h : e.notice = .image j (.line n r))
    (hn : s.bt.line n = some now) : s.fillNotice e = .image j (.line n now) := by
  simp [State.fillNotice, h, Table.imageOf, hn]

theorem fillNotice_imageEnd {s : State} {e : Entry} {j result count : Nat} (h : e.notice = .imageEnd j result count) :
    s.fillNotice e = .imageEnd j result (s.bt.bayCount.getD 0) := by
  simp [State.fillNotice, h]

theorem fillNotice_claim {s : State} {e : Entry} {line shots drops level rush k : Nat}
    (h : e.notice = .claim line shots drops level rush) (owner : e.owner = .channel k) (refill : e.refill = true)
    (hline : (s.dc k).line = line) : s.fillNotice e = s.claimNotice k := by
  simp [State.fillNotice, h, owner, refill, hline]

theorem fillNotice_mixClaim {s : State} {e : Entry} {time level rush slot : Nat} (h : e.notice = .mixClaim time level rush)
    (refill : e.refill = true) (awaits : s.awaitsMixer = some slot) : s.fillNotice e = s.mixClaimNotice slot := by
  simp [State.fillNotice, h, refill, awaits]

theorem claimNotice_eq {s : State} {k line asked : Nat} (hline : (s.dc k).line = line)
    (hasked : asked = askedShotsOf (s.dc k).mode (s.lineConst line).shareBlock (s.dc k).plan) :
    s.claimNotice k = .claim line asked (askedDropsOf (s.lineConst line).shotSize asked (s.dc k).plan)
      (s.levelOf (s.dc k).slot) (rushCode (s.obu.rushOf (s.dc k).slot)) := by
  subst hline hasked
  rfl

theorem mixClaimNotice_eq {s : State} {slot : Nat} {o : Order} (h : s.order slot = some o) :
    s.mixClaimNotice slot = .mixClaim o.mixTime o.priority.level (rushCode (s.obu.rushOf slot)) := by
  simp [State.mixClaimNotice, State.levelOf, h]

/-! ### A take booked -/

theorem isOwnTake_iff (s : State) (sender : Nat) (n : Notice) :
    s.isOwnTake sender n = true ↔ sender = s.me ∧ ∃ e, s.blu.current = some e ∧ e.notice = n := by
  simp [State.isOwnTake, Option.any_eq_true]

theorem current_isSome (s : State) : s.blu.current.isSome = s.transmitting := by
  rw [Bool.eq_iff_iff]
  simp [Blu.current, State.transmitting, List.find?_isSome]

theorem bookTake_own {s : State} {sender : Nat} {n : Notice} (h : s.isOwnTake sender n = true) :
    s.bookTake sender n = { s with blu := s.blu.ownTaken n } := by
  unfold State.bookTake
  rw [if_pos h]

theorem bookTake_other {s : State} {sender : Nat} {n : Notice} (h : s.isOwnTake sender n = false) :
    s.bookTake sender n = (s.backToWaiting false).modBlu Blu.otherTaken := by
  unfold State.bookTake
  rw [if_neg (by simp [h])]

theorem backToWaiting_quiet {s : State} (refill : Bool) (h : s.transmitting = false) : s.backToWaiting refill = s := by
  have none : s.blu.current = none := by rw [← Option.not_isSome_iff_eq_none, current_isSome, h]; exact Bool.false_ne_true
  unfold State.backToWaiting
  rw [none]

theorem backToWaiting_blu {s : State} (refill : Bool) (h : s.transmitting = true) :
    (s.backToWaiting refill).blu = s.blu.backToWaiting refill := by
  obtain ⟨e, he⟩ := Option.isSome_iff_exists.1 ((current_isSome s).trans h)
  unfold State.backToWaiting
  rw [he]
  exact State.struckTell_blu _ e

/-- The way back to waiting touches the list, and at most reports a channel's stopped CLAIM: nothing of the bay. -/
theorem sameBay_backToWaiting (s : State) (refill : Bool) : SameBay s (s.backToWaiting refill) := by
  unfold State.backToWaiting
  split
  · exact .refl s
  · next e _ =>
    refine SameBay.trans (t := { s with blu := s.blu.backToWaiting refill }) (.of rfl) ?_
    unfold State.struckTell
    repeat' split
    · exact sameBay_report _ _ _
    all_goals exact .refl _

theorem bookTake_htb (s : State) (sender : Nat) (n : Notice) : (s.bookTake sender n).htb = s.htb := by
  unfold State.bookTake
  split
  · rfl
  · exact (sameBay_backToWaiting s false).htb

/-! ### A void -/

theorem SameBay.voids {s t : State} (h : SameBay s t) : t.blu.voids = s.blu.voids := congrArg (·.2.2.1) h.place

theorem SameBay.objections {s t : State} (h : SameBay s t) : t.blu.objections = s.blu.objections := congrArg (·.2.1) h.place

theorem SameBay.turnSpent {s t : State} (h : SameBay s t) : t.blu.turnSpent = s.blu.turnSpent := congrArg (·.2.2.2.1) h.place

/-- R38, R40: as a station leaves the bay its table is empty. -/
theorem leaveBay_bt (s : State) (listen : Listen) : (s.leaveBay listen).bt = Table.empty := by
  unfold State.leaveBay
  rw [(sameBay_foldl _ sameBay_leaveChannel _ _).bt, (sameBay_leaveBook _).bt]
  rfl

/-- R40: what a station that goes DETACHED shows. -/
theorem detach_shows (s : State) (reason : DetachReason) :
    (s.detach reason).ssl.state = .detached ∧ (s.detach reason).ssl.lastDetach = reason
      ∧ (s.detach reason).bt = Table.empty := by
  unfold State.detach
  refine ⟨State.enter_state _ _, ?_, ?_⟩
  · unfold State.enter
    split <;> rfl
  · rw [State.enter_bt, State.modSsl_bt, leaveBay_bt]

/-- The station as the void of its own notice leaves it before the limit is looked at. -/
def State.voidCounted (s : State) : State := (s.backToWaiting true).modBlu fun b => { b with voids := b.voids + 1 }

/-- The station as its objection to another's notice leaves it before the limit is looked at. -/
def State.objectionCounted (s : State) : State :=
  (s.backToWaiting false).modBlu fun b => { b with objections := b.objections + 1 }

theorem voidCounted_voids (s : State) : s.voidCounted.blu.voids = s.blu.voids + 1 :=
  congrArg (· + 1) (sameBay_backToWaiting s true).voids

theorem objectionCounted_objections (s : State) : s.objectionCounted.blu.objections = s.blu.objections + 1 :=
  congrArg (· + 1) (sameBay_backToWaiting s false).objections

/-- R12: below the limit the void of the own notice is counted; at the eighth the bay is jammed. -/
theorem ownVoid_eq (s : State) :
    s.ownVoid = if 7 ≤ s.blu.voids then s.voidCounted.detach .bayJammed else s.voidCounted := by
  show (if 8 ≤ s.voidCounted.blu.voids then _ else _) = _
  simp only [voidCounted_voids, Nat.succ_le_succ_iff]
  rfl

/-- R11: below the limit an objection is counted, where a fault was heard; at the fourth the limit is reached. -/
theorem otherVoid_eq (s : State) (heard : Bits) : s.otherVoid heard =
    if receptionFaulty heard = true then
      (if 3 ≤ s.blu.objections then s.objectionCounted.detach .objectionLimit else s.objectionCounted)
    else s.backToWaiting false := by
  show (if receptionFaulty heard = true then if 4 ≤ s.objectionCounted.blu.objections then _ else _ else _) = _
  simp only [objectionCounted_objections, Nat.succ_le_succ_iff]
  rfl

theorem void_own {s : State} {heard : Bits} (hears : s.hears = true) (own : s.isOwnVoid heard = true) :
    s.void heard = s.ownVoid.settle := by
  unfold State.void
  rw [if_pos hears, if_pos own]

theorem void_other {s : State} {heard : Bits} (hears : s.hears = true) (own : s.isOwnVoid heard = false) :
    s.void heard = (s.otherVoid heard).settle := by
  unfold State.void
  rw [if_pos hears, if_neg (by simp [own])]

/-- A void touches no setup and no plant input. -/
theorem keepsInput_void (s : State) (heard : Bits) : KeepsInput s (s.void heard) := by
  have counted : KeepsInput s s.voidCounted := (sameBay_backToWaiting s true).keepsInput.trans (keepsInput_modBlu _ _)
  have objected : KeepsInput s s.objectionCounted := (sameBay_backToWaiting s false).keepsInput.trans (keepsInput_modBlu _ _)
  unfold State.void
  split
  · refine .trans ?_ (sameBay_settle _).keepsInput
    rw [ownVoid_eq, otherVoid_eq]
    repeat' split
    · exact counted.trans (keepsInput_detach _ _)
    · exact counted
    · exact objected.trans (keepsInput_detach _ _)
    · exact objected
    · exact (sameBay_backToWaiting s false).keepsInput
  · exact .refl s

end Sys2Proof.Machine

namespace Sys2Proof

open Machine

/-- Settles O7: the notice begun, the payload filled in kind by kind, and the take booked as the own or as another's. -/
theorem noticesAreBegunAndTakesBooked : Obligations.NoticesAreBegunAndTakesBooked := by
  refine ⟨fun s e rest rival hears hl quiet => ⟨fun ⟨eligible, wins⟩ => ?_, fun h => ?_⟩, fun s e =>
    ⟨fillNotice_as_offered, fun _ _ _ _ _ => fillNotice_rosterTokens, fun _ _ _ _ => fillNotice_mixers,
      fun _ _ _ _ => fillNotice_line, fun _ _ _ => fillNotice_imageEnd, fun _ _ _ _ _ _ _ hn owner refill hline hasked =>
        (fillNotice_claim hn owner refill hline).trans (claimNotice_eq hline hasked),
      fun _ _ _ _ _ hn refill awaits ho => (fillNotice_mixClaim hn refill awaits).trans (mixClaimNotice_eq ho)⟩,
    fun s sender n => ⟨isOwnTake_iff s sender n, fun own => ?_, fun other quiet => ?_, fun other busy => ?_,
      (keepsTable_bookTake s sender n).ssl, (keepsTable_bookTake s sender n).bt, bookTake_htb s sender n⟩⟩
  · exact congrArg Host.Outcome.next (beginNotice_wins hears hl quiet eligible wins)
  · rcases h with h | ⟨v, rfl, h⟩
    · exact congrArg Host.Outcome.next (beginNotice_not_eligible rival hl h)
    · exact congrArg Host.Outcome.next (beginNotice_loses hl h)
  · rw [bookTake_own own]; rfl
  · rw [bookTake_other other, backToWaiting_quiet false quiet]; rfl
  · rw [bookTake_other other, State.modBlu_blu, backToWaiting_blu false busy]; rfl

/-- Settles O8: by whose void it was and whether a fault was heard; what the order book makes at the end of the event touches
neither the counters nor the bay table. -/
theorem voidRaisesTheRightCounter : Obligations.VoidRaisesTheRightCounter := by
  intro s heard hears
  have kept := keepsInput_void s heard
  refine ⟨s.void heard, rfl, kept.setup, kept.pins, fun own => ?_, fun other faulty => ?_, fun other whole => ?_⟩
  · rw [void_own hears own, ownVoid_eq]
    have back := sameBay_backToWaiting s true
    refine ⟨fun below => ?_, fun limit => ?_⟩
    · rw [if_neg (by omega)]
      have settled := sameBay_settle s.voidCounted
      exact ⟨settled.voids.trans (voidCounted_voids s), settled.objections.trans back.objections, settled.ssl.trans back.ssl,
        settled.bt.trans back.bt, settled.turnSpent.trans back.turnSpent⟩
    · rw [if_pos limit, (sameBay_settle _).ssl, (sameBay_settle _).bt]
      exact detach_shows _ _
  · rw [void_other hears other, otherVoid_eq, if_pos faulty]
    have back := sameBay_backToWaiting s false
    refine ⟨fun below => ?_, fun limit => ?_⟩
    · rw [if_neg (by omega)]
      have settled := sameBay_settle s.objectionCounted
      exact ⟨settled.objections.trans (objectionCounted_objections s), settled.voids.trans back.voids,
        settled.ssl.trans back.ssl, settled.bt.trans back.bt, settled.turnSpent.trans back.turnSpent⟩
    · rw [if_pos limit, (sameBay_settle _).ssl, (sameBay_settle _).bt]
      exact detach_shows _ _
  · rw [void_other hears other, otherVoid_eq, if_neg (by simp [whole])]
    have kept := (sameBay_backToWaiting s false).trans (sameBay_settle _)
    exact ⟨kept.objections, kept.voids, kept.ssl, kept.bt, kept.turnSpent⟩

end Sys2Proof
end

section
/-! SUPPORT. Bits, bytes and stuffing (R3, R175, R176): what is laid out reads back. -/

namespace Sys2Proof.Machine

/-! ### Stuffing -/

/-- R3: short of a run of five, a receiver follows the sender's run and drops what it inserted. -/
theorem destuffFrom_stuffFrom (bits : Bits) (last : Bool) (run : Nat) (h : run < 5) :
    destuffFrom last run (stuffFrom last run bits) = some bits := by
  induction bits generalizing last run with
  | nil => rfl
  | cons b bs ih =>
    have shorter : (if b = last then run + 1 else 1) ≤ 5 := by split <;> omega
    by_cases five : (if b = last then run + 1 else 1) = 5
    · rw [show stuffFrom last run (b :: bs) = b :: (!b) :: stuffFrom (!b) 1 bs from if_pos five]
      simp only [destuffFrom, Nat.ne_of_lt h, five, if_true, if_false]
      simp [ih (!b) 1 (by decide)]
    · rw [show stuffFrom last run (b :: bs) = b :: stuffFrom b (if b = last then run + 1 else 1) bs from if_neg five]
      simp only [destuffFrom, Nat.ne_of_lt h, if_false]
      simp [ih b _ (Nat.lt_of_le_of_ne shorter five)]

theorem destuff_stuff (bits : Bits) : destuff (stuff bits) = some bits := destuffFrom_stuffFrom bits false 0 (by decide)

/-! ### Bits and bytes -/

@[simp] theorem length_bitsOf (w n : Nat) : (bitsOf w n).length = w := by simp [bitsOf]

theorem bitsOf_succ (w n : Nat) : bitsOf (w + 1) n = bitsOf w (n / 2) ++ [n.testBit 0] := by
  unfold bitsOf
  rw [List.range_succ, List.map_append, List.map_singleton]
  congr 1
  · refine List.map_congr_left fun i hi => ?_
    rw [Nat.testBit_div_two, show w - 1 - i + 1 = w + 1 - 1 - i by have := List.mem_range.1 hi; omega]
  · simp

/-- R176: a number that fits a field reads back from the field's bits. -/
theorem ofBits_bitsOf {w n : Nat} (h : n < 2 ^ w) : ofBits (bitsOf w n) = n := by
  induction w generalizing n with
  | zero => simp [bitsOf, ofBits]; omega
  | succ w ih =>
    have half : ofBits (bitsOf w (n / 2)) = n / 2 := ih (by omega)
    rw [bitsOf_succ]
    unfold ofBits at half ⊢
    rw [List.foldl_append, half, List.foldl_cons, List.foldl_nil, Nat.testBit_zero]
    rcases Nat.mod_two_eq_zero_or_one n with h2 | h2 <;> simp [h2] <;> omega

@[simp] theorem bytesBits_cons (b : ByteVal) (bytes : List ByteVal) : bytesBits (b :: bytes) = bitsOf 8 b ++ bytesBits bytes := rfl

@[simp] theorem length_bytesBits (bytes : List ByteVal) : (bytesBits bytes).length = 8 * bytes.length := by
  induction bytes with
  | nil => rfl
  | cons b bytes ih => rw [bytesBits_cons, List.length_append, ih, length_bitsOf, List.length_cons]; omega

/-- The bytes read back, eight bits each, from the bits of bytes. -/
theorem bytes_of_bytesBits (bytes : List ByteVal) (h : ∀ b ∈ bytes, b < 256) :
    ((List.range bytes.length).map fun i => ofBits (((bytesBits bytes).drop (8 * i)).take 8)) = bytes := by
  induction bytes with
  | nil => rfl
  | cons b bytes ih =>
    obtain ⟨hb, hbytes⟩ := List.forall_mem_cons.1 h
    rw [List.length_cons, List.range_succ_eq_map, List.map_cons, List.map_map, bytesBits_cons]
    congr 1
    · rw [Nat.mul_zero, List.drop_zero, List.take_left' (length_bitsOf 8 b), ofBits_bitsOf hb]
    · refine Eq.trans (List.map_congr_left fun i _ => ?_) (ih hbytes)
      show ofBits (((bitsOf 8 b ++ bytesBits bytes).drop (8 * (i + 1))).take 8) = _
      rw [Nat.mul_succ, Nat.add_comm, ← List.drop_drop, List.drop_left' (length_bitsOf 8 b)]

theorem twoBytes_value {n : Nat} (h : n < 65536) : n / 256 % 256 * 256 + n % 256 = n := by omega

theorem threeBytes_value {n : Nat} (h : n < 16777216) : n / 65536 % 256 * 65536 + n / 256 % 256 * 256 + n % 256 = n := by
  omega

/-- R176: each of these numbers fits a byte. -/
def BytesFit (bytes : List ByteVal) : Prop := ∀ b ∈ bytes, b < 256

namespace BytesFit

theorem nil : BytesFit [] := by simp [BytesFit]

theorem cons {b : Nat} {bytes : List ByteVal} (hb : b < 256) (h : BytesFit bytes) : BytesFit (b :: bytes) :=
  List.forall_mem_cons.2 ⟨hb, h⟩

theorem append {xs ys : List ByteVal} (hx : BytesFit xs) (hy : BytesFit ys) : BytesFit (xs ++ ys) :=
  List.forall_mem_append.2 ⟨hx, hy⟩

theorem twoBytes (n : Nat) : BytesFit (twoBytes n) := cons (by omega) (cons (by omega) nil)

theorem threeBytes (n : Nat) : BytesFit (threeBytes n) := cons (by omega) (cons (by omega) (cons (by omega) nil))

theorem zeros (n : Nat) : BytesFit (List.replicate n 0) := fun b hb => by rw [List.eq_of_mem_replicate hb]; decide

theorem flatMap {α : Type} {f : α → List ByteVal} {l : List α} (h : ∀ x ∈ l, BytesFit (f x)) : BytesFit (l.flatMap f) := by
  intro b hb
  obtain ⟨x, hx, hbx⟩ := List.mem_flatMap.1 hb
  exact h x hx b hbx

end BytesFit

/-! ### What a listener finds in a notice's bits -/

/-- R8: a notice laid out whole, of a length that agrees with its kind, has no fault. -/
theorem fieldsFaulty_of_layout (v kind : Nat) (payload : List ByteVal) (covered : Bits)
    (hc : covered = bitsOf 6 v ++ bytesBits (kind :: payload.length :: payload)) (hk : kind < 256)
    (hlen : payload.length < 256) (hp : BytesFit payload) (hok : noticeLengthOk kind payload = true) :
    fieldsFaulty (false :: (covered ++ bitsOf 16 (check covered).toNat)) = false := by
  have size : covered.length = 22 + 8 * payload.length := by rw [hc]; simp; omega
  have whole : (false :: (covered ++ bitsOf 16 (check covered).toNat)).length = 39 + 8 * payload.length := by
    simp [size]; omega
  have covered_eq : ((false :: (covered ++ bitsOf 16 (check covered).toNat)).drop 1).take (39 + 8 * payload.length - 17)
      = covered := List.take_left' (by omega)
  have check_eq : ofBits ((false :: (covered ++ bitsOf 16 (check covered).toNat)).drop (39 + 8 * payload.length - 16))
      = (check covered).toNat := by
    rw [show 39 + 8 * payload.length - 16 = covered.length + 1 by omega, List.drop_succ_cons, List.drop_left,
      ofBits_bitsOf (check covered).isLt]
  have fields : covered.drop 6 = bitsOf 8 kind ++ (bitsOf 8 payload.length ++ bytesBits payload) := by
    rw [hc, List.drop_left' (length_bitsOf 6 v)]; rfl
  have kind_eq : ofBits (((false :: (covered ++ bitsOf 16 (check covered).toNat)).drop 7).take 8) = kind := by
    rw [List.drop_succ_cons, List.drop_append_of_le_length (by omega), fields, List.append_assoc,
      List.take_left' (length_bitsOf 8 kind), ofBits_bitsOf hk]
  have length_eq : ofBits (((false :: (covered ++ bitsOf 16 (check covered).toNat)).drop 15).take 8) = payload.length := by
    rw [List.drop_succ_cons, show 14 = 6 + 8 from rfl, ← List.drop_drop, List.drop_append_of_le_length (by omega), fields,
      List.append_assoc, List.drop_left' (length_bitsOf 8 kind), List.append_assoc,
      List.take_left' (length_bitsOf 8 payload.length), ofBits_bitsOf hlen]
  have payload_eq : covered.drop 22 = bytesBits payload := by
    rw [show 22 = 6 + (8 + 8) from rfl, ← List.drop_drop, fields, ← List.drop_drop, List.drop_left' (length_bitsOf 8 kind),
      List.drop_left' (length_bitsOf 8 payload.length)]
  unfold fieldsFaulty
  simp only [whole, covered_eq, check_eq, kind_eq, length_eq, payload_eq, bytes_of_bytesBits payload hp, hok]
  simp

/-- R3, R8: such a notice, stuffed by its sender, is heard without fault. -/
theorem receptionFaulty_noticeBits (station : Nat) (n : Notice) (hlen : (noticePayload n).length < 256)
    (hp : BytesFit (noticePayload n)) (hok : noticeLengthOk (noticeKind n) (noticePayload n) = true) :
    receptionFaulty (noticeBits station n) = false := by
  have hk : noticeKind n < 256 := by cases n <;> simp [noticeKind]
  unfold receptionFaulty noticeBits
  rw [destuff_stuff]
  exact fieldsFaulty_of_layout _ _ _ _ rfl hk hlen hp hok

end Sys2Proof.Machine

namespace Sys2Proof

open Machine

/-- Settles O11, from the first bit on: no run is begun, so it is short of five. -/
theorem destuffingUndoesStuffing : Obligations.DestuffingUndoesStuffing := destuff_stuff

end Sys2Proof
end

section
/-! The bay notice laid out and read back (R19, R176, R178). -/

namespace Sys2Proof.Machine

/-! ### The parts of a record -/

theorem optStationOfByte_optStationByte {o : Option Nat} (h : isOptStation o = true) : optStationOfByte (optStationByte o) = o := by
  cases o with
  | none => rfl
  | some n => simp only [isOptStation, decide_eq_true_eq] at h; simp [optStationByte, optStationOfByte, Nat.ne_of_lt h]

theorem optStationByte_lt {o : Option Nat} (h : isOptStation o = true) : optStationByte o < 256 := by
  cases o with
  | none => decide
  | some n => simp only [isOptStation, decide_eq_true_eq] at h; exact Nat.lt_succ_of_lt h

theorem rushOfCode_rushCode (r : Rush) : rushOfCode (rushCode r) = some r := by cases r <;> rfl

theorem rushCode_lt (r : Rush) : rushCode r < 3 := by cases r <;> decide

/-- R178: the four two-bit parts of a claim byte read back. -/
theorem packClaim_parts {requested effective passed : Nat} (hr : requested < 4) (he : effective < 4) (hp : passed < 4)
    (rush : Rush) : packClaim requested effective passed rush < 256
      ∧ packClaim requested effective passed rush / 64 % 4 = requested
      ∧ packClaim requested effective passed rush / 16 % 4 = effective
      ∧ packClaim requested effective passed rush / 4 % 4 = passed
      ∧ rushOfPart (packClaim requested effective passed rush) = rush := by
  have hc := rushCode_lt rush
  have hmod : packClaim requested effective passed rush % 4 = rushCode rush := by unfold packClaim; omega
  refine ⟨by unfold packClaim; omega, by unfold packClaim; omega, by unfold packClaim; omega, by unfold packClaim; omega, ?_⟩
  unfold rushOfPart
  rw [hmod, rushOfCode_rushCode]
  rfl

/-! ### Records one after another -/

theorem length_flatMap_const {α : Type} (f : α → List ByteVal) (k : Nat) (hf : ∀ x, (f x).length = k) (l : List α) :
    (l.flatMap f).length = k * l.length := by
  induction l with
  | nil => rfl
  | cons x xs ih => rw [List.flatMap_cons, List.length_append, hf, ih, List.length_cons, Nat.mul_succ, Nat.add_comm]

theorem rosterBytes_fit {r : RosterRec} (h : r.wellFormed = true) : BytesFit (rosterBytes r) := by
  have state : rosterStateCode r.state + (if r.imageMark then 128 else 0) < 256 := by
    cases r.state <;> cases r.imageMark <;> decide
  exact .cons state (.cons (optStationByte_lt h) .nil)

theorem rosterOfBytes_rosterBytes {r : RosterRec} (h : r.wellFormed = true) :
    rosterOfBytes (rosterStateCode r.state + (if r.imageMark then 128 else 0)) (optStationByte r.giver) = r := by
  obtain ⟨state, giver, mark⟩ := r
  have hg := optStationOfByte_optStationByte (o := giver) h
  unfold rosterOfBytes
  cases state <;> cases mark <;> simp [rosterStateCode, hg]

theorem rosterOf_flatMap {l : List RosterRec} (h : ∀ r ∈ l, r.wellFormed = true) : rosterOf (l.flatMap rosterBytes) = l := by
  induction l with
  | nil => rfl
  | cons r rs ih =>
    obtain ⟨hr, hrs⟩ := List.forall_mem_cons.1 h
    show rosterOfBytes _ _ :: rosterOf (rs.flatMap rosterBytes) = _
    rw [rosterOfBytes_rosterBytes hr, ih hrs]

theorem claimBytes_fit {c : Claim} (h : c.wellFormed = true) : BytesFit (claimBytes c) := by
  simp only [Claim.wellFormed, isStation, isByte, isTwoBytes, isTwoBits, Bool.and_eq_true, decide_eq_true_eq] at h
  obtain ⟨⟨⟨⟨⟨station, shots⟩, -⟩, requested⟩, effective⟩, passed⟩ := h
  exact .append (.cons (by omega) (.cons shots (.twoBytes _)))
    (.cons (packClaim_parts requested effective passed c.rush).1 .nil)

theorem claimsOf_flatMap {l : List Claim} (h : ∀ c ∈ l, c.wellFormed = true) : claimsOf (l.flatMap claimBytes) = l := by
  induction l with
  | nil => rfl
  | cons c cs ih =>
    obtain ⟨hc, hcs⟩ := List.forall_mem_cons.1 h
    simp only [Claim.wellFormed, isStation, isByte, isTwoBytes, isTwoBits, Bool.and_eq_true, decide_eq_true_eq] at hc
    obtain ⟨⟨⟨⟨⟨-, -⟩, drops⟩, requested⟩, effective⟩, passed⟩ := hc
    obtain ⟨-, hr, he, hp, hrush⟩ := packClaim_parts requested effective passed c.rush
    simp only [List.flatMap_cons, claimBytes, twoBytes, List.cons_append, List.nil_append, claimsOf, twoBytes_value drops, hr, he,
      hp, hrush, ih hcs]

theorem mixClaimBytes_fit {c : MixClaim} (h : c.wellFormed = true) : BytesFit (mixClaimBytes c) := by
  simp only [MixClaim.wellFormed, isStation, isTwoBytes, isTwoBits, Bool.and_eq_true, decide_eq_true_eq] at h
  obtain ⟨⟨⟨⟨station, -⟩, requested⟩, effective⟩, passed⟩ := h
  exact .append (.cons (by omega) (.twoBytes _)) (.cons (packClaim_parts requested effective passed c.rush).1 .nil)

theorem mixClaimsOf_flatMap {l : List MixClaim} (h : ∀ c ∈ l, c.wellFormed = true) :
    mixClaimsOf (l.flatMap mixClaimBytes) = l := by
  induction l with
  | nil => rfl
  | cons c cs ih =>
    obtain ⟨hc, hcs⟩ := List.forall_mem_cons.1 h
    simp only [MixClaim.wellFormed, isStation, isTwoBytes, isTwoBits, Bool.and_eq_true, decide_eq_true_eq] at hc
    obtain ⟨⟨⟨⟨-, time⟩, requested⟩, effective⟩, passed⟩ := hc
    obtain ⟨-, hr, he, hp, hrush⟩ := packClaim_parts requested effective passed c.rush
    simp only [List.flatMap_cons, mixClaimBytes, twoBytes, List.cons_append, List.nil_append, mixClaimsOf, twoBytes_value time, hr,
      he, hp, hrush, ih hcs]

/-- R74, R176: a station that is held or none, and a mix time above 0 or none, as the two record fields carry them. -/
theorem isOptStation_of_all {o : Option Nat} (h : o.all isStation = true) : isOptStation o = true := by
  cases o with
  | none => rfl
  | some n => simp [isOptStation, isStation] at h ⊢; omega

theorem nonZero_optZero {o : Option Nat} (h : (o.all fun t => 0 < t && isTwoBytes t) = true) :
    nonZero (optZero o / 256 % 256 * 256 + optZero o % 256) = o := by
  cases o with
  | none => rfl
  | some t =>
    simp only [Option.all_some, isTwoBytes, Bool.and_eq_true, decide_eq_true_eq] at h
    obtain ⟨positive, fits⟩ := h
    simp only [optZero, twoBytes_value fits, nonZero, Nat.ne_of_gt positive, if_false]

theorem mixRecBytes_fit {r : MixRec} (h : r.wellFormed = true) : BytesFit (mixRecBytes r) := by
  simp only [MixRec.wellFormed, isByte, Bool.and_eq_true, decide_eq_true_eq] at h
  obtain ⟨⟨holder, grant⟩, -⟩ := h
  have state : mixerStateCode r.state < 256 := by cases r.state <;> decide
  exact .cons state (.cons (optStationByte_lt (isOptStation_of_all holder)) (.cons grant (.twoBytes _)))

theorem mixRecsOf_flatMap {l : List MixRec} (h : ∀ r ∈ l, r.wellFormed = true) : mixRecsOf (l.flatMap mixRecBytes) = l := by
  induction l with
  | nil => rfl
  | cons r rs ih =>
    obtain ⟨hr, hrs⟩ := List.forall_mem_cons.1 h
    simp only [MixRec.wellFormed, isByte, Bool.and_eq_true, decide_eq_true_eq] at hr
    obtain ⟨⟨holder, -⟩, time⟩ := hr
    simp only [List.flatMap_cons, mixRecBytes, twoBytes, List.cons_append, List.nil_append, mixRecsOf, nonZero_optZero time,
      optStationOfByte_optStationByte (isOptStation_of_all holder), ih hrs]
    obtain ⟨state, _, _, _⟩ := r
    cases state <;> rfl

theorem tokenBytes_fit {t : Option TokenHolder} (h : t.all TokenHolder.wellFormed = true) : BytesFit (tokenBytes t) := by
  refine .cons (optStationByte_lt ?_) (.twoBytes _)
  cases t with
  | none => rfl
  | some t => simp [TokenHolder.wellFormed, isStation, isOptStation] at h ⊢; omega

/-- A token as its three bytes. -/
theorem tokenBytes_read {t : Option TokenHolder} (h : t.all TokenHolder.wellFormed = true) :
    ∃ station hi lo, tokenBytes t = [station, hi, lo] ∧ tokenOfBytes station hi lo = t := by
  cases t with
  | none => exact ⟨255, 0, 0, rfl, rfl⟩
  | some t =>
    simp only [Option.all_some, TokenHolder.wellFormed, isStation, Bool.and_eq_true, decide_eq_true_eq] at h
    obtain ⟨station, -, tag⟩ := h
    have present : t.station ≠ 255 := by omega
    exact ⟨_, _, _, rfl, by simp only [Option.map_some, optStationByte, optZero, tokenOfBytes, twoBytes_value tag, if_neg present]⟩

theorem length_holderBytes (h : Option Holder) : (holderBytes h).length = 9 := by
  cases h <;> rfl

theorem holderBytes_fit {h : Option Holder} (wf : h.all Holder.wellFormed = true) : BytesFit (holderBytes h) := by
  cases h with
  | none => exact .cons (by decide) (.zeros 8)
  | some h =>
    simp only [Option.all_some, Holder.wellFormed, isStation, isByte, Bool.and_eq_true, decide_eq_true_eq] at wf
    obtain ⟨⟨⟨⟨station, grant⟩, shots⟩, -⟩, -⟩ := wf
    have rush := rushCode_lt h.rush
    exact .append (.cons (by omega) (.cons grant (.cons shots (.twoBytes _)))) (.cons (by omega) (.threeBytes _))

theorem holderOf_holderBytes {h : Option Holder} (wf : h.all Holder.wellFormed = true) : holderOf (holderBytes h) = h := by
  cases h with
  | none => rfl
  | some h =>
    simp only [Option.all_some, Holder.wellFormed, isStation, isByte, isTwoBytes, isThreeBytes, Bool.and_eq_true,
      decide_eq_true_eq] at wf
    obtain ⟨⟨⟨⟨station, -⟩, -⟩, drops⟩, level⟩ := wf
    simp only [holderBytes, twoBytes, threeBytes, List.cons_append, List.nil_append, holderOf]
    rw [if_neg (show h.station ≠ 255 by omega), twoBytes_value drops, threeBytes_value level, rushOfCode_rushCode]
    rfl

/-! ### The line record and the IMAGE -/

theorem lineRecBytes_fit {r : LineRec} (h : r.wellFormed = true) : BytesFit (lineRecBytes r) := by
  simp only [LineRec.wellFormed, isByte, Bool.and_eq_true, decide_eq_true_eq, List.all_eq_true] at h
  obtain ⟨⟨⟨⟨-, grant⟩, holder⟩, waiting⟩, -⟩ := h
  have service : serviceCode r.service < 256 := by cases r.service <;> decide
  exact .append (.append (.cons service (.threeBytes _)) (.cons grant (holderBytes_fit holder)))
    (.flatMap fun c hc => claimBytes_fit (waiting c hc))

theorem length_lineRecBytes (r : LineRec) : (lineRecBytes r).length = 14 + 5 * r.waiting.length := by
  simp [lineRecBytes, threeBytes, length_holderBytes, length_flatMap_const claimBytes 5 (fun _ => rfl)]
  omega

theorem padTo_fit {bytes : List ByteVal} (n : Nat) (h : BytesFit bytes) : BytesFit (padTo n bytes) := h.append (.zeros _)

theorem length_padTo {bytes : List ByteVal} {n : Nat} (h : bytes.length ≤ n) : (padTo n bytes).length = n := by
  simp [padTo]; omega

theorem imageBytes_fit {img : Image} (h : img.wellFormed = true) : BytesFit (imageBytes img) := by
  cases img with
  | rosterTokens roster a b =>
    simp only [Image.wellFormed, Bool.and_eq_true, List.all_eq_true] at h
    obtain ⟨⟨⟨-, roster⟩, a⟩, b⟩ := h
    exact .append (.append (.cons (by decide) (.flatMap fun r hr => rosterBytes_fit (roster r hr))) (tokenBytes_fit a))
      (tokenBytes_fit b)
  | mixers recs waiting =>
    simp only [Image.wellFormed, Bool.and_eq_true, List.all_eq_true, decide_eq_true_eq] at h
    obtain ⟨⟨⟨-, recs⟩, waiting⟩, count⟩ := h
    exact .append (.cons (by decide) (padTo_fit 20 (.flatMap fun r hr => mixRecBytes_fit (recs r hr))))
      (.cons (by omega) (padTo_fit 64 (.flatMap fun c hc => mixClaimBytes_fit (waiting c hc))))
  | line n record =>
    simp only [Image.wellFormed, Bool.and_eq_true, decide_eq_true_eq] at h
    obtain ⟨line, wf⟩ := h
    exact .cons (by omega) (lineRecBytes_fit wf)

theorem imageOfBytes_line (mixersEquipped : Nat) {n : Nat} {r : LineRec} (hn : n < 16) (h : r.wellFormed = true) :
    imageOfBytes mixersEquipped (imageBytes (.line n r)) = some (.line n r) := by
  simp only [LineRec.wellFormed, isByte, isThreeBytes, Bool.and_eq_true, decide_eq_true_eq, List.all_eq_true] at h
  obtain ⟨⟨⟨⟨level, -⟩, holder⟩, waiting⟩, -⟩ := h
  have more : ∀ cs : List ByteVal, (holderBytes r.holder ++ cs).take 9 = holderBytes r.holder
      ∧ (holderBytes r.holder ++ cs).drop 9 = cs := fun cs =>
    ⟨List.take_left' (length_holderBytes _), List.drop_left' (length_holderBytes _)⟩
  simp only [imageBytes, lineRecBytes, threeBytes, List.cons_append, List.nil_append, imageOfBytes]
  rw [if_pos hn, (more _).1, (more _).2, holderOf_holderBytes holder, claimsOf_flatMap waiting, threeBytes_value level]
  obtain ⟨service, _, _, _, _⟩ := r
  cases service <;> rfl

theorem imageOfBytes_rosterTokens (mixersEquipped : Nat) {roster : List RosterRec} {a b : Option TokenHolder}
    (h : (Image.rosterTokens roster a b).wellFormed = true) :
    imageOfBytes mixersEquipped (imageBytes (.rosterTokens roster a b)) = some (.rosterTokens roster a b) := by
  simp only [Image.wellFormed, Bool.and_eq_true, List.all_eq_true, beq_iff_eq] at h
  obtain ⟨⟨⟨sixteen, wf⟩, wfa⟩, wfb⟩ := h
  obtain ⟨ha, ta1, ta0, hta, hra⟩ := tokenBytes_read wfa
  obtain ⟨hb, tb1, tb0, htb, hrb⟩ := tokenBytes_read wfb
  have size : (roster.flatMap rosterBytes).length = 32 := by
    rw [length_flatMap_const rosterBytes 2 (fun _ => rfl), sixteen]
  simp only [imageBytes, hta, htb, List.cons_append, List.append_assoc, List.nil_append, imageOfBytes]
  rw [if_neg (by decide), if_pos trivial, List.drop_left' size, List.take_left' size, rosterOf_flatMap wf]
  simp only [hra, hrb]

theorem imageOfBytes_mixers {recs : List MixRec} {waiting : List MixClaim}
    (h : (Image.mixers recs waiting).wellFormed = true) :
    imageOfBytes recs.length (imageBytes (.mixers recs waiting)) = some (.mixers recs waiting) := by
  simp only [Image.wellFormed, Bool.and_eq_true, List.all_eq_true, decide_eq_true_eq] at h
  obtain ⟨⟨⟨equipped, wfr⟩, wfw⟩, -⟩ := h
  have size : (recs.flatMap mixRecBytes).length = 5 * recs.length := length_flatMap_const _ _ (fun _ => by rfl) _
  have claims : (waiting.flatMap mixClaimBytes).length = 4 * waiting.length := length_flatMap_const _ _ (fun _ => by rfl) _
  have padded : (padTo 20 (recs.flatMap mixRecBytes)).length = 20 := length_padTo (by omega)
  simp only [imageBytes, List.cons_append, imageOfBytes]
  rw [if_neg (by decide), if_neg (by decide), List.drop_left' padded]
  simp only [padTo, List.append_assoc]
  rw [List.take_left' size, List.take_left' claims, mixRecsOf_flatMap wfr, mixClaimsOf_flatMap wfw]

/-- R178: an IMAGE's subject and records read back, in a bay with as many mixers as it carries. -/
theorem imageOfBytes_imageBytes {img : Image} {mixersEquipped : Nat} (h : img.wellFormed = true)
    (equipped : ∀ recs waiting, img = .mixers recs waiting → recs.length = mixersEquipped) :
    imageOfBytes mixersEquipped (imageBytes img) = some img := by
  cases img with
  | rosterTokens roster a b => exact imageOfBytes_rosterTokens _ h
  | mixers recs waiting =>
    obtain rfl := equipped recs waiting rfl
    exact imageOfBytes_mixers h
  | line n record =>
    simp only [Image.wellFormed, Bool.and_eq_true, decide_eq_true_eq] at h
    obtain ⟨line, wf⟩ := h
    exact imageOfBytes_line _ line wf

/-- R19, R178: the length that an IMAGE's subject asks of its payload. -/
theorem noticeLengthOk_image (joiner subject : Nat) {rest : List ByteVal} {k : Nat} (size : rest.length = k) :
    noticeLengthOk 3 (joiner :: subject :: rest) =
      if subject < 16 then inRange 16 96 (k + 2) && (k + 2 - 16) % 5 == 0
      else if subject == 16 then k + 2 == 40 else subject == 17 && k + 2 == 87 := by
  subst size
  rfl

/-- R178: the payload of a well-formed IMAGE is as long as its subject asks, and its length fits the length byte. -/
theorem imageBytes_length {img : Image} (joiner : Nat) (h : img.wellFormed = true) :
    noticeLengthOk 3 (joiner :: imageBytes img) = true ∧ (imageBytes img).length < 255 := by
  cases img with
  | rosterTokens roster a b =>
    simp only [Image.wellFormed, Bool.and_eq_true, beq_iff_eq] at h
    obtain ⟨⟨⟨sixteen, -⟩, -⟩, -⟩ := h
    have size : (roster.flatMap rosterBytes ++ tokenBytes a ++ tokenBytes b).length = 38 := by
      simp [tokenBytes, twoBytes, length_flatMap_const rosterBytes 2 (fun _ => rfl), sixteen]
    exact ⟨(noticeLengthOk_image joiner 16 size).trans (by decide), (congrArg (· + 1) size).trans_lt (by decide)⟩
  | mixers recs waiting =>
    simp only [Image.wellFormed, Bool.and_eq_true, decide_eq_true_eq] at h
    have recSize : (recs.flatMap mixRecBytes).length = 5 * recs.length := length_flatMap_const _ _ (fun _ => by rfl) _
    have claimSize : (waiting.flatMap mixClaimBytes).length = 4 * waiting.length := length_flatMap_const _ _ (fun _ => by rfl) _
    have size :
        (padTo 20 (recs.flatMap mixRecBytes) ++ waiting.length :: padTo 64 (waiting.flatMap mixClaimBytes)).length = 85 := by
      rw [List.length_append, List.length_cons, length_padTo (by omega), length_padTo (by omega)]
    exact ⟨(noticeLengthOk_image joiner 17 size).trans (by decide), (congrArg (· + 1) size).trans_lt (by decide)⟩
  | line n record =>
    simp only [Image.wellFormed, LineRec.wellFormed, Bool.and_eq_true, decide_eq_true_eq] at h
    obtain ⟨line, -, count⟩ := h
    have size := length_lineRecBytes record
    refine ⟨(noticeLengthOk_image joiner n size).trans ?_, (congrArg (· + 1) size).trans_lt ?_⟩
    · rw [if_pos line]
      simp [inRange]
      omega
    · show 14 + 5 * record.waiting.length + 1 < 255
      omega

/-! ### The notice -/

theorem holdKeyByte_lt {k : HoldKey} (h : k.wellFormed = true) : holdKeyByte k < 256 := by
  cases k with
  | line n => exact Nat.lt_trans (of_decide_eq_true h) (by decide)
  | mixer m => exact Nat.add_lt_add_left (of_decide_eq_true h) 16

theorem noticePayload_fit {n : Notice} (h : n.wellFormed = true) : BytesFit (noticePayload n) := by
  cases n <;> simp only [Notice.wellFormed, isByte, isTwoBytes, isThreeBytes, Bool.and_eq_true, decide_eq_true_eq] at h
  case join =>
    obtain ⟨⟨station, -⟩, silent⟩ := h
    exact .append (.cons station (.twoBytes _)) (.cons (optStationByte_lt silent) .nil)
  case formed | leave | mixWithdraw => exact .nil
  case image =>
    obtain ⟨joiner, wf⟩ := h
    exact .cons joiner (imageBytes_fit wf)
  case imageEnd =>
    obtain ⟨⟨joiner, result⟩, -⟩ := h
    exact .cons joiner (.cons result (.twoBytes _))
  case claim =>
    obtain ⟨⟨⟨⟨line, shots⟩, -⟩, level⟩, rush⟩ := h
    exact .append (.cons line (.cons shots (.twoBytes _))) (.cons level (.cons rush .nil))
  case withdraw | lineOut | rushDrop | mixerReturn => exact .cons h .nil
  case release =>
    obtain ⟨⟨⟨line, grant⟩, -⟩, outcome⟩ := h
    exact .append (.cons line (.cons grant (.twoBytes _))) (.cons outcome .nil)
  case refill | lineReturn =>
    obtain ⟨line, -⟩ := h
    exact .cons line (.threeBytes _)
  case rushTake => exact .twoBytes _
  case mixClaim =>
    obtain ⟨⟨-, level⟩, rush⟩ := h
    exact .append (.twoBytes _) (.cons level (.cons rush .nil))
  case mixRelease =>
    obtain ⟨⟨mixer, grant⟩, outcome⟩ := h
    exact .cons mixer (.cons grant (.cons outcome .nil))
  case revoke =>
    obtain ⟨⟨subject, holder⟩, grant⟩ := h
    exact .cons (holdKeyByte_lt subject) (.cons holder (.cons grant .nil))

/-- R178: the payload of a well-formed notice is as long as its kind asks, and its length fits the length byte. -/
theorem noticePayload_length {n : Notice} (h : n.wellFormed = true) :
    noticeLengthOk (noticeKind n) (noticePayload n) = true ∧ (noticePayload n).length < 256 := by
  cases n with
  | image joiner img =>
    obtain ⟨-, wf⟩ := (Bool.and_eq_true _ _).mp h
    obtain ⟨ok, size⟩ := imageBytes_length joiner wf
    exact ⟨ok, Nat.succ_lt_succ size⟩
  | _ => exact ⟨rfl, by simp [noticePayload, twoBytes, threeBytes]⟩

theorem holdKey_read (k : HoldKey) (h : k.wellFormed = true) :
    (if holdKeyByte k < 16 then HoldKey.line (holdKeyByte k) else .mixer (holdKeyByte k - 16)) = k := by
  cases k with
  | line n => exact if_pos (by simpa [HoldKey.wellFormed, holdKeyByte] using h)
  | mixer m => simp [holdKeyByte]

/-- R178: a well-formed notice reads back from its kind and payload. -/
theorem noticeOf_noticePayload {n : Notice} {mixersEquipped : Nat} (h : n.wellFormed = true)
    (equipped : ∀ j recs waiting, n = .image j (.mixers recs waiting) → recs.length = mixersEquipped) :
    noticeOf mixersEquipped (noticeKind n) (noticePayload n) = some n := by
  cases n <;> simp only [Notice.wellFormed, isByte, isTwoBytes, isThreeBytes, Bool.and_eq_true, decide_eq_true_eq] at h
  case formed | leave | mixWithdraw | withdraw | lineOut | rushDrop | mixerReturn | mixRelease => rfl
  case join =>
    obtain ⟨⟨-, digest⟩, silent⟩ := h
    simp only [noticeKind, noticePayload, twoBytes, List.cons_append, List.nil_append, noticeOf, twoBytes_value digest,
      optStationOfByte_optStationByte silent]
  case image joiner img =>
    obtain ⟨-, wf⟩ := h
    have read := imageOfBytes_imageBytes wf fun recs waiting e => equipped joiner recs waiting (by rw [e])
    simp only [noticeKind, noticePayload, noticeOf, read, Option.map_some]
  case imageEnd =>
    obtain ⟨-, count⟩ := h
    simp only [noticeKind, noticePayload, twoBytes, noticeOf, twoBytes_value count]
  case claim =>
    obtain ⟨⟨⟨-, drops⟩, -⟩, -⟩ := h
    simp only [noticeKind, noticePayload, twoBytes, List.cons_append, List.nil_append, noticeOf, twoBytes_value drops]
  case release =>
    obtain ⟨⟨-, drops⟩, -⟩ := h
    simp only [noticeKind, noticePayload, twoBytes, List.cons_append, List.nil_append, noticeOf, twoBytes_value drops]
  case refill | lineReturn =>
    obtain ⟨-, level⟩ := h
    simp only [noticeKind, noticePayload, threeBytes, noticeOf, threeBytes_value level]
  case rushTake => simp only [noticeKind, noticePayload, twoBytes, noticeOf, twoBytes_value h]
  case mixClaim =>
    obtain ⟨⟨time, -⟩, -⟩ := h
    simp only [noticeKind, noticePayload, twoBytes, List.cons_append, List.nil_append, noticeOf, twoBytes_value time]
  case revoke =>
    obtain ⟨⟨subject, -⟩, -⟩ := h
    simp only [noticeKind, noticePayload, noticeOf, holdKey_read _ subject]

end Sys2Proof.Machine

namespace Sys2Proof

open Machine

/-- Settles O59: the payload reads back field by field, and whole bytes of the right length raise no fault at a listener. -/
theorem noticesReadBackAsSent : Obligations.NoticesReadBackAsSent := by
  intro n station mixersEquipped h _ equipped
  obtain ⟨ok, size⟩ := noticePayload_length h
  have fit := noticePayload_fit h
  exact ⟨noticeOf_noticePayload h equipped, ok, fit, receptionFaulty_noticeBits station n size fit ok⟩

end Sys2Proof
end

section
/-! SUPPORT. A take by the state of the station that hears it, one record of the roster, and what a strike spares. -/

namespace Sys2Proof.Machine

/-! ### A take by the state of the station -/

section
variable {s : State} {sender : Nat} {n : Notice}

theorem take_forming (hears : s.hears = true) (st : s.ssl.state = .forming) :
    s.take sender n = ((s.bookTake sender n).takeForming sender n).settle := by
  unfold State.take State.deliver
  rw [if_pos hears, (keepsTable_bookTake s sender n).ssl, st]

theorem take_joining (hears : s.hears = true) (st : s.ssl.state = .joining) :
    s.take sender n = ((s.bookTake sender n).takeJoining sender n).settle := by
  unfold State.take State.deliver
  rw [if_pos hears, (keepsTable_bookTake s sender n).ssl, st]

theorem take_attached (hears : s.hears = true) (st : s.ssl.state = .attached) :
    s.take sender n = ((s.bookTake sender n).takeAttached sender n).settle := by
  unfold State.take State.deliver
  rw [if_pos hears, (keepsTable_bookTake s sender n).ssl, st]

theorem bookTake_me : (s.bookTake sender n).me = s.me := State.me_of_setup (keepsTable_bookTake s sender n).setup

theorem bookTake_bay : (s.bookTake sender n).bay = s.bay := State.bay_of_setup (keepsTable_bookTake s sender n).setup

theorem State.digest_of_setup {s t : State} (h : t.setup = s.setup) : t.digest = s.digest := by unfold State.digest; rw [h]

theorem bookTake_digest : (s.bookTake sender n).digest = s.digest :=
  State.digest_of_setup (keepsTable_bookTake s sender n).setup

end

theorem State.member_iff (s : State) :
    s.member = true ↔ s.hears = true ∧ s.ssl.state = .attached ∧ s.bt.isPresent s.me = true := by
  simp [State.member, State.isAttached, and_assoc]

@[simp] theorem State.enter_ssl (s : State) (st : StationState) : (s.enter st).ssl = { s.ssl with state := st } := by
  unfold State.enter
  split
  · next h => rw [← h]
  · rfl

/-! ### One record of the roster -/

section
variable (t : Table) (q : Nat) (r : RosterRec)

theorem Table.rosterAt_setRoster_self (h : q < t.roster.length) : (t.setRoster q r).rosterAt q = r := by
  simp [Table.rosterAt, Table.setRoster, List.getD_eq_getElem?_getD, h]

theorem Table.rosterAt_setRoster_ne {q p : Nat} (h : p ≠ q) : (t.setRoster q r).rosterAt p = t.rosterAt p := by
  simp [Table.rosterAt, Table.setRoster, List.getD_eq_getElem?_getD, List.getElem?_set_ne h.symm]

/-- Whatever the number, an ABSENT record set stands. -/
theorem Table.rosterAt_setRoster_empty : (t.setRoster q RosterRec.empty).rosterAt q = RosterRec.empty := by
  by_cases h : q < t.roster.length
  · exact t.rosterAt_setRoster_self q _ h
  · simp [Table.rosterAt, Table.setRoster, List.getD_eq_getElem?_getD, Nat.le_of_not_lt h]

theorem Table.isPresent_iff : t.isPresent q = true ↔ (t.rosterAt q).state = .present := beq_iff_eq

theorem Table.not_isPresent_iff : t.isPresent q = false ↔ (t.rosterAt q).state ≠ .present := beq_eq_false_iff_ne

theorem Table.isPresent_of_joining {t : Table} {q : Nat} (h : (t.rosterAt q).state = .joining) : t.isPresent q = false :=
  (t.not_isPresent_iff q).2 (by rw [h]; decide)

theorem Table.not_absent_of_isPresent {t : Table} {q : Nat} (h : t.isPresent q = true) : (t.rosterAt q).state ≠ .absent := by
  rw [(t.isPresent_iff q).1 h]; decide

/-- A station that has a record in the roster. -/
theorem Table.lt_of_not_absent {t : Table} {q : Nat} (h : (t.rosterAt q).state ≠ .absent) : q < t.roster.length := by
  by_contra hq
  refine h ?_
  simp [Table.rosterAt, List.getD_eq_getElem?_getD, Nat.le_of_not_lt hq, RosterRec.empty]

end

/-! ### What a strike spares -/

theorem admitUpTo_subset (n : Nat) (l held : List Entry) :
    (admitUpTo n l held).1 ⊆ l ++ held ∧ (admitUpTo n l held).2 ⊆ held := by
  induction n generalizing l held with
  | zero => exact ⟨List.subset_append_left _ _, List.Subset.refl _⟩
  | succ n ih =>
    unfold admitUpTo
    split
    · split
      · exact ⟨List.subset_append_left _ _, List.Subset.refl _⟩
      · next e rest ht =>
        have hp := takeLowest_perm ht
        have hrest : rest ⊆ held := fun x hx => hp.symm.subset (List.mem_cons_of_mem e hx)
        obtain ⟨hlist, hheld⟩ := ih (insertEntry e l) rest
        refine ⟨fun x hx => ?_, fun x hx => hrest (hheld hx)⟩
        rcases List.mem_append.1 (hlist hx) with h | h
        · rcases List.mem_cons.1 ((insertEntry_perm e l).subset h) with rfl | h
          · exact List.mem_append_right _ (hp.symm.subset List.mem_cons_self)
          · exact List.mem_append_left _ h
        · exact List.mem_append_right _ (hrest h)
    · exact ⟨List.subset_append_left _ _, List.Subset.refl _⟩

/-- R17: of the entries that a strike picks none is left but one in transmission, with the strike held against it. -/
structure Blu.Struck (p : Entry → Bool) (b : Blu) : Prop where
  list : ∀ e ∈ b.list, p e = true → e.strikeHeld = true
  held : ∀ e ∈ b.held, p e = false

theorem Blu.struck_strike (b : Blu) (p : Entry → Bool) : (b.strike p).Struck p := by
  have spared : ∀ e ∈ b.list.filterMap (strikeEntry p), p e = true → e.strikeHeld = true := by
    intro e he picked
    obtain ⟨x, _, hx⟩ := List.mem_filterMap.1 he
    unfold strikeEntry at hx
    split at hx
    · split at hx <;> cases hx
      rfl
    · next h => cases hx; exact absurd picked h
  have kept : ∀ e ∈ b.held.filter (fun e => !p e), p e = false := fun e he => by simpa using (List.mem_filter.1 he).2
  obtain ⟨hlist, hheld⟩ := admitUpTo_subset (b.held.filter fun e => !p e).length (b.list.filterMap (strikeEntry p))
    (b.held.filter fun e => !p e)
  refine ⟨fun e he picked => ?_, fun e he => kept e (hheld he)⟩
  rcases List.mem_append.1 (hlist he) with h | h
  · exact spared e h picked
  · exact absurd picked (by simp [kept e h])

theorem Blu.Struck.offer {b : Blu} {p : Entry → Bool} {n : Notice} {o : Owner} (h : b.Struck p)
    (free : p (Entry.fresh n o false) = false) : (b.offer n o).1.Struck p := by
  unfold Blu.offer
  split
  · exact h
  · split
    · refine ⟨h.list, fun e he => ?_⟩
      rcases List.mem_append.1 he with he | he
      · exact h.held e he
      · rw [List.mem_singleton.1 he]; exact free
    · refine ⟨fun e he picked => ?_, h.held⟩
      rcases List.mem_cons.1 ((insertEntry_perm _ _).subset he) with rfl | he
      · exact absurd picked (by simp [free])
      · exact h.list e he picked

/-! ### What settling offers outside the bay -/

/-- R142: from `s` to `t` a held token may be offered back, and the outgoing list is else as it was. -/
def TokenOffered (s t : State) : Prop :=
  t.blu = s.blu ∨ ∃ token slot, s.obu.request = .held token slot ∧ t.blu = (s.blu.offer (.rushDrop (tokenCode token)) .book).1

theorem tokenOffered_dropToken (s : State) (slot : Nat) : TokenOffered s (s.dropToken slot) := by
  unfold State.dropToken
  split
  · next token holder hr =>
    split
    · exact .inr ⟨token, holder, hr, rfl⟩
    · exact .inl rfl
  · exact .inl rfl

theorem TokenOffered.before {s t u : State} (h : TokenOffered s t) (g : u.blu = t.blu) : TokenOffered s u := by
  rcases h with h | ⟨token, slot, hr, h⟩
  · exact .inl (g.trans h)
  · exact .inr ⟨token, slot, hr, g.trans h⟩

theorem TokenOffered.after {s t u : State} (h : TokenOffered t u) (blu : t.blu = s.blu) (request : t.obu.request = s.obu.request) :
    TokenOffered s u := by
  rcases h with h | ⟨token, slot, hr, h⟩
  · exact .inl (h.trans blu)
  · exact .inr ⟨token, slot, request ▸ hr, blu ▸ h⟩

section
variable {s : State} (out : s.isAttached = false)
include out

theorem claimMixer_outside : s.claimMixer = s := by
  unfold State.claimMixer
  split
  · rfl
  · rw [if_neg (by simp [out])]

theorem requestRush_outside : s.requestRush = s := by
  unfold State.requestRush
  repeat' split
  · rfl
  · next h => exact absurd h.2.2.2 (by simp [out])
  all_goals rfl

theorem openGate_outside : s.openGate = s := by
  unfold State.openGate
  repeat' split
  · rfl
  · next h => exact absurd h.2.1 (by simp [out])
  all_goals rfl

theorem handNext_outside (slot : Nat) : s.handNext slot = s := by
  unfold State.handNext
  repeat' split
  · next h _ _ _ => exact absurd h.2.2 (by simp [out])
  all_goals rfl

end

theorem SameBay.isAttached {s t : State} (h : SameBay s t) : t.isAttached = s.isAttached := by
  unfold State.isAttached; rw [h.ssl]

theorem tokenOffered_endTint (s : State) (slot : Nat) : TokenOffered s (s.endTint slot) := by
  have left : ∀ o, TokenOffered s (s.leaveTint slot o) := fun o => by
    have dropped : TokenOffered s (if o.mixTime = 0 then s.dropToken slot else s) := by
      split
      · exact tokenOffered_dropToken s slot
      · exact .inl rfl
    unfold State.leaveTint
    simp only
    split
    · exact dropped.before (State.startPress_blu _)
    · exact dropped.before rfl
  unfold State.endTint
  repeat' split
  · exact (tokenOffered_dropToken s slot).before (State.startChute_blu _)
  · exact left _
  all_goals exact .inl rfl

theorem seat_request (s : State) (slot : Nat) : (s.seat slot).obu.request = s.obu.request := by
  unfold State.seat State.startFill
  simp only
  repeat' split
  all_goals rfl

theorem chooseCradle_request (s : State) : s.chooseCradle.obu.request = s.obu.request := by
  unfold State.chooseCradle State.judgeTin
  simp only
  repeat' split
  all_goals first | rfl | exact seat_request _ _

/-- R141 to R147: outside the bay the order book offers nothing at the end of an event but a held token. -/
theorem tokenOffered_settle {s : State} (out : s.isAttached = false) : TokenOffered s s.settle := by
  have chosen : s.chooseCradle.isAttached = false := (sameBay_chooseCradle s).isAttached.trans out
  have dosed : TokenOffered s.chooseCradle s.chooseCradle.dose := by
    unfold State.dose
    split
    · exact .inl rfl
    · simp only [handNext_outside chosen]
      exact tokenOffered_endTint _ _
  unfold State.settle
  rw [claimMixer_outside out, requestRush_outside chosen, openGate_outside chosen]
  exact (dosed.before ((State.queueTickets_blu 8 _).trans (State.callOutfeed_blu _))).after (State.chooseCradle_blu s)
    (chooseCradle_request s)

/-- What a strike has spared is all there is after settling outside the bay, where the strike picks no RUSH DROP of the book. -/
theorem struck_settle {s : State} {p : Entry → Bool} (out : s.isAttached = false) (h : s.blu.Struck p)
    (free : ∀ token, p (Entry.fresh (.rushDrop token) .book false) = false) : s.settle.blu.Struck p := by
  rcases tokenOffered_settle out with e | ⟨token, slot, _, e⟩
  · exact e ▸ h
  · exact e ▸ h.offer (free _)

/-- With no token held the outgoing list stands as the order book settles outside the bay. -/
theorem settle_blu_outside {s : State} (out : s.isAttached = false) (h : s.obu.request = .absent) : s.settle.blu = s.blu := by
  rcases tokenOffered_settle out with e | ⟨token, slot, hr, _⟩
  · exact e
  · rw [h] at hr; cases hr

end Sys2Proof.Machine
end

section
/-! The laws at reset, SETUP, START and LEAVE, and the expiries of the station timers (R21, R22, R24, R25, R28, R36, R37, R41). -/

namespace Sys2Proof.Machine

/-! ### SETUP -/

theorem inRange_iff (lo hi n : Nat) : inRange lo hi n = true ↔ lo ≤ n ∧ n ≤ hi := by simp [inRange]

/-- R21, R22, R136, R157, R160, R161: the ranges field by field. -/
theorem setupInRange_iff (block : SetupBlock) : setupInRange block = true ↔
    ((1 ≤ block.bay.linesEquipped ∧ block.bay.linesEquipped ≤ 16)
      ∧ (∀ l ∈ block.bay.lines, (8 ≤ l.shotSize ∧ l.shotSize ≤ 255) ∧ (1 ≤ l.shareBlock ∧ l.shareBlock ≤ 15)
          ∧ (5 ≤ l.holdLimit ∧ l.holdLimit ≤ 600) ∧ l.settleDelay ≤ 255)
      ∧ (1 ≤ block.bay.mixersEquipped ∧ block.bay.mixersEquipped ≤ 4) ∧ (5 ≤ block.bay.mixerMargin ∧ block.bay.mixerMargin ≤ 60)
      ∧ (1 ≤ block.bay.grace ∧ block.bay.grace ≤ 10) ∧ block.bay.reserve ≤ 65535
      ∧ (1 ≤ block.bay.formationWindow ∧ block.bay.formationWindow ≤ 10) ∧ block.cal.station ≤ 15
      ∧ (∀ l ∈ block.cal.lines, (1 ≤ l.shotWidth ∧ l.shotWidth ≤ 4000) ∧ (l.shotWidth + 50 ≤ l.shotPeriod ∧ l.shotPeriod ≤ 10000))
      ∧ (1 ≤ block.cal.basePeriod ∧ block.cal.basePeriod ≤ 50) ∧ (1 ≤ block.cal.fastDuty ∧ block.cal.fastDuty ≤ 100)
      ∧ (1 ≤ block.cal.slowDuty ∧ block.cal.slowDuty ≤ 100) ∧ block.cal.slowBand ≤ 2000 ∧ block.cal.baseTolerance ≤ 200
      ∧ (10 ≤ block.cal.baseLimit ∧ block.cal.baseLimit ≤ 600) ∧ (50 ≤ block.cal.seatDelay ∧ block.cal.seatDelay ≤ 2000)
      ∧ (100 ≤ block.cal.pressWidth ∧ block.cal.pressWidth ≤ 3000)
      ∧ (100 ≤ block.cal.transferPulse ∧ block.cal.transferPulse ≤ 2000)
      ∧ (1 ≤ block.cal.transferLimit ∧ block.cal.transferLimit ≤ 20)) := by
  simp only [setupInRange, bayConstInRange, lineConstInRange, calibrationInRange, lineCalInRange, Bool.and_eq_true,
    inRange_iff, Nat.zero_le, true_and, List.all_eq_true, and_assoc]

section
variable {s : State} {block : SetupBlock}

/-- R21: the station is in a state in which it takes a setup. -/
abbrev State.takesSetup (s : State) : Prop := s.ssl.state = .unset ∨ s.ssl.state = .ready ∨ s.ssl.state = .refused

theorem channels_idle_iff : s.dcs.any (fun c => c.state != .idle) = false ↔ ∀ c ∈ s.dcs, c.state = .idle := by
  simp [List.any_eq_false]

theorem setupAnswer_accepted (st : s.takesSetup) (idle : ∀ c ∈ s.dcs, c.state = .idle) (fits : setupInRange block = true) :
    s.setupAnswer block = { state := s.acceptSetup block, result := .accepted, data := .nothing } := by
  unfold State.setupAnswer
  rw [if_pos st, channels_idle_iff.2 idle, if_neg Bool.false_ne_true, if_pos fits]

theorem setupAnswer_busy (st : s.takesSetup) (busy : ∃ c ∈ s.dcs, c.state ≠ .idle) : s.setupAnswer block = .refuse s .busy := by
  unfold State.setupAnswer
  rw [if_pos st, if_pos (by simpa [List.any_eq_true] using busy)]

theorem setupAnswer_badField (st : s.takesSetup) (idle : ∀ c ∈ s.dcs, c.state = .idle) (bad : setupInRange block = false) :
    s.setupAnswer block = .refuse s .badField := by
  unfold State.setupAnswer
  rw [if_pos st, channels_idle_iff.2 idle, if_neg Bool.false_ne_true, if_neg (by simp [bad])]

theorem setupAnswer_wrongState (st : ¬ s.takesSetup) : s.setupAnswer block = .refuse s .wrongState := by
  unfold State.setupAnswer
  rw [if_neg st]

/-- R21, R23: the state once a setup is accepted; the flag is set where READY is entered from another state. -/
theorem acceptSetup_eq (s : State) (block : SetupBlock) : s.acceptSetup block =
    { s with
      setup := some { block := block, digest := bayDigest block.bay }
      ssl := { s.ssl with state := .ready }
      blu := { s.blu with listen := .off }
      pdu := { s.pdu with
        fill := if s.pdu.fill.phase = .idle then { s.pdu.fill with dutyRegister := block.cal.fastDuty } else s.pdu.fill }
      tlu := if s.ssl.state = .ready then s.tlu else { s.tlu with unread := true, attention := true } } := by
  unfold State.acceptSetup State.enter
  by_cases ready : s.ssl.state = .ready
  · simp only [ready, if_true]
    rw [← ready]
    rfl
  · simp only [ready, if_false]
    simp [Tlu.markUnread, attentionOf, Fill.presetDuty]

end

/-! ### START and LEAVE -/

theorem line_eq_some_iff (t : Table) (n : Nat) (r : LineRec) : t.line n = some r ↔ t.lines[n]? = some (some r) :=
  Option.join_eq_some_iff

section
variable {s : State}

theorem startAnswer_ready (ready : s.ssl.state = .ready) :
    s.startAnswer = { state := s.acceptStart, result := .accepted, data := .nothing } := if_pos ready

theorem startAnswer_wrongState (st : s.ssl.state ≠ .ready) : s.startAnswer = .refuse s .wrongState := if_neg st

theorem acceptStart_eq (ready : s.ssl.state = .ready) : s.acceptStart =
    { s with
      bt := Table.empty
      blu := { s.blu with listen := .firstWait }
      ssl := { s.ssl with state := .forming, lateMark := false, joinTaken := false, knownGiver := none, firstListen := some 500 }
      tlu := { s.tlu with unread := true, attention := true } } := by
  unfold State.acceptStart State.enter
  rw [if_neg (by simp [ready])]
  simp [Tlu.markUnread, attentionOf]

/-- R37: what it is for this station to hold a line or a mixer. -/
theorem holdsAny_iff : s.holdsAny = true ↔
    (∃ n r h, s.bt.line n = some r ∧ r.holder = some h ∧ h.station = s.me)
      ∨ ∃ p r, s.bt.pool = some p ∧ r ∈ p.recs ∧ r.state = .held ∧ r.holder = some s.me := by
  unfold State.holdsAny
  rw [Bool.or_eq_true]
  refine or_congr ?_ ?_
  · simp only [line_eq_some_iff, List.any_eq_true, Option.any_eq_true, Option.bind_eq_some_iff, beq_iff_eq, List.mem_iff_getElem?]
    constructor
    · rintro ⟨_, ⟨n, hn⟩, h, ⟨r, rfl, hr⟩, hs⟩
      exact ⟨n, r, h, hn, hr, hs⟩
    · rintro ⟨n, r, h, hn, hr, hs⟩
      exact ⟨some r, ⟨n, hn⟩, h, ⟨r, rfl, hr⟩, hs⟩
  · simp [Option.any_eq_true, List.any_eq_true]

theorem ordersAllowLeave_iff :
    s.ordersAllowLeave = true ↔ ∀ slot o, s.order slot = some o → o.stage = .queued ∨ o.stage = .loading := by
  have order : ∀ slot o, s.order slot = some o ↔ s.obu.slots[slot]? = some (some o) := fun slot o => by
    unfold State.order
    rw [List.getD_eq_getElem?_getD]
    cases s.obu.slots[slot]? <;> simp
  simp only [State.ordersAllowLeave, List.all_eq_true, Option.all_eq_true, Bool.or_eq_true, beq_iff_eq, List.mem_iff_getElem?, order]
  exact ⟨fun h slot o hs => h (some o) ⟨slot, hs⟩ o rfl, fun h _ ⟨slot, hs⟩ o ho => h slot o (ho ▸ hs)⟩

/-- R37: this station may leave. -/
def State.mayLeave (s : State) : Prop :=
  s.ssl.state = .attached ∧ s.ssl.leavePending = false ∧ s.holdsAny = false ∧ s.ordersAllowLeave = true

theorem leaveAnswer_allowed (h : s.mayLeave) : s.leaveAnswer =
    s.queueTerminal .leave fun b => ({ s with blu := b }).modSsl fun l => { l with leavePending := true } := by
  obtain ⟨attached, pending, holds, orders⟩ := h
  unfold State.leaveAnswer
  rw [if_pos ⟨attached, by simp [pending], by simp [holds], orders⟩]

theorem leaveAnswer_wrongState (h : ¬ s.mayLeave) : s.leaveAnswer = .refuse s .wrongState := by
  unfold State.leaveAnswer
  rw [if_neg]
  rintro ⟨attached, pending, holds, orders⟩
  exact h ⟨attached, by simpa using pending, by simpa using holds, orders⟩

theorem offerTerminal_room {b : Blu} {n : Notice} (count : terminalCount b.list < 4) (room : b.list.length < 16) :
    b.offerTerminal n = some { b with list := insertEntry (Entry.fresh n .terminal true) b.list } :=
  if_neg (by omega)

theorem offerTerminal_full {b : Blu} {n : Notice} (h : 4 ≤ terminalCount b.list ∨ 16 ≤ b.list.length) :
    b.offerTerminal n = none := if_pos h

end

/-! ### The station timers -/

section
variable {s : State}

theorem firstListenExpiry_eq (st : s.ssl.state = .forming) (runs : s.ssl.firstListen.isSome = true) :
    s.firstListenExpiry = (s.modSsl fun l => { l with firstListen := none }).offerJoin none := if_pos ⟨st, runs⟩

theorem formationOpen_iff (t : Table) : t.formationOpen = true ↔ t.digest ≠ none ∧ t.formed = false := by
  simp [Table.formationOpen, Option.isSome_iff_ne_none]

theorem formationWindowExpiry_offers (st : s.ssl.state = .forming) (runs : s.ssl.formationWindow.isSome = true)
    (opened : s.bt.formationOpen = true) (late : s.ssl.lateMark = false) :
    s.formationWindowExpiry = (s.modSsl fun l => { l with formationWindow := none }).offer .formed .stationLogic := by
  unfold State.formationWindowExpiry
  rw [if_pos ⟨st, runs⟩, if_pos ⟨opened, by simp [late]⟩]

theorem imageTimerExpiry_givesUp (st : s.ssl.state = .joining) (runs : s.ssl.imageTimer.isSome = true)
    (unknown : s.ssl.knownGiver = none) (second : s.ssl.emptyTimeouts = 1) : s.imageTimerExpiry = s.giveUpJoining := by
  unfold State.imageTimerExpiry
  rw [if_pos ⟨st, runs⟩, if_pos ⟨unknown, second⟩]

theorem imageTimerExpiry_rejoins (st : s.ssl.state = .joining) (runs : s.ssl.imageTimer.isSome = true)
    (h : ¬ (s.ssl.knownGiver = none ∧ s.ssl.emptyTimeouts = 1)) :
    s.imageTimerExpiry = (s.modSsl fun l =>
      { l with
        imageTimer := none
        emptyTimeouts := if l.knownGiver = none then l.emptyTimeouts + 1 else l.emptyTimeouts }).offerJoin s.ssl.knownGiver := by
  unfold State.imageTimerExpiry
  rw [if_pos ⟨st, runs⟩, if_neg h]

theorem rejoinTimerExpiry_rejoins (st : s.ssl.state = .detached) (runs : s.ssl.rejoinTimer.isSome = true)
    (stays : s.ssl.leavePending = false) : s.rejoinTimerExpiry =
      ((s.modSsl fun l => { l with rejoinTimer := none, joinTaken := false }).enter .joining).offerJoin none := by
  unfold State.rejoinTimerExpiry
  rw [if_pos ⟨st, runs⟩, if_neg (by simp [stays])]

theorem rejoinTimerExpiry_leaves (st : s.ssl.state = .detached) (runs : s.ssl.rejoinTimer.isSome = true)
    (leaves : s.ssl.leavePending = true) : s.rejoinTimerExpiry =
      ((s.modSsl fun l => { l with rejoinTimer := none, leavePending := false }).modBlu fun b =>
        { b with listen := .off }).enter .ready := by
  unfold State.rejoinTimerExpiry
  rw [if_pos ⟨st, runs⟩, if_pos leaves]

/-- R23: a change of state raises the unread-state-change flag. -/
theorem enter_unread {st : StationState} (h : s.ssl.state ≠ st) :
    (s.enter st).tlu.unread = true ∧ (s.enter st).tlu.attention = true := by
  unfold State.enter
  rw [if_neg h]
  exact ⟨rfl, by simp [Tlu.markUnread, attentionOf]⟩

end

end Sys2Proof.Machine

namespace Sys2Proof

open Machine

/-- Settles O58: each law is a closed fact about the reset values. -/
theorem lawsHoldAtReset : Obligations.LawsHoldAtReset :=
  ⟨by decide, by decide, by decide, by decide, by decide, by decide, by decide, by decide⟩

/-- Settles O39: the ranges field by field, and the answer by the checks in their order. -/
theorem setupCommand : Obligations.SetupCommand := by
  refine ⟨setupInRange_iff, fun s block quiet => ⟨fun st => ⟨fun idle fits => ?_, fun busy => ?_, fun idle bad => ?_⟩,
    fun unset ready refused => ?_⟩⟩
  all_goals refine congrArg Host.Outcome.next ((command_answered s 1 _ quiet).trans ?_)
  · rw [setupAnswer_accepted st idle fits, acceptSetup_eq]
  · rw [setupAnswer_busy st busy]; rfl
  · rw [setupAnswer_badField st idle bad]; rfl
  · rw [setupAnswer_wrongState (by simp [State.takesSetup, unset, ready, refused])]; rfl

/-- Settles O40: START by the state; LEAVE by whether this station may leave, and then by the room in the list. -/
theorem startAndLeaveCommands : Obligations.StartAndLeaveCommands := by
  refine fun s quiet => ⟨fun ready => ?_, fun st => ?_, fun attached pending lines mixers orders => ?_, fun h => ?_⟩
  · refine congrArg Host.Outcome.next ((command_answered s 2 _ quiet).trans ?_)
    rw [startAnswer_ready ready, acceptStart_eq ready]
  · refine congrArg Host.Outcome.next ((command_answered s 2 _ quiet).trans ?_)
    rw [startAnswer_wrongState st]; rfl
  · have may : s.mayLeave := by
      refine ⟨attached, pending, ?_, ordersAllowLeave_iff.2 orders⟩
      rw [← Bool.not_eq_true, holdsAny_iff]
      rintro (⟨n, r, h, hn, hr, hs⟩ | ⟨p, r, hp, hr, held, hs⟩)
      · exact lines n r h hn hr hs
      · exact mixers p hp r hr held hs
    refine ⟨fun count room => ?_, fun full => ?_⟩
    all_goals
      refine congrArg Host.Outcome.next ((command_answered s 3 _ quiet).trans ?_)
      rw [leaveAnswer_allowed may]
      unfold State.queueTerminal
    · rw [offerTerminal_room count room]; rfl
    · rw [offerTerminal_full full]; rfl
  · have mayNot : ¬ s.mayLeave := by
      rintro ⟨attached, pending, holds, orders⟩
      rw [← Bool.not_eq_true, holdsAny_iff, not_or] at holds
      rcases h with h | h | h | h | ⟨slot, o, ho, queued, loading⟩
      · exact h attached
      · rw [pending] at h; cases h
      · exact holds.1 h
      · exact holds.2 h
      · exact (ordersAllowLeave_iff.1 orders slot o ho).elim queued loading
    refine congrArg Host.Outcome.next ((command_answered s 3 _ quiet).trans ?_)
    rw [leaveAnswer_wrongState mayNot]; rfl

/-- Settles O31: each expiry by the conditions its rule names. -/
theorem stationTimerExpiries : Obligations.StationTimerExpiries := by
  refine ⟨fun s st => ⟨fun runs => ?_, fun runs digest formed late => ?_⟩, fun s st runs => ?_, fun s st runs => ?_⟩
  · exact congrArg Host.Outcome.next (firstListenExpiry_eq st runs)
  · exact congrArg Host.Outcome.next (formationWindowExpiry_offers st runs ((formationOpen_iff s.bt).2 ⟨digest, formed⟩) late)
  · refine ⟨s.imageTimerExpiry, rfl, ?_⟩
    by_cases second : s.ssl.knownGiver = none ∧ s.ssl.emptyTimeouts = 1
    · obtain ⟨unknown, count⟩ := second
      rw [imageTimerExpiry_givesUp st runs unknown count]
      unfold State.giveUpJoining
      simp only [State.enter_ssl, State.enter_setup, State.enter_htb, State.enter_pdu, State.enter_bt, State.enter_blu]
      refine ⟨rfl, rfl, rfl, rfl, fun _ _ => ⟨trivial, rfl, rfl, rfl, rfl, rfl, ?_⟩, fun _ h => ?_, fun g h => ?_⟩
      · exact (Blu.struck_strike s.blu isOwnJoin).list
      · rw [count] at h; cases h
      · rw [unknown] at h; cases h
    · rw [imageTimerExpiry_rejoins st runs second]
      refine ⟨rfl, rfl, rfl, rfl, fun unknown count => absurd ⟨unknown, count⟩ second, fun unknown none => ?_, fun g known => ?_⟩
      · exact ⟨st, by simp [State.offerJoin, unknown, none], rfl, by rw [unknown]; rfl⟩
      · exact ⟨st, by simp [State.offerJoin, known], rfl, by rw [known]; rfl⟩
  · refine ⟨s.rejoinTimerExpiry, rfl, ?_⟩
    have setup := State.enter_setup (s.modSsl fun l => { l with rejoinTimer := none, joinTaken := false }) .joining
    by_cases leaves : s.ssl.leavePending = true
    · rw [rejoinTimerExpiry_leaves st runs leaves]
      refine ⟨?_, State.enter_bt _ _, State.enter_setup _ _, (enter_unread (by simp [st])).1, fun h => ?_, fun _ => ?_⟩
      · rw [State.enter_ssl]; rfl
      · rw [leaves] at h; cases h
      · rw [State.enter_ssl, State.enter_blu]; exact ⟨rfl, rfl, rfl⟩
    · rw [rejoinTimerExpiry_rejoins st runs (by simpa using leaves)]
      unfold State.offerJoin
      refine ⟨?_, State.enter_bt _ _, State.enter_setup _ _, (enter_unread (by simp [st])).1, fun _ => ?_, fun h => absurd h leaves⟩
      · rw [State.offer_ssl, State.enter_ssl]; rfl
      · rw [State.offer_ssl, State.enter_ssl, State.offer_blu, State.enter_blu, State.me_of_setup setup,
          State.digest_of_setup setup]
        exact ⟨rfl, rfl, rfl⟩

end Sys2Proof
end

section
/-! Formation (R14, R24, R25, R27 to R30, R32): the takes at a FORMING station and the take of a late station's own JOIN. -/

namespace Sys2Proof.Machine

/-- What a take leaves of a station is what the delivery leaves: the order book settles beside it. -/
theorem sameOutside_of_keepsInput {s t : State} (h : KeepsInput s t) (ssl : t.ssl = s.ssl) : s.sameOutside t :=
  ⟨h.setup, ssl, h.pins, h.pending⟩

/-! ### A JOIN in formation -/

/-- R27: the record that a formation JOIN gives its sender in a bay of this digest, `none` before the first. -/
def formationRecord (bay : Option Nat) (digest : Nat) : RosterRec :=
  if bay = none ∨ bay = some digest then { state := .present, giver := none, imageMark := false } else RosterRec.empty

/-- R27: the first JOIN gives the bay its digest, and every one its sender a record. -/
theorem Table.formationJoin_eq (t : Table) (sender digest : Nat) : t.formationJoin sender digest =
    { t.setRoster sender (formationRecord t.digest digest) with digest := some (t.digest.getD digest) } := by
  unfold Table.formationJoin formationRecord
  split
  · next h => simp [h]
  · next d h =>
    split
    · next e => simp [h, e, Table.setRoster]
    · next ne => simp [h, ne, Table.setRoster]

/-- R27: a JOIN taken while the station has no late mark and the formed flag is clear. -/
theorem takeForming_join {s : State} (sender station digest : Nat) (silent : Option Nat) (late : s.ssl.lateMark = false)
    (formed : s.bt.formed = false) :
    s.takeForming sender (.join station digest silent) = s.formationJoin sender digest (sender == s.me) := by
  simp [State.takeForming, State.joinForming, late, formed]

section
variable {s : State} {sender : Nat} (station digest : Nat) (silent : Option Nat) (other : sender ≠ s.me)
include other

/-- R14, R27: another's JOIN once the formed flag is set is counted alone. -/
theorem takeForming_join_formed (late : s.ssl.lateMark = false) (formed : s.bt.formed = true) :
    s.takeForming sender (.join station digest silent) = s.modBt Table.counted := by
  simp [State.takeForming, State.joinForming, late, formed, other]

/-- R24: another's JOIN at a station with the late mark. -/
theorem takeForming_join_late (late : s.ssl.lateMark = true) : s.takeForming sender (.join station digest silent) = s := by
  simp [State.takeForming, State.joinForming, late, other]

end

/-! ### FORMED -/

/-- R28: the station once a FORMED has ended its formation window and its own FORMED is struck. -/
def State.windowClosed (s : State) : State := (s.modSsl fun l => { l with formationWindow := none }).strike isOwnFormed

section
variable {s : State}

theorem formedForming_late (late : s.ssl.lateMark = true) : s.formedForming = s.windowClosed := if_pos late

theorem formedForming_again (late : s.ssl.lateMark = false) (formed : s.bt.formed = true) :
    s.formedForming = s.windowClosed.modBt Table.counted := by
  unfold State.formedForming
  simp only [late, formed, Bool.false_eq_true, if_false, if_true]
  rfl

theorem formedForming_unheard (late : s.ssl.lateMark = false) (formed : s.bt.formed = false) (digest : s.bt.digest = none) :
    s.formedForming = { s.windowClosed with bt := { s.bt with formed := true } } := by
  simp [State.formedForming, State.windowClosed, Table.formationOpen, late, formed, digest]

variable (late : s.ssl.lateMark = false) (opened : s.bt.formationOpen = true)
include late opened

/-- R29 (a): a station that is PRESENT as formation closes. -/
theorem formedForming_present (present : s.bt.isPresent s.me = true) :
    s.formedForming = ({ s.windowClosed with bt := s.bt.built s.bay }).enter .attached := by
  simp [State.formedForming, State.windowClosed, late, opened, ((formationOpen_iff s.bt).1 opened).2, present]

/-- R29 (b): a station whose digest is not the bay's. -/
theorem formedForming_differs (absent : s.bt.isPresent s.me = false) (differs : s.bt.digest ≠ some s.digest) :
    s.formedForming = ({ s.windowClosed with bt := s.bt.built s.bay }).refuse := by
  simp [State.formedForming, State.windowClosed, late, opened, ((formationOpen_iff s.bt).1 opened).2, absent, differs]

/-- R29 (c): a station that has not joined in time. -/
theorem formedForming_missed (absent : s.bt.isPresent s.me = false) (agrees : s.bt.digest = some s.digest) :
    s.formedForming = s.windowClosed.setLateMark := by
  simp [State.formedForming, State.windowClosed, late, opened, ((formationOpen_iff s.bt).1 opened).2, absent, agrees]

end

@[simp] theorem State.windowClosed_ssl (s : State) : s.windowClosed.ssl = { s.ssl with formationWindow := none } := rfl

@[simp] theorem State.windowClosed_bt (s : State) : s.windowClosed.bt = s.bt := rfl

theorem refuse_shows (s : State) : s.refuse.bt = Table.empty ∧ s.refuse.blu = s.blu.cleared .following
    ∧ s.refuse.htb = (s.stopTimers).htb
    ∧ s.refuse.ssl = { s.ssl with state := .refused, firstListen := none, formationWindow := none, imageTimer := none } := by
  unfold State.refuse
  simp only [State.enter_bt, State.enter_blu, State.enter_htb, State.enter_ssl]
  exact ⟨rfl, rfl, rfl, rfl⟩

@[simp] theorem State.setLateMark_ssl (s : State) :
    s.setLateMark.ssl = { s.ssl with lateMark := true, formationWindow := none } := rfl

@[simp] theorem State.setLateMark_bt (s : State) : s.setLateMark.bt = Table.empty := rfl

/-- R28: a FORMED ends the formation window, whatever it finds. -/
theorem formedForming_window (s : State) : s.formedForming.ssl.formationWindow = none := by
  unfold State.formedForming
  simp only
  repeat' split
  · rfl
  · rfl
  · rw [State.enter_ssl]; rfl
  · rw [(refuse_shows _).2.2.2]
  · rfl
  · rfl

/-! ### A late station -/

theorem takeForming_other {s : State} {sender : Nat} {n : Notice} (join : noticeKind n ≠ 1) (formed : noticeKind n ≠ 2) :
    s.takeForming sender n = s.otherForming sender n := by
  cases n <;> first | rfl | exact absurd rfl join | exact absurd rfl formed

theorem lateJoinSelf_shows (s : State) : s.lateJoinSelf.bt = Table.joiner s.digest s.bay.linesEquipped
    ∧ s.lateJoinSelf.ssl = { s.ssl with state := .joining, joinTaken := true, knownGiver := none, imageTimer := some 5000 } := by
  unfold State.lateJoinSelf
  rw [State.enter_bt, State.enter_ssl]
  exact ⟨rfl, rfl⟩

theorem rosterAt_joiner (digest lines q : Nat) : (Table.joiner digest lines).rosterAt q = RosterRec.empty :=
  List.getElem?_getD_replicate_default_eq _ _ _

/-- R25, R32: the take of the own JOIN as a late join. -/
theorem take_ownJoin {s : State} (station digest : Nat) (silent : Option Nat) (hears : s.hears = true)
    (h : (s.ssl.state = .forming ∧ (s.ssl.lateMark = true ∨ s.bt.formed = true)) ∨ s.ssl.state = .joining) :
    s.take s.me (.join station digest silent) = ((s.bookTake s.me (.join station digest silent)).lateJoinSelf).settle := by
  have booked := keepsTable_bookTake s s.me (.join station digest silent)
  rcases h with ⟨forming, late⟩ | joining
  · rw [take_forming hears forming]
    have late : (s.ssl.lateMark || s.bt.formed) = true := by simpa using late
    simp [State.takeForming, State.joinForming, booked.ssl, booked.bt, bookTake_me, late]
  · rw [take_joining hears joining]
    simp [State.takeJoining, bookTake_me]

end Sys2Proof.Machine

namespace Sys2Proof

open Machine

/-- Settles O24: the record and the digest of `Table.formationJoin_eq`, by the digest that the bay has. -/
theorem formationJoinEntersByDigest : Obligations.FormationJoinEntersByDigest := by
  intro s sender station digest silent hears forming late formed inRoster
  have booked := keepsTable_bookTake s sender (.join station digest silent)
  have kept := keepsInput_take s sender (.join station digest silent)
  have taken : s.take sender (.join station digest silent) =
      ((s.bookTake sender (.join station digest silent)).formationJoin sender digest (sender == s.me)).settle := by
    rw [take_forming hears forming, takeForming_join _ _ _ _ (booked.ssl ▸ late) (booked.bt ▸ formed), bookTake_me]
  have bt : (s.take sender (.join station digest silent)).bt = s.bt.formationJoin sender digest := by
    rw [taken, (sameBay_settle _).bt, ← booked.bt]; rfl
  have ssl : (s.take sender (.join station digest silent)).ssl = { s.ssl with
      joinTaken := s.ssl.joinTaken || (sender == s.me)
      formationWindow := if s.bt.digest = none then some (1000 * s.bay.formationWindow) else s.ssl.formationWindow } := by
    rw [taken, (sameBay_settle _).ssl, ← booked.ssl, ← booked.bt, ← bookTake_bay (n := .join station digest silent)]; rfl
  have record : (s.bt.formationJoin sender digest).rosterAt sender = formationRecord s.bt.digest digest := by
    rw [Table.formationJoin_eq]
    exact Table.rosterAt_setRoster_self _ _ _ inRoster
  have bayDigest : (s.bt.formationJoin sender digest).digest = some (s.bt.digest.getD digest) := by rw [Table.formationJoin_eq]
  refine ⟨_, rfl, ssl ▸ forming, kept.setup, fun q hq => ?_, ?_, fun own => ?_, fun other => ?_, fun first => ?_, fun agrees => ?_,
    fun d bay differs => ?_⟩
  · rw [bt, Table.formationJoin_eq]
    exact Table.rosterAt_setRoster_ne _ _ hq
  · rw [bt, Table.formationJoin_eq]
    exact formed
  · rw [ssl]; simp [own]
  · rw [ssl]; simp [other]
  · rw [bt, ssl, record, bayDigest]
    simp [formationRecord, first]
  · rw [bt, ssl, record, bayDigest]
    simp [formationRecord, agrees]
  · rw [bt, ssl, record, bayDigest]
    simp [formationRecord, bay, differs, RosterRec.empty]

/-- Settles O25, by the late mark, the formed flag, the digest heard and what this station is in the roster. -/
theorem formedTakeClosesFormation : Obligations.FormedTakeClosesFormation := by
  intro s sender hears forming
  have kept := keepsInput_take s sender .formed
  have booked := keepsTable_bookTake s sender .formed
  have taken : s.take sender .formed = ((s.bookTake sender .formed).formedForming).settle := take_forming hears forming
  have bt := (congrArg State.bt taken).trans (sameBay_settle _).bt
  have ssl := (congrArg State.ssl taken).trans (sameBay_settle _).ssl
  have me := bookTake_me (s := s) (sender := sender) (n := .formed)
  have digest := bookTake_digest (s := s) (sender := sender) (n := .formed)
  have bay := bookTake_bay (s := s) (sender := sender) (n := .formed)
  generalize s.bookTake sender .formed = u at *
  have unmarked (h : s.ssl.lateMark = false) : u.ssl.lateMark = false := booked.ssl ▸ h
  have opened (h : s.bt.formed = false) (heard : s.bt.digest ≠ none) : u.bt.formationOpen = true :=
    (formationOpen_iff u.bt).2 (booked.bt ▸ ⟨heard, h⟩)
  have presence {b : Bool} (h : s.bt.isPresent s.me = b) : u.bt.isPresent u.me = b := by rw [booked.bt, me, h]
  refine ⟨s.take sender .formed, rfl, ?_⟩
  rw [bt, ssl]
  refine ⟨kept.setup, kept.pins, formedForming_window u, fun late formed heard => ⟨fun present => ?_,
    fun absent differs => ?_, fun absent agrees => ?_⟩, fun late formed unheard => ?_, fun late formed => ?_, fun late => ?_⟩
  · rw [formedForming_present (unmarked late) (opened formed heard) (presence present), State.enter_bt, State.enter_ssl,
      ← booked.bt, ← bay]
    exact ⟨rfl, rfl, rfl, rfl, rfl, rfl, rfl, rfl⟩
  · rw [formedForming_differs (unmarked late) (opened formed heard) (presence absent) (by rwa [booked.bt, digest])]
    obtain ⟨hbt, -, -, hssl⟩ := refuse_shows { u.windowClosed with bt := u.bt.built u.bay }
    rw [hbt, hssl]
    exact ⟨rfl, rfl⟩
  · rw [formedForming_missed (unmarked late) (opened formed heard) (presence absent) (by rwa [booked.bt, digest])]
    exact ⟨(congrArg Ssl.state booked.ssl).trans forming, rfl, rfl⟩
  · rw [formedForming_unheard (unmarked late) (booked.bt ▸ formed) (booked.bt ▸ unheard), ← booked.bt]
    exact ⟨(congrArg Ssl.state booked.ssl).trans forming, rfl⟩
  · rw [formedForming_again (unmarked late) (booked.bt ▸ formed), ← booked.bt, ← booked.ssl]
    exact ⟨rfl, rfl⟩
  · rw [formedForming_late (booked.ssl ▸ late), ← booked.bt]
    exact ⟨(congrArg Ssl.state booked.ssl).trans forming, rfl⟩

/-- Settles O26: the late mark at a take of another kind, the own JOIN as a late join, and another's JOIN by the late mark. -/
theorem lateStationsJoin : Obligations.LateStationsJoin := by
  refine ⟨fun c s sender n hc hears forming waiting join formed => ?_, fun s station digest silent hears h => ?_,
    fun s sender station digest silent hears forming other => ?_⟩
  · have booked := keepsTable_bookTake s sender n
    have taken : s.take sender n = (s.bookTake sender n).setLateMark.settle := by
      rw [take_forming hears forming, takeForming_other join formed]
      unfold State.otherForming
      rw [if_neg (by rw [booked.ssl, waiting]; exact Bool.false_ne_true)]
    have outside : (s.bookTake sender n).setLateMark.isAttached = false := by
      simp [State.isAttached, booked.ssl, forming]
    have settled := sameBay_settle (s.bookTake sender n).setLateMark
    rw [exec_of_taken c s sender n hc]
    refine ⟨_, rfl, ?_, ?_, (keepsInput_take s sender n).setup, ?_⟩
    · rw [taken, settled.ssl, State.setLateMark_ssl, booked.ssl]
    · rw [taken, settled.bt, State.setLateMark_bt]
    · rw [taken]
      exact (struck_settle outside (Blu.struck_strike _ isOwnFormed) fun _ => rfl).list
  · have booked := keepsTable_bookTake s s.me (.join station digest silent)
    have taken := take_ownJoin station digest silent hears h
    obtain ⟨hbt, hssl⟩ := lateJoinSelf_shows (s.bookTake s.me (.join station digest silent))
    have settled := sameBay_settle (s.bookTake s.me (.join station digest silent)).lateJoinSelf
    refine ⟨s.take s.me (.join station digest silent), rfl, ?_⟩
    have setup := (keepsInput_take s s.me (.join station digest silent)).setup
    rw [taken] at setup ⊢
    rw [settled.bt, settled.ssl, hbt, hssl, bookTake_digest, bookTake_bay]
    exact ⟨rfl, rfl, rfl, rfl, rfl, rfl, rfl, rfl, rfl, rfl, fun q => by rw [rosterAt_joiner]; rfl, setup⟩
  · have booked := keepsTable_bookTake s sender (.join station digest silent)
    have kept := keepsInput_take s sender (.join station digest silent)
    have foreign : sender ≠ (s.bookTake sender (.join station digest silent)).me := by rwa [bookTake_me]
    refine ⟨fun late formed => ⟨s.take sender (.join station digest silent), rfl, ?_⟩,
      fun late => ⟨s.take sender (.join station digest silent), rfl, ?_⟩⟩
    · have taken := (take_forming hears forming).trans
        (congrArg State.settle (takeForming_join_formed station digest silent foreign (booked.ssl ▸ late) (booked.bt ▸ formed)))
      refine ⟨sameOutside_of_keepsInput kept ?_, ?_⟩
      · rw [taken, (sameBay_settle _).ssl, State.modBt_ssl, booked.ssl]
      · rw [taken, (sameBay_settle _).bt, State.modBt_bt, booked.bt]
    · have taken := (take_forming hears forming).trans
        (congrArg State.settle (takeForming_join_late station digest silent foreign (booked.ssl ▸ late)))
      refine ⟨sameOutside_of_keepsInput kept ?_, ?_⟩
      · rw [taken, (sameBay_settle _).ssl, booked.ssl]
      · rw [taken, (sameBay_settle _).bt, booked.bt]

end Sys2Proof
end

section
/-! The notices that are discarded (R26, R56, R72, R73, R79, R81, R82, R95). -/

namespace Sys2Proof.Machine

section
variable (reserve mixers me : Nat) (t : Table) (sender : Nat)

/-- R26: a notice of a sender that is not PRESENT leaves the table as it is. -/
theorem takeOther_of_not_present {sender : Nat} (h : t.isPresent sender = false) (n : Notice) :
    (t.takeOther reserve mixers me sender n).1 = t := by
  cases n <;>
    simp [Table.takeOther, Table.same, Table.leave, Table.claim, Table.withdraw, Table.release, Table.refill, Table.lineOut,
      Table.lineReturn, Table.rushTake, Table.rushDrop, Table.mixClaim, Table.mixWithdraw, Table.mixRelease, Table.mixerReturn,
      Table.revoke, h]

/-- R56: a line notice that names an unequipped line leaves the table as it is. -/
theorem takeOther_of_unequipped {n : Notice} {line : Nat} (named : n.lineNamed = some line) (h : t.unequipped line = true) :
    (t.takeOther reserve mixers me sender n).1 = t := by
  by_cases present : t.isPresent sender = true
  · cases n <;> simp only [Notice.lineNamed, Option.some.injEq, reduceCtorEq] at named <;> subst named <;>
      simp [Table.takeOther, Table.same, Table.claim, Table.withdraw, Table.release, Table.refill, Table.lineOut,
        Table.lineReturn, present, h]
  · exact takeOther_of_not_present _ _ _ _ (by simpa using present) n

/-- R81: a MIX RELEASE of a mixer that is not equipped. -/
theorem mixRelease_of_unequipped {p : Pool} {mixer : Nat} (pool : t.pool = some p) (h : p.recs[mixer]? = none)
    (grant outcome : Nat) : (t.mixRelease me sender mixer grant outcome).1 = t := by
  simp only [Table.mixRelease, pool, h]
  split <;> rfl

/-- R82: a MIXER RETURN of a mixer that is not equipped. -/
theorem mixerReturn_of_unequipped {p : Pool} {mixer : Nat} (pool : t.pool = some p) (h : p.recs[mixer]? = none) :
    (t.mixerReturn sender mixer).1 = t := by
  simp only [Table.mixerReturn, pool, h]
  split <;> rfl

/-- R95: a REVOKE that names a holder or a grant number outside its range, or that matches no holding. -/
theorem revoke_of_no_match {subject : HoldKey} {holder grant : Nat}
    (h : 15 < holder ∨ 255 < grant ∨ t.revokeMatches mixers subject holder grant = false) :
    (t.revoke reserve mixers sender subject holder grant).1 = t := by
  unfold Table.revoke
  split
  · rfl
  · next ok =>
    simp only [Bool.or_eq_true, decide_eq_true_eq, not_or] at ok
    rw [if_neg]
    · rfl
    · simpa using h.resolve_left ok.1.2 |>.resolve_left ok.2

theorem releaseMatches_iff (station grant : Nat) (h : Holder) :
    releaseMatches station grant h = true ↔ h.station = station ∧ h.grant = grant := by
  simp [releaseMatches]

theorem mixerMatches_iff (station grant : Nat) (r : MixRec) :
    mixerMatches station grant r = true ↔ r.state = .held ∧ r.holder = some station ∧ r.grant = grant := by
  simp [mixerMatches, and_assoc]

theorem revokeMatches_unequipped_line {n : Nat} (h : t.unequipped n = true) (holder grant : Nat) :
    t.revokeMatches mixers (.line n) holder grant = false := if_pos h

/-- A line whose record is held is equipped. -/
theorem unequipped_of_line {t : Table} {n : Nat} {r : LineRec} (h : t.line n = some r) : t.unequipped n = false := by
  have := (List.getElem?_eq_some_iff.1 ((line_eq_some_iff t n r).1 h)).1
  simp [Table.unequipped, this]

/-- R95 (b): when a REVOKE of a line matches. -/
theorem revokeMatches_line {n : Nat} {r : LineRec} (h : t.line n = some r) (holder grant : Nat) :
    t.revokeMatches mixers (.line n) holder grant = r.holder.any (releaseMatches holder grant) := by
  simp [Table.revokeMatches, unequipped_of_line h, h]

theorem revokeMatches_unequipped_mixer {m : Nat} (h : mixers ≤ m) (holder grant : Nat) :
    t.revokeMatches mixers (.mixer m) holder grant = false := if_pos h

/-- R95 (c): when a REVOKE of a mixer matches. -/
theorem revokeMatches_mixer {m : Nat} {p : Pool} {r : MixRec} (pool : t.pool = some p) (h : p.recs[m]? = some r)
    (equipped : m < mixers) (holder grant : Nat) :
    t.revokeMatches mixers (.mixer m) holder grant = mixerMatches holder grant r := by
  simp [Table.revokeMatches, pool, h, equipped]

end

/-- A notice discarded at a station that stands in the bay, its sender a member: the count alone advances. -/
theorem exec_discarded {c : Instr} {s : State} {sender : Nat} {n : Notice} (hc : c.taken = some (sender, n))
    (member : s.member = true) (kind : 5 ≤ noticeKind n) (hs : (s.bt.rosterAt sender).state ≠ .absent)
    (leave : n = .leave → s.bt.isPresent sender = false)
    (discarded : (s.bt.takeOther s.bay.reserve s.bay.mixersEquipped s.me sender n).1 = s.bt) :
    ∃ t, exec c s = .next t ∧ t.bt = s.bt.counted ∧ s.sameOutside t := by
  refine ⟨_, exec_of_taken c s sender n hc, take_discarded s sender n member kind hs ?_ discarded⟩
  rintro ⟨rfl, hn⟩
  have := leave hn
  rw [(s.member_iff.1 member).2.2] at this
  cases this

end Sys2Proof.Machine

namespace Sys2Proof

open Machine

/-- Settles O12: the table's rule of each discarded notice leaves the table as it is, and the take is then counted alone. -/
theorem noticesOfNonMembersOrUnequippedSubjectsAreDiscarded :
    Obligations.NoticesOfNonMembersOrUnequippedSubjectsAreDiscarded := by
  refine ⟨fun c s sender line n hc named member hs h => ?_, fun c s sender n hc kind member joining => ?_,
    fun s sender mixer grant outcome p member present pool unequipped => ⟨?_, ?_⟩,
    fun s sender holder grant n member present h => ?_, fun s sender holder grant m member present h => ?_⟩
  · have kind : 5 ≤ noticeKind n := by cases n <;> simp [Notice.lineNamed, noticeKind] at named ⊢
    refine exec_discarded hc member kind hs (by rintro rfl; cases named) ?_
    rcases h with h | h
    · exact takeOther_of_unequipped _ _ _ _ _ named h
    · exact takeOther_of_not_present _ _ _ _ h n
  · have absent := Table.isPresent_of_joining joining
    exact exec_discarded hc member kind (by rw [joining]; decide) (fun _ => absent) (takeOther_of_not_present _ _ _ _ absent n)
  · exact exec_discarded rfl member (by simp [noticeKind]) (Table.not_absent_of_isPresent present) nofun
      (mixRelease_of_unequipped _ _ _ pool unequipped grant outcome)
  · exact exec_discarded rfl member (by simp [noticeKind]) (Table.not_absent_of_isPresent present) nofun
      (mixerReturn_of_unequipped _ _ pool unequipped)
  · refine exec_discarded rfl member (by simp [noticeKind]) (Table.not_absent_of_isPresent present) nofun
      (revoke_of_no_match _ _ _ _ ?_)
    rcases h with unequipped | h | h | ⟨r, hr, differs⟩
    · exact .inr (.inr (revokeMatches_unequipped_line _ _ unequipped _ _))
    · exact .inl h
    · exact .inr (.inl h)
    · refine .inr (.inr ?_)
      rw [revokeMatches_line _ _ hr, Option.any_eq_false]
      intro x hx
      rw [← Bool.not_eq_true, releaseMatches_iff]
      exact fun ⟨hs, hg⟩ => (differs x hx).elim (· hs) (· hg)
  · refine exec_discarded rfl member (by simp [noticeKind]) (Table.not_absent_of_isPresent present) nofun
      (revoke_of_no_match _ _ _ _ ?_)
    rcases h with unequipped | h | h | ⟨p, r, pool, hr, differs⟩
    · exact .inr (.inr (revokeMatches_unequipped_mixer _ _ unequipped _ _))
    · exact .inl h
    · exact .inr (.inl h)
    · by_cases equipped : m < s.bay.mixersEquipped
      · refine .inr (.inr ?_)
        rw [revokeMatches_mixer _ _ pool hr equipped, ← Bool.not_eq_true, mixerMatches_iff]
        exact fun ⟨held, hh, hg⟩ => differs.elim (· held) fun d => d.elim (· hh) (· hg)
      · exact .inr (.inr (revokeMatches_unequipped_mixer _ _ (Nat.le_of_not_lt equipped) _ _))

end Sys2Proof
end

section
/-! SUPPORT. What the order book makes as the station leaves the bay (R40, R142, R144, R147, R148, R154): order by order, the
places, the request, the run lines, and nothing of the outgoing list. -/

namespace Sys2Proof.Machine

/-! ### One order -/

/-- R144 (c), R147, R148: an order as its station leaves the bay. -/
def Order.leaving (o : Order) : Order :=
  match o.stage with
  | .tint => { o with stopping := some (o.stopping.getD .detached) }
  | .mixWait => { o with mixClaimOffered := false }
  | .mixing => { o with stage := .done, outcome := some .mixIncomplete, reason := some .detached, mixClaimOffered := false }
  | _ => o

/-- R154: an order in another stage is as it was. -/
theorem Order.leaving_of_other {o : Order} (tint : o.stage ≠ .tint) (mixWait : o.stage ≠ .mixWait) (mixing : o.stage ≠ .mixing) :
    o.leaving = o := by
  unfold Order.leaving
  split
  · next h => exact absurd h tint
  · next h => exact absurd h mixWait
  · next h => exact absurd h mixing
  · rfl

/-- R148: the run line of the order in a slot is dropped, where it has raised one. -/
def State.dropRaised (s : State) (o : Order) : State :=
  if o.runRaised then (match o.mixerUsed with | some m => s.dropRun m | none => s) else s

@[simp] theorem State.dropRun_obu (s : State) (m : Nat) : (s.dropRun m).obu = s.obu := by
  unfold State.dropRun; split <;> rfl

@[simp] theorem State.dropRaised_obu (s : State) (o : Order) : (s.dropRaised o).obu = s.obu := by
  unfold State.dropRaised
  repeat' split
  · exact State.dropRun_obu s _
  all_goals rfl

@[simp] theorem State.dropRaised_blu (s : State) (o : Order) : (s.dropRaised o).blu = s.blu := by
  unfold State.dropRaised
  repeat' split
  · exact State.dropRun_blu s _
  all_goals rfl

theorem State.stageAt_eq_some_iff (s : State) (slot : Nat) (st : Stage) :
    s.stageAt slot = some st ↔ ∃ o, s.order slot = some o ∧ o.stage = st := by
  simp [State.stageAt, Option.map_eq_some_iff]

/-- R148: an order in MIXING ends. -/
theorem leaveOrder_mixing {s : State} {slot : Nat} {o : Order} (h : s.order slot = some o) (st : o.stage = .mixing) :
    s.leaveOrder slot = (s.dropRaised o).finish slot .mixIncomplete .detached := by
  unfold State.leaveOrder
  rw [h]
  simp only [st]
  rfl

/-- R154: an order that is not in MIXING stays in its place. -/
theorem leaveOrder_stays {s : State} {slot : Nat} (h : s.stageAt slot ≠ some .mixing) :
    s.leaveOrder slot = s.modOrder slot Order.leaving ∨ (s.leaveOrder slot = s ∧ (s.order slot).map Order.leaving = s.order slot) := by
  unfold State.leaveOrder
  cases ho : s.order slot with
  | none => exact .inr ⟨rfl, rfl⟩
  | some o =>
    have key : ∀ f : Order → Order, f o = o.leaving → s.modOrder slot f = s.modOrder slot Order.leaving := fun f hf => by
      rw [s.modOrder_eq_set slot o f ho, s.modOrder_eq_set slot o _ ho, hf]
    simp only
    split
    · next st => exact .inl (key _ (by simp only [Order.leaving, st]))
    · next st => exact .inl (key _ (by simp only [Order.leaving, st]))
    · next st => exact absurd ((s.stageAt_eq_some_iff slot _).2 ⟨o, ho, st⟩) h
    · next tint mixWait mixing =>
      refine .inr ⟨rfl, ?_⟩
      rw [Option.map_some, Order.leaving]
      split <;> first | rfl | contradiction

theorem finish_order (s : State) (slot j : Nat) (oc : OrderOutcome) (r : OrderReason) :
    (s.finish slot oc r).order j = if j = slot then (s.order j).map fun o =>
      { o with stage := .done, outcome := some oc, reason := some r, mixClaimOffered := false } else s.order j := by
  unfold State.finish
  rw [dropToken_eq]
  split
  · next h => subst h; exact order_modOrder_self _ j _
  · next h => exact order_modOrder_ne _ slot j _ h

/-- R154: the order in a slot as the station leaves, and every other as it was. -/
theorem leaveOrder_order (s : State) (slot j : Nat) :
    (s.leaveOrder slot).order j = if j = slot then (s.order j).map Order.leaving else s.order j := by
  by_cases mixing : s.stageAt slot = some .mixing
  · obtain ⟨o, ho, st⟩ := (s.stageAt_eq_some_iff slot _).1 mixing
    have raised : ∀ j, (s.dropRaised o).order j = s.order j := fun j => by simp [State.order]
    rw [leaveOrder_mixing ho st, finish_order, raised]
    split
    · next h => rw [h, ho, Option.map_some, Option.map_some]; simp only [Order.leaving, st]
    · rfl
  · rcases leaveOrder_stays mixing with e | ⟨e, same⟩
    · rw [e]
      split
      · next h => subst h; exact order_modOrder_self _ _ _
      · next h => exact order_modOrder_ne _ _ _ _ h
    · rw [e]
      split
      · next h => rw [h, same]
      · rfl

section
variable (s : State) (slot : Nat)

/-- R147 to R150: the cradle is freed by an order that ends. -/
theorem leaveOrder_cradle : (s.leaveOrder slot).obu.cradle =
    if s.stageAt slot = some .mixing then releasePlace slot s.obu.cradle else s.obu.cradle := by
  split
  · next mixing =>
    obtain ⟨o, ho, st⟩ := (s.stageAt_eq_some_iff slot _).1 mixing
    rw [leaveOrder_mixing ho st]
    unfold State.finish
    rw [dropToken_eq]
    show releasePlace slot (s.dropRaised o).obu.cradle = _
    rw [State.dropRaised_obu]
  · next stays => rcases leaveOrder_stays stays with e | ⟨e, _⟩ <;> rw [e]; rfl

theorem leaveOrder_outfeed : (s.leaveOrder slot).obu.outfeed =
    if s.stageAt slot = some .mixing then releasePlace slot s.obu.outfeed else s.obu.outfeed := by
  split
  · next mixing =>
    obtain ⟨o, ho, st⟩ := (s.stageAt_eq_some_iff slot _).1 mixing
    rw [leaveOrder_mixing ho st]
    unfold State.finish
    rw [dropToken_eq]
    show releasePlace slot (s.dropRaised o).obu.outfeed = _
    rw [State.dropRaised_obu]
  · next stays => rcases leaveOrder_stays stays with e | ⟨e, _⟩ <;> rw [e]; rfl

theorem leaveOrder_doneOrder : (s.leaveOrder slot).obu.doneOrder =
    if s.stageAt slot = some .mixing then s.obu.doneOrder ++ [slot] else s.obu.doneOrder := by
  split
  · next mixing =>
    obtain ⟨o, ho, st⟩ := (s.stageAt_eq_some_iff slot _).1 mixing
    rw [leaveOrder_mixing ho st]
    unfold State.finish
    rw [dropToken_eq]
    show (s.dropRaised o).obu.doneOrder ++ [slot] = _
    rw [State.dropRaised_obu]
  · next stays => rcases leaveOrder_stays stays with e | ⟨e, _⟩ <;> rw [e]; rfl

variable {s}

/-- R142: with no token request an order that ends offers nothing. -/
theorem leaveOrder_quiet (h : s.obu.request = .absent) :
    (s.leaveOrder slot).obu.request = .absent ∧ (s.leaveOrder slot).blu = s.blu := by
  by_cases mixing : s.stageAt slot = some .mixing
  · obtain ⟨o, ho, st⟩ := (s.stageAt_eq_some_iff slot _).1 mixing
    rw [leaveOrder_mixing ho st]
    unfold State.finish
    rw [dropToken_eq]
    show TokenRequest.without (s.dropRaised o).obu.request slot = _
      ∧ Blu.tokenBack (s.dropRaised o).blu (s.dropRaised o).obu.request slot = _
    rw [State.dropRaised_obu, State.dropRaised_blu, h]
    exact ⟨rfl, rfl⟩
  · rcases leaveOrder_stays mixing with e | ⟨e, _⟩ <;> rw [e] <;> exact ⟨h, rfl⟩

end

/-! ### The run lines -/

theorem run_dropRun (s : State) (m j : Nat) : (s.dropRun m).run j = if j = m ∧ (s.run m).phase ≠ .idle then RunRec.rest else s.run j := by
  unfold State.dropRun
  by_cases idle : (s.run m).phase = .idle
  · rw [if_pos idle, if_neg (fun h => h.2 idle)]
  · rw [if_neg idle]
    have inRange : m < s.pdu.runs.length := by
      by_contra h
      exact idle (by simp [State.run, List.getD_eq_getElem?_getD, Nat.le_of_not_lt h, RunRec.reset])
    by_cases h : j = m
    · rw [if_pos ⟨h, idle⟩, h]
      exact State.run_modRun_self s m _ inRange
    · rw [if_neg (fun e => h e.1)]
      exact getD_modify_ne _ _ _ _ _ (Ne.symm h)

theorem finish_run (s : State) (slot j : Nat) (oc : OrderOutcome) (r : OrderReason) : (s.finish slot oc r).run j = s.run j := by
  unfold State.finish
  rw [dropToken_eq]
  rfl

/-- R164 (e): as an order leaves, a run record stands or is at rest. -/
theorem leaveOrder_run (s : State) (slot m : Nat) :
    (s.leaveOrder slot).run m = s.run m ∨ (s.leaveOrder slot).run m = RunRec.rest := by
  by_cases mixing : s.stageAt slot = some .mixing
  · obtain ⟨o, ho, st⟩ := (s.stageAt_eq_some_iff slot _).1 mixing
    rw [leaveOrder_mixing ho st, finish_run]
    unfold State.dropRaised
    repeat' split
    · rw [run_dropRun]
      split
      · exact .inr rfl
      · exact .inl rfl
    all_goals exact .inl rfl
  · rcases leaveOrder_stays mixing with e | ⟨e, _⟩ <;> rw [e] <;> exact .inl rfl

/-- R148: the run line that an order in MIXING has raised is dropped. -/
theorem leaveOrder_run_raised {s : State} {slot m : Nat} {o : Order} (ho : s.order slot = some o) (st : o.stage = .mixing)
    (raised : o.runRaised = true) (used : o.mixerUsed = some m) (runs : (s.run m).phase ≠ .idle) :
    (s.leaveOrder slot).run m = RunRec.rest := by
  rw [leaveOrder_mixing ho st, finish_run]
  simp only [State.dropRaised, raised, used, if_true]
  rw [run_dropRun, if_pos ⟨rfl, runs⟩]

/-! ### The slots in order -/

/-- R154: the orders of the first `n` slots as the station leaves. -/
def State.leaveOrders (s : State) (n : Nat) : State := (List.range n).foldl State.leaveOrder s

theorem leaveOrders_succ (s : State) (n : Nat) : s.leaveOrders (n + 1) = (s.leaveOrders n).leaveOrder n := by
  simp [State.leaveOrders, List.range_succ]

section
variable (s : State)

theorem leaveOrders_order (n j : Nat) :
    (s.leaveOrders n).order j = if j < n then (s.order j).map Order.leaving else s.order j := by
  induction n with
  | zero => rfl
  | succ n ih =>
    rw [leaveOrders_succ, leaveOrder_order, ih]
    by_cases h : j = n
    · simp [h]
    · simp [h, show j < n + 1 ↔ j < n by omega]

/-- The order that is up is as it was when the station began to leave. -/
theorem leaveOrders_stageAt (n : Nat) : (s.leaveOrders n).stageAt n = s.stageAt n := by
  unfold State.stageAt
  rw [leaveOrders_order, if_neg (Nat.lt_irrefl n)]

/-- Whether the order of a slot below `n` ends as the station leaves. -/
def State.endsBelow (n slot : Nat) : Bool := slot < n && s.stageAt slot == some .mixing

theorem endsBelow_succ (n slot : Nat) :
    s.endsBelow (n + 1) slot = (s.endsBelow n slot || (slot == n && s.stageAt n == some .mixing)) := by
  unfold State.endsBelow
  rcases Nat.lt_trichotomy slot n with h | h | h
  · simp [h, Nat.lt_succ_of_lt h, Nat.ne_of_lt h]
  · simp [h]
  · simp [show ¬ slot < n by omega, show ¬ slot < n + 1 by omega, show slot ≠ n by omega]

theorem filter_endsBelow_zero (place : Option Nat) : (place.filter fun slot => !s.endsBelow 0 slot) = place := by
  cases place <;> simp [State.endsBelow]

/-- A place freed by one order more. -/
theorem filter_endsBelow_succ (n : Nat) (place : Option Nat) :
    place.filter (fun slot => !s.endsBelow (n + 1) slot) =
      if s.stageAt n = some .mixing then releasePlace n (place.filter fun slot => !s.endsBelow n slot)
      else place.filter fun slot => !s.endsBelow n slot := by
  cases place with
  | none => simp [releasePlace]
  | some slot =>
    simp only [Option.filter_some, endsBelow_succ]
    by_cases mixing : s.stageAt n = some .mixing <;> by_cases h : slot = n <;> cases he : s.endsBelow n slot <;>
      simp [releasePlace, mixing, h]

theorem leaveOrders_cradle (n : Nat) : (s.leaveOrders n).obu.cradle = s.obu.cradle.filter fun slot => !s.endsBelow n slot := by
  induction n with
  | zero => exact (filter_endsBelow_zero s _).symm
  | succ n ih => rw [leaveOrders_succ, leaveOrder_cradle, leaveOrders_stageAt, ih, filter_endsBelow_succ]

theorem leaveOrders_outfeed (n : Nat) :
    (s.leaveOrders n).obu.outfeed = s.obu.outfeed.filter fun slot => !s.endsBelow n slot := by
  induction n with
  | zero => exact (filter_endsBelow_zero s _).symm
  | succ n ih => rw [leaveOrders_succ, leaveOrder_outfeed, leaveOrders_stageAt, ih, filter_endsBelow_succ]

theorem leaveOrders_done {n slot : Nat} (h : s.endsBelow n slot = true) : slot ∈ (s.leaveOrders n).obu.doneOrder := by
  induction n with
  | zero => simp [State.endsBelow] at h
  | succ n ih =>
    rw [leaveOrders_succ, leaveOrder_doneOrder, leaveOrders_stageAt]
    rw [endsBelow_succ, Bool.or_eq_true, Bool.and_eq_true, beq_iff_eq, beq_iff_eq] at h
    rcases h with h | ⟨rfl, mixing⟩
    · split
      · exact List.mem_append_left _ (ih h)
      · exact ih h
    · rw [if_pos mixing]; exact List.mem_append_right _ List.mem_cons_self

variable {s}

theorem leaveOrders_quiet (h : s.obu.request = .absent) (n : Nat) :
    (s.leaveOrders n).obu.request = .absent ∧ (s.leaveOrders n).blu = s.blu := by
  induction n with
  | zero => exact ⟨h, rfl⟩
  | succ n ih =>
    rw [leaveOrders_succ]
    obtain ⟨request, blu⟩ := leaveOrder_quiet n ih.1
    exact ⟨request, blu.trans ih.2⟩

theorem leaveOrders_run_rest {n m : Nat} (h : s.run m = RunRec.rest) : (s.leaveOrders n).run m = RunRec.rest := by
  induction n with
  | zero => exact h
  | succ n ih =>
    rw [leaveOrders_succ]
    exact (leaveOrder_run _ n m).elim (·.trans ih) id

/-- R148: of the orders that end each drops the run line it has raised. -/
theorem leaveOrders_run_raised {n slot m : Nat} {o : Order} (below : slot < n) (ho : s.order slot = some o)
    (st : o.stage = .mixing) (raised : o.runRaised = true) (used : o.mixerUsed = some m) (runs : (s.run m).phase ≠ .idle) :
    (s.leaveOrders n).run m = RunRec.rest := by
  have stands : ∀ n, (s.leaveOrders n).run m = s.run m ∨ (s.leaveOrders n).run m = RunRec.rest := fun n => by
    induction n with
    | zero => exact .inl rfl
    | succ n ih =>
      rw [leaveOrders_succ]
      rcases leaveOrder_run (s.leaveOrders n) n m with e | e
      · rw [e]; exact ih
      · exact .inr e
  induction n with
  | zero => cases below
  | succ n ih =>
    rw [leaveOrders_succ]
    rcases Nat.lt_succ_iff_lt_or_eq.1 below with h | rfl
    · exact (leaveOrder_run _ n m).elim (·.trans (ih h)) id
    · rcases stands slot with e | e
      · refine leaveOrder_run_raised ?_ st raised used (e ▸ runs)
        rw [leaveOrders_order, if_neg (Nat.lt_irrefl slot), ho]
      · exact (leaveOrder_run _ slot m).elim (·.trans e) id

end

/-! ### The request -/

/-- R142: an order whose request was still to be told, once that is refused. -/
def Order.requestLost (r : TokenRequest) (slot : Nat) (o : Order) : Order :=
  if r = .requested slot ∧ o.rushResult = .pending then { o with rushResult := .refused } else o

theorem requestLost_other {r : TokenRequest} {slot : Nat} (h : r ≠ .requested slot) : Order.requestLost r slot = id := by
  funext o
  exact if_neg fun e => h e.1

theorem requestLost_requested (slot : Nat) : Order.requestLost (.requested slot) slot =
    fun o => if o.rushResult = .pending then { o with rushResult := .refused } else o := by
  funext o
  simp [Order.requestLost]

theorem loseRequest_order (s : State) (slot : Nat) :
    s.loseRequest.order slot = (s.order slot).map (Order.requestLost s.obu.request slot) := by
  unfold State.loseRequest
  split
  · next h => rw [h, requestLost_other (by simp), Option.map_id_apply]
  · next h => rw [h, requestLost_other (by simp), Option.map_id_apply]; rfl
  · next h => rw [h, requestLost_other (by simp), Option.map_id_apply]; rfl
  · next j h =>
    rw [h]
    by_cases hj : slot = j
    · subst hj
      rw [order_modOrder_self, requestLost_requested]
      rfl
    · rw [order_modOrder_ne _ _ _ _ hj, requestLost_other (by simpa using Ne.symm hj), Option.map_id_apply]
      rfl

theorem loseRequest_stageAt (s : State) (slot : Nat) : s.loseRequest.stageAt slot = s.stageAt slot := by
  unfold State.stageAt
  rw [loseRequest_order, Option.map_map]
  congr 1
  funext o
  simp only [Function.comp, Order.requestLost]
  split <;> rfl

theorem loseRequest_places (s : State) : s.loseRequest.obu.request = .absent ∧ s.loseRequest.obu.cradle = s.obu.cradle
    ∧ s.loseRequest.obu.outfeed = s.obu.outfeed ∧ s.loseRequest.pdu = s.pdu := by
  unfold State.loseRequest
  split
  · next h => exact ⟨h, rfl, rfl, rfl⟩
  all_goals exact ⟨rfl, rfl, rfl, rfl⟩

/-! ### The order book -/

theorem leaveBook_eq (s : State) : s.leaveBook = s.loseRequest.leaveOrders 8 := rfl

/-- R142: a station that leaves has no token request, and its order book offers nothing. -/
theorem leaveBook_quiet (s : State) : s.leaveBook.obu.request = .absent ∧ s.leaveBook.blu = s.blu := by
  rw [leaveBook_eq]
  obtain ⟨request, blu⟩ := leaveOrders_quiet (loseRequest_places s).1 8
  exact ⟨request, blu.trans s.loseRequest_blu⟩

theorem leaveBook_order (s : State) {slot : Nat} (h : slot < 8) :
    s.leaveBook.order slot = (s.order slot).map fun o => (o.requestLost s.obu.request slot).leaving := by
  rw [leaveBook_eq, leaveOrders_order, if_pos h, loseRequest_order, Option.map_map]
  rfl

theorem loseRequest_endsBelow (s : State) (n slot : Nat) : s.loseRequest.endsBelow n slot = s.endsBelow n slot := by
  unfold State.endsBelow
  rw [loseRequest_stageAt]

theorem leaveBook_cradle (s : State) : s.leaveBook.obu.cradle = s.obu.cradle.filter fun slot => !s.endsBelow 8 slot := by
  rw [leaveBook_eq, leaveOrders_cradle, (loseRequest_places s).2.1]
  simp only [loseRequest_endsBelow]

theorem leaveBook_outfeed (s : State) : s.leaveBook.obu.outfeed = s.obu.outfeed.filter fun slot => !s.endsBelow 8 slot := by
  rw [leaveBook_eq, leaveOrders_outfeed, (loseRequest_places s).2.2.1]
  simp only [loseRequest_endsBelow]

end Sys2Proof.Machine
end

section
/-! SUPPORT. The channels, the order book and the whole station as it leaves the bay (R38, R40, R121), and settling outside the bay,
which touches neither channels nor an absent token request. -/

namespace Sys2Proof.Machine

/-! ### Channels with their pairs -/

/-- R103, R123: four channels and four pairs that agree. -/
structure State.Coupled (s : State) : Prop where
  channels : s.dcs.length = 4
  pairs : s.mps.length = 4
  agree : ∀ k, k < 4 → coupled (s.dc k) (s.mp k) = true
  lawful : ∀ k, k < 4 → (s.mp k).lawful = true

theorem coupled_of_dosingLawful {s : State} (h : s.dosingLawful = true) (pairs : ∀ k, k < 4 → (s.mp k).lawful = true) :
    s.Coupled := by
  simp only [State.dosingLawful, Bool.and_eq_true, beq_iff_eq, List.all_eq_true, List.mem_range] at h
  obtain ⟨⟨hd, hm⟩, agree⟩ := h
  exact ⟨hd, hm, fun k hk => (agree k hk).1, pairs⟩

/-- R121: what a channel that has no part in the bay may be: IDLE, or draining its last shot, its valve closed. -/
def leftBay (c : Channel) (p : Pair) : Prop :=
  p.valve = false ∧ (c.state = .idle ∨ (c.state = .shooting ∧ p.phase = .drain))

/-- Channel `k` and its pair have become these, and every other channel and pair stands. -/
structure OneChannel (s t : State) (k : Nat) (c : Channel) (p : Pair) : Prop where
  channels : t.dcs = s.dcs.modify k fun _ => c
  pairs : t.mps = s.mps.modify k fun _ => p

section
variable {s t : State} {k : Nat} {c : Channel} {p : Pair} (one : OneChannel s t k c p)
include one

theorem OneChannel.dc_ne {j : Nat} (h : k ≠ j) : t.dc j = s.dc j := by
  unfold State.dc; rw [one.channels, getD_modify_ne _ _ _ _ _ h]

theorem OneChannel.mp_ne {j : Nat} (h : k ≠ j) : t.mp j = s.mp j := by
  unfold State.mp; rw [one.pairs, getD_modify_ne _ _ _ _ _ h]

variable (h : s.Coupled) (hk : k < 4)
include h hk

theorem OneChannel.dc_self : t.dc k = c := by
  unfold State.dc; rw [one.channels, getD_modify_self _ _ _ _ (h.channels ▸ hk)]

theorem OneChannel.mp_self : t.mp k = p := by
  unfold State.mp; rw [one.pairs, getD_modify_self _ _ _ _ (h.pairs ▸ hk)]

theorem OneChannel.coupled (agree : coupled c p = true) (lawful : p.lawful = true) : t.Coupled where
  channels := by rw [one.channels, List.length_modify, h.channels]
  pairs := by rw [one.pairs, List.length_modify, h.pairs]
  agree j hj := by
    by_cases e : k = j
    · subst e; rw [one.dc_self h hk, one.mp_self h hk]; exact agree
    · rw [one.dc_ne e, one.mp_ne e]; exact h.agree j hj
  lawful j hj := by
    by_cases e : k = j
    · subst e; rw [one.mp_self h hk]; exact lawful
    · rw [one.mp_ne e]; exact h.lawful j hj

end

/-- Changing one element that is known is setting it. -/
theorem modify_const {α : Type} (l : List α) (k : Nat) (f : α → α) (d : α) (h : k < l.length) :
    l.modify k f = l.modify k fun _ => f (l.getD k d) := by
  rw [modify_eq_set_getD l k f d h, modify_eq_set_getD l k _ d h]

section
variable {s : State} {k : Nat} (h : s.Coupled) (hk : k < 4)
include h hk

/-- R104, R124: after a report the channel is IDLE and its pair at rest. -/
theorem oneChannel_writeReport (o : EntryOutcome) :
    OneChannel s (s.writeReport k o) k Channel.idle (s.mp k).standDown.unbind where
  channels := rfl
  pairs := modify_const s.mps k _ Pair.reset (h.pairs ▸ hk)

/-- R121, R137: a channel that is SHOOTING drains. -/
theorem oneChannel_leaveChannel_shooting (st : (s.dc k).state = .shooting) :
    OneChannel s (s.leaveChannel k) k { s.dc k with stopCause := .detached } ((s.mp k).cut false) := by
  unfold State.leaveChannel
  rw [st]
  exact ⟨modify_const s.dcs k _ Channel.idle (h.channels ▸ hk), modify_const s.mps k _ Pair.reset (h.pairs ▸ hk)⟩

theorem oneChannel_leaveChannel_settling (st : (s.dc k).state = .settling) :
    OneChannel s (s.leaveChannel k) k Channel.idle (s.mp k).standDown.standDown.unbind := by
  unfold State.leaveChannel
  rw [st]
  have standing : ((s.modMp k Pair.standDown).mp k) = (s.mp k).standDown := s.mp_modMp_self k _ (h.pairs ▸ hk)
  refine ⟨rfl, ?_⟩
  rw [← standing]
  refine (modify_const (s.mps.modify k Pair.standDown) k _ Pair.reset (by rw [List.length_modify, h.pairs]; exact hk)).trans ?_
  rw [List.modify_modify_eq]
  rfl

/-- R131: a cut drains what is shooting. -/
theorem cut_of_shooting (st : (s.dc k).state = .shooting) :
    (s.mp k).cut false = { s.mp k with valve := false, valveTimer := none, phase := .drain } := by
  have agree := h.agree k hk
  simp only [coupled, st, Bool.or_eq_true, beq_iff_eq] at agree
  rcases agree with (e | e) | e <;> simp [Pair.cut, e]

theorem lawful_cut_of_shooting (st : (s.dc k).state = .shooting) : ((s.mp k).cut false).lawful = true := by
  have agree := h.agree k hk
  have lawful := h.lawful k hk
  simp only [coupled, st, Bool.or_eq_true, beq_iff_eq] at agree
  rw [cut_of_shooting h hk st]
  rcases agree with (e | e) | e <;> simp_all [Pair.lawful]

/-- R121: every channel that leaves the bay is IDLE or drains. -/
theorem leaveChannel_leaves : ∃ c p, OneChannel s (s.leaveChannel k) k c p ∧ coupled c p = true ∧ p.lawful = true ∧ leftBay c p := by
  have reported : ∃ c p, OneChannel s (s.report k (.failed .detached)) k c p ∧ coupled c p = true ∧ p.lawful = true ∧ leftBay c p :=
    ⟨_, _, oneChannel_writeReport h hk _, rfl, rfl, rfl, .inl rfl⟩
  have agree := h.agree k hk
  cases st : (s.dc k).state
  case idle =>
    have stays : s.leaveChannel k = s := by unfold State.leaveChannel; rw [st]
    refine ⟨s.dc k, s.mp k, ?_, agree, h.lawful k hk, ?_, .inl st⟩
    · rw [stays]
      have same {α : Type} (l : List α) (d : α) (hl : k < l.length) : l = l.modify k fun _ => l.getD k d := by
        exact (List.modify_id k l).symm.trans (modify_const l k id d hl)
      exact ⟨same s.dcs _ (h.channels ▸ hk), same s.mps _ (h.pairs ▸ hk)⟩
    · have lawful := h.lawful k hk
      simp only [coupled, st, beq_iff_eq] at agree
      simp_all [Pair.lawful]
  case shooting =>
    have cut := cut_of_shooting h hk st
    refine ⟨_, _, oneChannel_leaveChannel_shooting h hk st, ?_, lawful_cut_of_shooting h hk st, by rw [cut], .inr ⟨st, by rw [cut]⟩⟩
    rw [cut]
    simp [coupled, st]
  case settling => exact ⟨_, _, oneChannel_leaveChannel_settling h hk st, rfl, rfl, rfl, .inl rfl⟩
  all_goals
    have e : s.leaveChannel k = s.report k (.failed .detached) := by unfold State.leaveChannel; rw [st]
    exact e ▸ reported

end

/-- The channels of the station once the lowest `n` have left the bay. -/
def State.leaveChannels (s : State) (n : Nat) : State := (List.range n).foldl State.leaveChannel s

/-- R121: a station that leaves the bay works no line. -/
theorem leaveChannels_left {s : State} (h : s.Coupled) : ∀ n, n ≤ 4 →
    (s.leaveChannels n).Coupled ∧ ∀ k, k < n → leftBay ((s.leaveChannels n).dc k) ((s.leaveChannels n).mp k)
  | 0, _ => ⟨h, fun k hk => absurd hk (Nat.not_lt_zero k)⟩
  | n + 1, hn => by
    have step : s.leaveChannels (n + 1) = (s.leaveChannels n).leaveChannel n := by
      simp [State.leaveChannels, List.range_succ]
    obtain ⟨coupled, left⟩ := leaveChannels_left h n (Nat.le_of_succ_le hn)
    obtain ⟨c, p, one, agree, lawful, gone⟩ := leaveChannel_leaves coupled hn
    rw [step]
    refine ⟨one.coupled coupled hn agree lawful, fun k hk => ?_⟩
    rcases Nat.lt_succ_iff_lt_or_eq.1 hk with hk | rfl
    · rw [one.dc_ne (Nat.ne_of_gt hk), one.mp_ne (Nat.ne_of_gt hk)]; exact left k hk
    · rw [one.dc_self coupled hn, one.mp_self coupled hn]; exact gone

/-- What a take books keeps channels and pairs in agreement: of the channels none but one whose CLAIM is struck may report. -/
theorem coupled_bookTake {s : State} (h : s.Coupled) (sender : Nat) (n : Notice) : (s.bookTake sender n).Coupled := by
  have told : ∀ e, ({ s with blu := s.blu.backToWaiting false } : State).struckTell e |>.Coupled := fun e => by
    have h' : State.Coupled { s with blu := s.blu.backToWaiting false } := ⟨h.channels, h.pairs, h.agree, h.lawful⟩
    unfold State.struckTell
    repeat' split
    · next k _ _ claims =>
      have claiming : (s.dc k).state = .claiming := by
        simp only [Bool.and_eq_true, beq_iff_eq] at claims
        exact claims.1.2
      have hk : k < 4 := by
        by_contra hk
        rw [State.dc, List.getD_eq_getElem?_getD, List.getElem?_eq_none (by rw [h.channels]; omega)] at claiming
        cases claiming
      exact (oneChannel_writeReport h' hk _).coupled h' hk rfl rfl
    all_goals exact h'
  unfold State.bookTake State.backToWaiting
  repeat' split
  · exact ⟨h.channels, h.pairs, h.agree, h.lawful⟩
  · exact ⟨h.channels, h.pairs, h.agree, h.lawful⟩
  · next e _ => exact ⟨(told e).channels, (told e).pairs, (told e).agree, (told e).lawful⟩

/-! ### The channels leave the order book as it is, but for the results -/

/-- An order without its results. -/
def Order.unreported (o : Order) : Order := { o with results := [] }

/-- From `s` to `t` nothing outside the channels has changed but results of the orders. -/
structure ResultsOnly (s t : State) : Prop where
  blu : t.blu = s.blu
  tlu : t.tlu = s.tlu
  request : t.obu.request = s.obu.request
  cradle : t.obu.cradle = s.obu.cradle
  outfeed : t.obu.outfeed = s.obu.outfeed
  doneOrder : t.obu.doneOrder = s.obu.doneOrder
  orders : ∀ slot, (t.order slot).map Order.unreported = (s.order slot).map Order.unreported

theorem ResultsOnly.refl (s : State) : ResultsOnly s s := ⟨rfl, rfl, rfl, rfl, rfl, rfl, fun _ => rfl⟩

theorem ResultsOnly.trans {s t u : State} (h : ResultsOnly s t) (g : ResultsOnly t u) : ResultsOnly s u :=
  ⟨g.blu.trans h.blu, g.tlu.trans h.tlu, g.request.trans h.request, g.cradle.trans h.cradle, g.outfeed.trans h.outfeed,
    g.doneOrder.trans h.doneOrder, fun slot => (g.orders slot).trans (h.orders slot)⟩

theorem resultsOnly_writeReport (s : State) (k : Nat) (o : EntryOutcome) : ResultsOnly s (s.writeReport k o) := by
  refine ⟨rfl, rfl, rfl, rfl, rfl, rfl, fun slot => ?_⟩
  by_cases e : slot = (s.dc k).slot
  · subst e
    refine (congrArg (Option.map Order.unreported) (order_modOrder_self s _ _)).trans ?_
    rw [Option.map_map]
    rfl
  · exact congrArg (Option.map Order.unreported) (order_modOrder_ne s _ _ _ e)

theorem resultsOnly_leaveChannel (s : State) (k : Nat) : ResultsOnly s (s.leaveChannel k) := by
  have stoodDown : ResultsOnly s (s.modMp k Pair.standDown) := ⟨rfl, rfl, rfl, rfl, rfl, rfl, fun _ => rfl⟩
  unfold State.leaveChannel
  split
  · exact .refl s
  · exact ⟨rfl, rfl, rfl, rfl, rfl, rfl, fun _ => rfl⟩
  · exact stoodDown.trans (resultsOnly_writeReport _ k _)
  all_goals exact resultsOnly_writeReport s k _

theorem resultsOnly_leaveChannels (s : State) : ∀ n, ResultsOnly s (s.leaveChannels n) := fun n => by
  unfold State.leaveChannels
  induction List.range n generalizing s with
  | nil => exact .refl s
  | cons k l ih => exact (resultsOnly_leaveChannel s k).trans (ih _)

/-! ### The whole station -/

/-- What the order book makes of a departure is in the order book alone. -/
theorem leaveOrder_obu_congr {s t : State} (h : t.obu = s.obu) (slot : Nat) : (t.leaveOrder slot).obu = (s.leaveOrder slot).obu := by
  have orders : t.order slot = s.order slot := by unfold State.order; rw [h]
  have finish : ∀ u v : State, u.obu = v.obu → ∀ oc r, (u.finish slot oc r).obu = (v.finish slot oc r).obu := fun u v e oc r => by
    unfold State.finish
    rw [dropToken_eq, dropToken_eq]
    simp only [State.modOrder, State.modBook, e]
  have changed : ∀ f, (t.modOrder slot f).obu = (s.modOrder slot f).obu := fun f => by simp only [State.modOrder, h]
  unfold State.leaveOrder
  rw [orders]
  split
  · exact h
  · split
    · exact changed _
    · exact changed _
    · next o _ _ _ => exact finish (t.dropRaised o) (s.dropRaised o) (by rw [State.dropRaised_obu, State.dropRaised_obu, h]) _ _
    · exact h

theorem leaveBook_obu_congr {s t : State} (h : t.obu = s.obu) : t.leaveBook.obu = s.leaveBook.obu := by
  have lost : t.loseRequest.obu = s.loseRequest.obu := by
    unfold State.loseRequest
    rw [h]
    split <;> simp only [State.modBook, State.modOrder, h]
  rw [leaveBook_eq, leaveBook_eq]
  unfold State.leaveOrders
  generalize s.loseRequest = u at lost
  generalize t.loseRequest = v at lost
  induction List.range 8 generalizing u v with
  | nil => exact lost
  | cons k l ih => exact ih _ _ (leaveOrder_obu_congr lost k)

/-- R38, R40 (a) to (c): the station with its table empty, its outgoing list cleared and its timers stopped. -/
def State.bayCleared (s : State) (listen : Listen) : State :=
  { s with bt := Table.empty, blu := s.blu.cleared listen, htb := s.stopTimers.htb }

theorem leaveBay_eq (s : State) (listen : Listen) : s.leaveBay listen = (s.bayCleared listen).leaveBook.leaveChannels 4 := rfl

theorem stopTimers_timer (s : State) (i : Nat) : (s.stopTimers.timer i).state = .stopped := by
  simp only [State.timer, State.stopTimers, List.getD_eq_getElem?_getD, List.getElem?_map]
  cases s.htb[i]? <;> rfl

/-! ### What the order book leaves of channels, pairs and request -/

/-- The channels and pairs. -/
def State.dosing (s : State) : List Channel × List Pair := (s.dcs, s.mps)

section
variable (s : State)

@[simp] theorem dosing_modBook (f) : (s.modBook f).dosing = s.dosing := rfl
@[simp] theorem dosing_modOrder (slot f) : (s.modOrder slot f).dosing = s.dosing := rfl
@[simp] theorem dosing_modPdu (f) : (s.modPdu f).dosing = s.dosing := rfl
@[simp] theorem dosing_modTlu (f) : (s.modTlu f).dosing = s.dosing := rfl
@[simp] theorem dosing_setStage (slot st) : (s.setStage slot st).dosing = s.dosing := rfl

@[simp] theorem dosing_dropToken (slot) : (s.dropToken slot).dosing = s.dosing := by rw [dropToken_eq]; rfl

@[simp] theorem dosing_finish (slot oc r) : (s.finish slot oc r).dosing = s.dosing := by simp [State.finish]

@[simp] theorem dosing_startFill (t) : (s.startFill t).dosing = s.dosing := by unfold State.startFill; split <;> rfl
@[simp] theorem dosing_startPress : s.startPress.dosing = s.dosing := by unfold State.startPress; split <;> rfl
@[simp] theorem dosing_startChute : s.startChute.dosing = s.dosing := by unfold State.startChute; split <;> rfl
@[simp] theorem dosing_startTransfer (p) : (s.startTransfer p).dosing = s.dosing := by
  unfold State.startTransfer State.modPusher
  repeat' split
  all_goals rfl

@[simp] theorem dosing_dropRun (m) : (s.dropRun m).dosing = s.dosing := by unfold State.dropRun; split <;> rfl

@[simp] theorem dosing_dropRaised (o) : (s.dropRaised o).dosing = s.dosing := by
  unfold State.dropRaised
  repeat' split
  all_goals simp

@[simp] theorem dosing_reject (slot r) : (s.reject slot r).dosing = s.dosing := by simp [State.reject]

theorem dosing_leaveOrder (slot) : (s.leaveOrder slot).dosing = s.dosing := by
  by_cases mixing : s.stageAt slot = some .mixing
  · obtain ⟨o, ho, st⟩ := (s.stageAt_eq_some_iff slot _).1 mixing
    rw [leaveOrder_mixing ho st, dosing_finish, dosing_dropRaised]
  · rcases leaveOrder_stays mixing with e | ⟨e, _⟩ <;> rw [e]
    rfl

theorem dosing_loseRequest : s.loseRequest.dosing = s.dosing := by
  unfold State.loseRequest
  split <;> rfl

theorem dosing_leaveBook : s.leaveBook.dosing = s.dosing := by
  rw [leaveBook_eq, State.leaveOrders, ← dosing_loseRequest s]
  generalize s.loseRequest = u
  induction List.range 8 generalizing u with
  | nil => rfl
  | cons slot l ih => exact (ih _).trans (dosing_leaveOrder u slot)

@[simp] theorem dosing_seat (slot) : (s.seat slot).dosing = s.dosing := by
  unfold State.seat
  simp only
  repeat' split
  all_goals simp

@[simp] theorem dosing_judgeTin (slot code) : (s.judgeTin slot code).dosing = s.dosing := by
  unfold State.judgeTin
  repeat' split
  all_goals simp

@[simp] theorem dosing_chooseCradle : s.chooseCradle.dosing = s.dosing := by
  unfold State.chooseCradle
  simp only
  repeat' split
  all_goals simp

@[simp] theorem dosing_callOutfeed : s.callOutfeed.dosing = s.dosing := by
  unfold State.callOutfeed
  repeat' split
  all_goals simp

theorem dosing_leaveTint (slot o) : (s.leaveTint slot o).dosing = s.dosing := by
  unfold State.leaveTint
  simp only
  repeat' split
  all_goals simp

theorem dosing_endTint (slot) : (s.endTint slot).dosing = s.dosing := by
  unfold State.endTint
  repeat' split
  · exact dosing_reject s _ _
  · exact dosing_leaveTint s _ _
  all_goals rfl

theorem dosing_queueTickets : ∀ (n : Nat) (s : State), (State.queueTickets n s).dosing = s.dosing
  | 0, _ => rfl
  | n + 1, s => by
    unfold State.queueTickets
    repeat' split
    · rfl
    · exact dosing_queueTickets n _
    · exact dosing_queueTickets n _
    · rfl

variable {s}

/-- Outside the bay no channel works, and the order book hands none its entry. -/
theorem dosing_settle (out : s.isAttached = false) : s.settle.dosing = s.dosing := by
  have chosen : s.chooseCradle.isAttached = false := (sameBay_chooseCradle s).isAttached.trans out
  have dosed : s.chooseCradle.dose.dosing = s.dosing := by
    unfold State.dose
    split
    · exact dosing_chooseCradle s
    · simp only [handNext_outside chosen]
      exact (dosing_endTint _ _).trans (dosing_chooseCradle s)
  unfold State.settle
  rw [claimMixer_outside out, requestRush_outside chosen, openGate_outside chosen, dosing_queueTickets, dosing_callOutfeed, dosed]

theorem dropToken_request (h : s.obu.request = .absent) (slot : Nat) : (s.dropToken slot).obu.request = .absent := by
  rw [dropToken_eq, h]; rfl

theorem startTransfer_obu (s : State) (p : Pusher) : (s.startTransfer p).obu = s.obu := by
  unfold State.startTransfer State.modPusher
  repeat' split
  all_goals rfl

theorem endTint_request (h : s.obu.request = .absent) (slot : Nat) : (s.endTint slot).obu.request = .absent := by
  have dropped : ∀ c : Prop, [Decidable c] → (if c then s.dropToken slot else s).obu.request = .absent := fun c _ => by
    split
    · exact dropToken_request h slot
    · exact h
  unfold State.endTint
  repeat' split
  · unfold State.reject State.startChute
    split <;> exact dropToken_request h slot
  · unfold State.leaveTint State.startPress
    simp only
    repeat' split
    all_goals first | exact dropToken_request h slot | exact h
  all_goals exact h

theorem queueTickets_request : ∀ (n : Nat) (s : State), s.obu.request = .absent → (State.queueTickets n s).obu.request = .absent
  | 0, _, h => h
  | n + 1, s, h => by
    have freed : ∀ slot, (s.obu.free slot).request = .absent := fun slot => by
      unfold Book.free
      split
      · rw [h]; rfl
      · exact h
    unfold State.queueTickets
    repeat' split
    · exact h
    · exact queueTickets_request n _ (freed _)
    · exact queueTickets_request n _ h
    · exact h

/-- R142: outside the bay no token is requested. -/
theorem settle_request_outside (out : s.isAttached = false) (h : s.obu.request = .absent) : s.settle.obu.request = .absent := by
  have chosen : s.chooseCradle.isAttached = false := (sameBay_chooseCradle s).isAttached.trans out
  have absent : s.chooseCradle.obu.request = .absent := (chooseCradle_request s).trans h
  have dosed : s.chooseCradle.dose.obu.request = .absent := by
    unfold State.dose
    split
    · exact absent
    · simp only [handNext_outside chosen]
      exact endTint_request absent _
  unfold State.settle
  rw [claimMixer_outside out, requestRush_outside chosen, openGate_outside chosen]
  refine queueTickets_request 8 _ ?_
  unfold State.callOutfeed
  repeat' split
  · exact dosed
  · rw [startTransfer_obu]; exact dosed
  · exact dosed

end

/-! ### The station out of the bay -/

theorem State.Coupled.of_dosing {s t : State} (h : s.Coupled) (same : t.dosing = s.dosing) : t.Coupled := by
  obtain ⟨dcs, mps⟩ := Prod.mk.inj same
  refine ⟨dcs ▸ h.channels, mps ▸ h.pairs, fun k hk => ?_, fun k hk => ?_⟩
  · unfold State.dc State.mp; rw [dcs, mps]; exact h.agree k hk
  · unfold State.mp; rw [mps]; exact h.lawful k hk

theorem dc_of_dosing {s t : State} (same : t.dosing = s.dosing) (k : Nat) : t.dc k = s.dc k := by
  unfold State.dc; rw [(Prod.mk.inj same).1]

theorem mp_of_dosing {s t : State} (same : t.dosing = s.dosing) (k : Nat) : t.mp k = s.mp k := by
  unfold State.mp; rw [(Prod.mk.inj same).2]

theorem sameBay_leaveChannels (s : State) (n : Nat) : SameBay s (s.leaveChannels n) :=
  sameBay_foldl _ sameBay_leaveChannel _ s

/-- R38, R40 (a) to (e): what a station that has left the bay shows, whatever its state is then. -/
structure Gone (s t : State) (listen : Listen) : Prop where
  setup : t.setup = s.setup
  pins : t.pins = s.pins
  bt : t.bt = Table.empty
  blu : t.blu = s.blu.cleared listen
  timers : ∀ i, (t.timer i).state = .stopped
  request : t.obu.request = .absent
  channels : s.Coupled → ∀ k, k < 4 → leftBay (t.dc k) (t.mp k)

section
variable {s t : State} {listen : Listen} (gone : Gone s t listen)
include gone

theorem Gone.modSsl (f : Ssl → Ssl) : Gone s (t.modSsl f) listen :=
  ⟨gone.setup, gone.pins, gone.bt, gone.blu, gone.timers, gone.request, gone.channels⟩

theorem Gone.enter (st : StationState) : Gone s (t.enter st) listen := by
  unfold State.enter
  split
  · exact gone
  · exact ⟨gone.setup, gone.pins, gone.bt, gone.blu, gone.timers, gone.request, gone.channels⟩

/-- The order book settles beside a station that has gone. -/
theorem Gone.settle (out : t.isAttached = false) : Gone s t.settle listen where
  setup := (sameBay_settle t).setup.trans gone.setup
  pins := (sameBay_settle t).pins.trans gone.pins
  bt := (sameBay_settle t).bt.trans gone.bt
  blu := (settle_blu_outside out gone.request).trans gone.blu
  timers i := by
    have stopped := gone.timers i
    unfold State.timer at stopped ⊢
    rw [(sameBay_settle t).htb]
    exact stopped
  request := settle_request_outside out gone.request
  channels h k hk := by
    rw [dc_of_dosing (dosing_settle out), mp_of_dosing (dosing_settle out)]
    exact gone.channels h k hk

end

theorem leaveBay_ssl (s : State) (listen : Listen) : (s.leaveBay listen).ssl = s.ssl :=
  ((sameBay_leaveBook (s.bayCleared listen)).trans (sameBay_leaveChannels _ 4)).ssl

theorem leaveBay_gone (s : State) (listen : Listen) : Gone s (s.leaveBay listen) listen := by
  rw [leaveBay_eq]
  have bay := (sameBay_leaveBook (s.bayCleared listen)).trans (sameBay_leaveChannels _ 4)
  have book := resultsOnly_leaveChannels (s.bayCleared listen).leaveBook 4
  have quiet := leaveBook_quiet (s.bayCleared listen)
  refine ⟨bay.setup, bay.pins, bay.bt, book.blu.trans quiet.2, fun i => ?_, book.request.trans quiet.1, fun h k hk => ?_⟩
  · have stopped := stopTimers_timer s i
    unfold State.timer at stopped ⊢
    rw [bay.htb]
    exact stopped
  · have cleared : (s.bayCleared listen).Coupled := ⟨h.channels, h.pairs, h.agree, h.lawful⟩
    exact (leaveChannels_left (cleared.of_dosing (dosing_leaveBook _)) 4 (Nat.le_refl 4)).2 k hk

/-- R40 (d), (e): the order book of a station that leaves, but for the results that its channels report. -/
theorem leaveBay_book (s : State) (listen : Listen) :
    (s.leaveBay listen).obu.cradle = s.leaveBook.obu.cradle ∧ (s.leaveBay listen).obu.outfeed = s.leaveBook.obu.outfeed
      ∧ (s.leaveBay listen).obu.doneOrder = s.leaveBook.obu.doneOrder
      ∧ ∀ slot, ((s.leaveBay listen).order slot).map Order.unreported = (s.leaveBook.order slot).map Order.unreported := by
  rw [leaveBay_eq]
  have book := resultsOnly_leaveChannels (s.bayCleared listen).leaveBook 4
  have obu : (s.bayCleared listen).leaveBook.obu = s.leaveBook.obu := leaveBook_obu_congr rfl
  refine ⟨book.cradle.trans (congrArg Book.cradle obu), book.outfeed.trans (congrArg Book.outfeed obu),
    book.doneOrder.trans (congrArg Book.doneOrder obu), fun slot => ?_⟩
  rw [book.orders slot]
  unfold State.order
  rw [obu]

/-- R40: a station that goes DETACHED. -/
theorem detach_gone (s : State) (reason : DetachReason) : Gone s (s.detach reason) .following :=
  ((leaveBay_gone s .following).modSsl _).enter .detached

theorem detach_ssl (s : State) (reason : DetachReason) :
    (s.detach reason).ssl = { s.ssl.detached reason s.me with state := .detached } := by
  unfold State.detach
  rw [State.enter_ssl, State.modSsl_ssl, leaveBay_ssl]

theorem detach_unread {s : State} (reason : DetachReason) (h : s.ssl.state ≠ .detached) :
    (s.detach reason).tlu.unread = true ∧ (s.detach reason).tlu.attention = true := by
  unfold State.detach
  refine enter_unread ?_
  rw [State.modSsl_ssl, leaveBay_ssl]
  exact h

theorem detach_obu (s : State) (reason : DetachReason) : (s.detach reason).obu = (s.leaveBay .following).obu := by
  unfold State.detach
  rw [State.enter_obu, State.modSsl_obu]

/-- R38: a station that has taken its own LEAVE. -/
theorem ownLeave_gone (s : State) : Gone s s.ownLeave .off := ((leaveBay_gone s .off).modSsl _).enter .ready

theorem ownLeave_ssl (s : State) : s.ownLeave.ssl = { s.ssl with leavePending := false, state := .ready } := by
  unfold State.ownLeave
  rw [State.enter_ssl, State.modSsl_ssl, leaveBay_ssl]

/-- R38: the take of its own LEAVE at a station that stands in the bay. -/
theorem take_ownLeave {s : State} (member : s.member = true) :
    s.take s.me .leave = (s.bookTake s.me .leave).ownLeave.settle := by
  obtain ⟨hears, attached, present⟩ := s.member_iff.1 member
  have inStep : (s.bookTake s.me .leave).outOfStep s.me .leave = false := by
    show (((s.bookTake s.me .leave).bt.rosterAt s.me).state == RosterState.absent) = false
    rw [(keepsTable_bookTake s s.me .leave).bt, beq_eq_false_iff_ne]
    exact Table.not_absent_of_isPresent present
  rw [take_attached hears attached]
  unfold State.takeAttached
  rw [inStep, if_neg Bool.false_ne_true, if_pos ⟨bookTake_me.symm, rfl⟩]

end Sys2Proof.Machine

namespace Sys2Proof

open Machine

/-- Settles O30: what the channels and the order book make of a departure, and what settling leaves of it. -/
theorem leavingTheBay : Obligations.LeavingTheBay := by
  refine ⟨fun s member => ?_, fun s reason dosing lawful notDetached => ?_, fun s => ?_⟩
  · have ssl : (s.bookTake s.me .leave).ownLeave.ssl = { s.ssl with leavePending := false, state := .ready } := by
      rw [ownLeave_ssl, (keepsTable_bookTake s s.me .leave).ssl]
    have out : (s.bookTake s.me .leave).ownLeave.isAttached = false := by unfold State.isAttached; rw [ssl]; rfl
    have gone := (ownLeave_gone (s.bookTake s.me .leave)).settle out
    have settled := (sameBay_settle (s.bookTake s.me .leave).ownLeave).ssl.trans ssl
    refine ⟨s.take s.me .leave, rfl, ?_⟩
    rw [take_ownLeave member]
    refine ⟨by rw [settled], by rw [settled], by rw [settled], gone.bt, gone.blu, gone.timers, gone.request,
      gone.setup.trans (keepsTable_bookTake s _ _).setup, gone.pins.trans (keepsTable_bookTake s _ _).keepsInput.pins,
      fun dosing lawful => ?_⟩
    exact gone.channels (coupled_bookTake (coupled_of_dosingLawful dosing lawful) _ _)
  · have gone := detach_gone s reason
    obtain ⟨unread, attention⟩ := detach_unread reason notDetached
    obtain ⟨cradle, outfeed, doneOrder, orders⟩ := leaveBay_book s .following
    have ssl := detach_ssl s reason
    have obu := detach_obu s reason
    refine ⟨by rw [ssl], by rw [ssl]; rfl, by rw [ssl]; rfl, by rw [ssl]; rfl, by rw [ssl]; rfl, by rw [ssl]; rfl, by rw [ssl]; rfl,
      by rw [ssl]; rfl, by rw [ssl]; rfl, by rw [ssl]; rfl, by rw [ssl]; rfl, gone.bt, gone.blu, unread, attention, gone.timers,
      gone.channels (coupled_of_dosingLawful dosing lawful), gone.setup, gone.pins, gone.request, by rw [obu, cradle],
      by rw [obu, outfeed], by rw [obu, doneOrder], fun slot => ?_⟩
    have order : (s.detach reason).order slot = (s.leaveBay .following).order slot := by unfold State.order; rw [obu]
    rw [order]
    exact orders slot
  · obtain ⟨request, blu⟩ := leaveBook_quiet s
    refine ⟨request, blu, ?_, ?_⟩
    · rw [leaveBook_cradle]
      cases hc : s.obu.cradle with
      | none => rfl
      | some slot =>
        by_cases ends : slot < 8 ∧ s.stageAt slot = some .mixing <;> simp [Option.filter_some, State.endsBelow, ends]
    · intro slot o v below ho hv
      have left : s.leaveBook.order slot = some v.leaving := by rw [leaveBook_order s below, ho, hv]; rfl
      obtain ⟨stage, stopping⟩ : v.stage = o.stage ∧ v.stopping = o.stopping := by rw [hv]; split <;> exact ⟨rfl, rfl⟩
      rw [left]
      refine ⟨fun st => ?_, fun st => ?_, fun st => ⟨?_, ?_, ?_, fun m raised used runs => ?_⟩, fun tint mixWait mixing => ?_⟩
      · rw [Order.leaving, stage, st, ← stopping]
      · rw [Order.leaving, stage, st]
      · rw [Order.leaving, stage, st]
      · rw [leaveBook_eq]
        refine leaveOrders_done _ ?_
        rw [loseRequest_endsBelow]
        simp [State.endsBelow, below, (s.stageAt_eq_some_iff slot _).2 ⟨o, ho, st⟩]
      · rw [leaveBook_outfeed]
        intro h
        have := (Option.filter_eq_some_iff.1 h).2
        simp [State.endsBelow, below, (s.stageAt_eq_some_iff slot _).2 ⟨o, ho, st⟩] at this
      · rw [leaveBook_eq]
        have lost : s.loseRequest.order slot = some v := by rw [loseRequest_order, ho, hv]; rfl
        obtain ⟨hr, hm⟩ : v.runRaised = o.runRaised ∧ v.mixerUsed = o.mixerUsed := by rw [hv]; split <;> exact ⟨rfl, rfl⟩
        refine leaveOrders_run_raised below lost (stage.trans st) (hr.trans raised) (hm.trans used) ?_
        unfold State.run
        rw [(loseRequest_places s).2.2.2]
        exact runs
      · rw [Order.leaving_of_other (stage ▸ tint) (stage ▸ mixWait) (stage ▸ mixing)]

end Sys2Proof
end

section
/-! SUPPORT. What a purge, a late JOIN and a silent-giver report leave of the table (R30, R31, R98), record by record. -/

namespace Sys2Proof.Machine

/-! ### Grant choice once a take is applied -/

section
variable (reserve : Nat)

theorem regrantLines_getElem? (olds rs : List (Option LineRec)) (n i : Nat) (h : olds.length = rs.length) :
    (regrantLines reserve n olds rs).1[i]? =
      (rs[i]?).map (Option.map fun r => if olds[i]? = some (some r) then r else LineRec.grantChoice reserve r) := by
  induction olds generalizing rs n i with
  | nil => rw [List.eq_nil_of_length_eq_zero h.symm]; rfl
  | cons old olds ih =>
    cases rs with
    | nil => cases h
    | cons r rs =>
      have tail := fun i => ih rs (n + 1) i (Nat.succ.inj h)
      cases r with
      | none =>
        cases i with
        | zero => rfl
        | succ i => exact tail i
      | some r =>
        unfold regrantLines
        simp only
        split <;> cases i with
        | zero => simp_all
        | succ i => simpa using tail i

variable (before t : Table)

theorem regrant_lines : (Table.regrant reserve before t).1.lines = (regrantLines reserve 0 before.lines t.lines).1 := by
  unfold Table.regrant
  simp only
  repeat' split
  all_goals rfl

theorem regrant_line (h : before.lines.length = t.lines.length) (n : Nat) :
    (Table.regrant reserve before t).1.line n =
      (t.line n).map fun r => if before.line n = some r then r else LineRec.grantChoice reserve r := by
  unfold Table.line
  rw [regrant_lines, regrantLines_getElem? reserve _ _ 0 n h]
  rcases t.lines[n]? with _ | _ | r
  · rfl
  · rfl
  · have same : before.lines[n]? = some (some r) ↔ (before.lines[n]?).join = some r := (line_eq_some_iff before n r).symm
    simp [same]

theorem regrant_pool : (Table.regrant reserve before t).1.pool =
    t.pool.map fun p => if before.pool = some p then p else p.grantChoice.1 := by
  unfold Table.regrant
  simp only
  split
  · next p hp => split <;> simp_all
  · next hp => simp [hp]

theorem regrant_rest : (Table.regrant reserve before t).1.tokens = t.tokens
    ∧ (Table.regrant reserve before t).1.digest = t.digest ∧ (Table.regrant reserve before t).1.formed = t.formed := by
  unfold Table.regrant
  simp only
  repeat' split
  all_goals exact ⟨rfl, rfl, rfl⟩

theorem regrant_rosterAt (q : Nat) : (Table.regrant reserve before t).1.rosterAt q = t.rosterAt q := by
  unfold Table.rosterAt; rw [regrant_roster]

theorem regrant_isPresent (q : Nat) : (Table.regrant reserve before t).1.isPresent q = t.isPresent q := by
  unfold Table.isPresent; rw [regrant_rosterAt]

end

/-! ### The purge of one station -/

/-- R98 (e): the tokens as a purge leaves them. -/
def Tokens.purge (S : Nat) (tk : Tokens) : Tokens := { a := freeHolder S tk.a, b := freeHolder S tk.b }

section
variable (t : Table) (S : Nat)

theorem strip_rosterAt_self : (t.strip S).rosterAt S = RosterRec.empty := t.rosterAt_setRoster_empty S

theorem strip_rosterAt_ne {q : Nat} (h : q ≠ S) : (t.strip S).rosterAt q = t.rosterAt q :=
  t.rosterAt_setRoster_ne RosterRec.empty h

theorem strip_line (n : Nat) : (t.strip S).line n = (t.line n).map (LineRec.purge S (t.holdsToken S)) := by
  show ((t.lines.map (Option.map (LineRec.purge S (t.holdsToken S))))[n]?).join = _
  unfold Table.line
  rw [List.getElem?_map]
  rcases t.lines[n]? with _ | _ | r <;> rfl

theorem strip_pool : (t.strip S).pool = t.pool.map (Pool.purge S (t.holdsToken S)) := rfl

theorem strip_tokens : (t.strip S).tokens = t.tokens.map (Tokens.purge S) := rfl

theorem strip_lines_length : (t.strip S).lines.length = t.lines.length := List.length_map _

theorem strip_roster_length : (t.strip S).roster.length = t.roster.length := List.length_set

variable {S}

theorem strip_isPresent_ne {q : Nat} (h : q ≠ S) : (t.strip S).isPresent q = t.isPresent q := by
  unfold Table.isPresent; rw [strip_rosterAt_ne t S h]

theorem freeHolder_other {S q : Nat} (h : q ≠ S) (x : Option TokenHolder) :
    (freeHolder S x).any (fun k => k.station == q) = x.any fun k => k.station == q := by
  cases x with
  | none => rfl
  | some x =>
    unfold freeHolder
    simp only
    split
    · next e => simp [e, Ne.symm h]
    · rfl

/-- A purge frees no token of another station. -/
theorem strip_holdsToken {q : Nat} (h : q ≠ S) : (t.strip S).holdsToken q = t.holdsToken q := by
  funext token
  unfold Table.holdsToken
  rw [strip_tokens]
  cases t.tokens with
  | none => rfl
  | some tk => cases token <;> first | rfl | exact freeHolder_other h _

end

section
variable (reserve : Nat) (t : Table) (S : Nat)

theorem purge_rosterAt_self : (t.purge reserve S).1.rosterAt S = RosterRec.empty :=
  (regrant_rosterAt reserve t _ S).trans (strip_rosterAt_self t S)

theorem purge_rosterAt_ne {q : Nat} (h : q ≠ S) : (t.purge reserve S).1.rosterAt q = t.rosterAt q :=
  (regrant_rosterAt reserve t _ q).trans (strip_rosterAt_ne t S h)

theorem purge_line (n : Nat) : (t.purge reserve S).1.line n = (t.line n).map fun r =>
    if LineRec.purge S (t.holdsToken S) r = r then r else LineRec.grantChoice reserve (LineRec.purge S (t.holdsToken S) r) := by
  refine (regrant_line reserve t _ (strip_lines_length t S).symm n).trans ?_
  rw [strip_line, Option.map_map]
  cases t.line n with
  | none => rfl
  | some r =>
    simp only [Option.map_some, Function.comp, Option.some.injEq, eq_comm (a := r)]
    split
    · next e => rw [e]
    · rfl

theorem purge_pool : (t.purge reserve S).1.pool = t.pool.map fun p =>
    if Pool.purge S (t.holdsToken S) p = p then p else (Pool.purge S (t.holdsToken S) p).grantChoice.1 := by
  refine (regrant_pool reserve t _).trans ?_
  rw [strip_pool, Option.map_map]
  cases t.pool with
  | none => rfl
  | some p =>
    simp only [Option.map_some, Function.comp, Option.some.injEq, eq_comm (a := p)]
    split
    · next e => rw [e]
    · rfl

theorem purge_rest : (t.purge reserve S).1.tokens = t.tokens.map (Tokens.purge S) ∧ (t.purge reserve S).1.digest = t.digest
    ∧ (t.purge reserve S).1.formed = t.formed := regrant_rest reserve t _

theorem purge_isPresent_self : (t.purge reserve S).1.isPresent S = false :=
  (Table.not_isPresent_iff _ S).2 (by rw [purge_rosterAt_self]; decide)

theorem purge_isPresent_ne {q : Nat} (h : q ≠ S) : (t.purge reserve S).1.isPresent q = t.isPresent q := by
  unfold Table.isPresent; rw [purge_rosterAt_ne _ _ _ h]

end

/-! ### The giver -/

theorem chooseGiver_eq_some_iff (t : Table) (joiner g : Nat) : t.chooseGiver joiner = some g ↔
    g < 16 ∧ g ≠ joiner ∧ t.isPresent g = true ∧ ∀ q, q < g → q ≠ joiner → t.isPresent q = false := by
  unfold Table.chooseGiver
  rw [List.find?_range_eq_some]
  simp only [Bool.and_eq_true, bne_iff_ne, List.mem_range, Bool.not_and, Bool.or_eq_true, Bool.not_eq_true',
    bne_eq_false_iff_eq]
  constructor
  · rintro ⟨⟨ne, present⟩, lt, lower⟩
    exact ⟨lt, ne, present, fun q hq hne => (lower q hq).resolve_left hne⟩
  · rintro ⟨lt, ne, present, lower⟩
    exact ⟨⟨ne, present⟩, lt, fun q hq => or_iff_not_imp_left.2 (lower q hq)⟩

/-- R31 (c): with another station PRESENT a giver is chosen. -/
theorem exists_giver {t : Table} {joiner q : Nat} (present : t.isPresent q = true) (h : q < 16) (ne : q ≠ joiner) :
    ∃ g, t.chooseGiver joiner = some g := by
  rw [← Option.isSome_iff_exists, Table.chooseGiver, List.find?_isSome]
  exact ⟨q, List.mem_range.2 h, by simp [present, ne]⟩

/-! ### A late JOIN -/

/-- The sender of a JOIN as R31 (a) first leaves it. -/
def RosterRec.ungiven : RosterRec := { state := .joining, giver := none, imageMark := false }

/-- R31 (b): the station that a late JOIN shows silent. -/
def Table.lateVictim (t : Table) (sender : Nat) (silent : Option Nat) : Option Nat :=
  (t.lateSender sender).silentGiver sender (t.rosterAt sender) silent

/-- R31 (a), (b): the table once sender and silent giver are purged. -/
def Table.lateStripped (t : Table) (sender : Nat) (silent : Option Nat) : Table :=
  (t.lateSender sender).stripOpt (t.lateVictim sender silent)

section
variable (reserve : Nat) (t : Table) (sender digest : Nat) (silent : Option Nat)

theorem lateJoin_giver : (t.lateJoin reserve sender digest silent).giver = (t.lateStripped sender silent).chooseGiver sender := rfl

/-- R31 (c), (d): the table before grant choice. -/
def Table.lateMade : Table :=
  ((t.lateStripped sender silent).setRoster sender
    { state := .joining, giver := (t.lateStripped sender silent).chooseGiver sender, imageMark := false }).setJoinResult sender
      (t.digestAgrees digest)

theorem lateJoin_table :
    (t.lateJoin reserve sender digest silent).table = (Table.regrant reserve t (t.lateMade sender digest silent)).1 := rfl

theorem lateSender_rosterAt_ne {q : Nat} (h : q ≠ sender) : (t.lateSender sender).rosterAt q = t.rosterAt q := by
  unfold Table.lateSender
  rw [Table.rosterAt_setRoster_ne _ _ h]
  split
  · rfl
  · exact strip_rosterAt_ne t sender h

theorem lateSender_isPresent_ne {q : Nat} (h : q ≠ sender) : (t.lateSender sender).isPresent q = t.isPresent q := by
  unfold Table.isPresent; rw [lateSender_rosterAt_ne t sender h]

theorem lateSender_isPresent_self : (t.lateSender sender).isPresent sender = false := by
  unfold Table.lateSender
  generalize (if (t.rosterAt sender).state = .absent then t else t.strip sender) = u
  by_cases h : sender < u.roster.length
  · exact Table.isPresent_of_joining (by rw [u.rosterAt_setRoster_self sender _ h])
  · refine (Table.not_isPresent_iff _ _).2 ?_
    simp [Table.rosterAt, Table.setRoster, List.getD_eq_getElem?_getD, Nat.le_of_not_lt h, RosterRec.empty]

theorem lateSender_roster_length : (t.lateSender sender).roster.length = t.roster.length := by
  unfold Table.lateSender Table.setRoster
  split
  · exact List.length_set
  · exact List.length_set.trans List.length_set

theorem lateSender_line (n : Nat) : (t.lateSender sender).line n = (t.line n).map fun r =>
    if (t.rosterAt sender).state = .absent then r else LineRec.purge sender (t.holdsToken sender) r := by
  unfold Table.lateSender
  split
  · exact Option.map_id_apply.symm
  · exact strip_line t sender n

theorem lateSender_lines_length : (t.lateSender sender).lines.length = t.lines.length := by
  unfold Table.lateSender
  split
  · rfl
  · exact strip_lines_length t sender

theorem lateSender_pool : (t.lateSender sender).pool = t.pool.map fun p =>
    if (t.rosterAt sender).state = .absent then p else Pool.purge sender (t.holdsToken sender) p := by
  unfold Table.lateSender
  split
  · exact Option.map_id_apply.symm
  · exact strip_pool t sender

theorem lateSender_tokens : (t.lateSender sender).tokens = t.tokens.map fun tk =>
    if (t.rosterAt sender).state = .absent then tk else Tokens.purge sender tk := by
  unfold Table.lateSender
  split
  · exact Option.map_id_apply.symm
  · exact strip_tokens t sender

theorem lateSender_rest : (t.lateSender sender).digest = t.digest ∧ (t.lateSender sender).formed = t.formed := by
  unfold Table.lateSender
  split <;> exact ⟨rfl, rfl⟩

theorem lateSender_holdsToken {q : Nat} (h : q ≠ sender) : (t.lateSender sender).holdsToken q = t.holdsToken q := by
  unfold Table.lateSender
  split
  · rfl
  · exact strip_holdsToken t h

variable {sender silent}

/-- R31 (b): the silent giver is another station, PRESENT before the take. -/
theorem lateVictim_present {S : Nat} (h : t.lateVictim sender silent = some S) : S ≠ sender ∧ t.isPresent S = true := by
  have other : ∀ q, (t.lateSender sender).isPresent q = true → q ≠ sender ∧ t.isPresent q = true := fun q hq => by
    have ne : q ≠ sender := by
      rintro rfl
      rw [lateSender_isPresent_self] at hq
      cases hq
    exact ⟨ne, by rw [← lateSender_isPresent_ne t sender ne]; exact hq⟩
  unfold Table.lateVictim Table.silentGiver at h
  split at h
  · split at h
    · next hS => cases h; exact other _ hS.2
    · cases h
  · split at h
    · split at h
      · split at h
        · next hS => cases h; exact other _ hS
        · cases h
      · cases h
    · cases h

/-- R31 (b): a station named as silent giver. -/
theorem lateVictim_named {S : Nat} (ne : S ≠ sender) (present : t.isPresent S = true) : t.lateVictim sender (some S) = some S := by
  unfold Table.lateVictim Table.silentGiver
  exact if_pos ⟨ne, by rw [lateSender_isPresent_ne t sender ne]; exact present⟩

theorem lateVictim_named_none {S : Nat} (h : S = sender ∨ t.isPresent S = false) : t.lateVictim sender (some S) = none := by
  by_contra some'
  obtain ⟨q, hq⟩ := Option.ne_none_iff_exists'.1 some'
  have is : q = S := by
    unfold Table.lateVictim Table.silentGiver at hq
    simp only at hq
    split at hq <;> cases hq
    rfl
  obtain ⟨ne, present⟩ := lateVictim_present t hq
  subst is
  exact h.elim ne fun absent => by rw [absent] at present; cases present

/-- R31 (b): with none named, the recorded giver of an unmarked JOINING sender. -/
theorem lateVictim_recorded {S : Nat} (st : (t.rosterAt sender).state = .joining) (mark : (t.rosterAt sender).imageMark = false)
    (giver : (t.rosterAt sender).giver = some S) (ne : S ≠ sender) (present : t.isPresent S = true) :
    t.lateVictim sender none = some S := by
  unfold Table.lateVictim Table.silentGiver
  simp only [st, mark, giver, Bool.not_false, and_self, if_true]
  exact if_pos (by rw [lateSender_isPresent_ne t sender ne]; exact present)

theorem lateVictim_unrecorded (h : (t.rosterAt sender).state ≠ .joining ∨ (t.rosterAt sender).imageMark = true
    ∨ ∀ S, (t.rosterAt sender).giver = some S → t.isPresent S = false) : t.lateVictim sender none = none := by
  by_contra some'
  obtain ⟨q, hq⟩ := Option.ne_none_iff_exists'.1 some'
  obtain ⟨_, present⟩ := lateVictim_present t hq
  unfold Table.lateVictim Table.silentGiver at hq
  simp only at hq
  split at hq
  · next unmarked =>
    obtain ⟨st, mark⟩ := unmarked
    split at hq
    · next g giver =>
      split at hq <;> cases hq
      rcases h with h | h | h
      · exact h st
      · simp [h] at mark
      · rw [h _ giver] at present; cases present
    · cases hq
  · cases hq

variable (sender silent) {digest}

theorem lateStripped_rosterAt_victim {S : Nat} (h : t.lateVictim sender silent = some S) :
    (t.lateStripped sender silent).rosterAt S = RosterRec.empty := by
  unfold Table.lateStripped
  rw [h]
  exact strip_rosterAt_self _ S

theorem lateStripped_rosterAt_other {q : Nat} (ne : q ≠ sender) (spared : t.lateVictim sender silent ≠ some q) :
    (t.lateStripped sender silent).rosterAt q = t.rosterAt q := by
  unfold Table.lateStripped
  rw [← lateSender_rosterAt_ne t sender ne]
  cases h : t.lateVictim sender silent with
  | none => rfl
  | some S => exact strip_rosterAt_ne _ S fun e => spared (e ▸ h)

theorem lateStripped_isPresent_other {q : Nat} (ne : q ≠ sender) (spared : t.lateVictim sender silent ≠ some q) :
    (t.lateStripped sender silent).isPresent q = t.isPresent q := by
  unfold Table.isPresent; rw [lateStripped_rosterAt_other t sender silent ne spared]

theorem lateStripped_isPresent_victim {S : Nat} (h : t.lateVictim sender silent = some S) :
    (t.lateStripped sender silent).isPresent S = false :=
  (Table.not_isPresent_iff _ S).2 (by rw [lateStripped_rosterAt_victim t sender silent h]; decide)

theorem lateStripped_roster_length : (t.lateStripped sender silent).roster.length = t.roster.length := by
  unfold Table.lateStripped
  rw [← lateSender_roster_length t sender]
  cases t.lateVictim sender silent with
  | none => rfl
  | some S => exact strip_roster_length _ S

theorem lateStripped_lines_length : (t.lateStripped sender silent).lines.length = t.lines.length := by
  unfold Table.lateStripped
  rw [← lateSender_lines_length t sender]
  cases t.lateVictim sender silent with
  | none => rfl
  | some S => exact strip_lines_length _ S

/-- A line record once its own sender, and then the silent giver, are purged. -/
def Table.latePurged (r : LineRec) : LineRec :=
  let own := if (t.rosterAt sender).state = .absent then r else LineRec.purge sender (t.holdsToken sender) r
  match t.lateVictim sender silent with
  | some S => LineRec.purge S (t.holdsToken S) own
  | none => own

theorem lateStripped_line (n : Nat) : (t.lateStripped sender silent).line n = (t.line n).map (t.latePurged sender silent) := by
  unfold Table.lateStripped Table.latePurged
  cases h : t.lateVictim sender silent with
  | none => exact lateSender_line t sender n
  | some S =>
    refine (strip_line _ S n).trans ?_
    rw [lateSender_line, Option.map_map, lateSender_holdsToken t sender (lateVictim_present t h).1]
    rfl

/-- The pool once the sender, and then the silent giver, are purged. -/
def Table.latePurgedPool (p : Pool) : Pool :=
  let own := if (t.rosterAt sender).state = .absent then p else Pool.purge sender (t.holdsToken sender) p
  match t.lateVictim sender silent with
  | some S => Pool.purge S (t.holdsToken S) own
  | none => own

theorem lateStripped_pool : (t.lateStripped sender silent).pool = t.pool.map (t.latePurgedPool sender silent) := by
  unfold Table.lateStripped Table.latePurgedPool
  cases h : t.lateVictim sender silent with
  | none => exact lateSender_pool t sender
  | some S =>
    refine (strip_pool _ S).trans ?_
    rw [lateSender_pool, Option.map_map, lateSender_holdsToken t sender (lateVictim_present t h).1]
    rfl

/-- The tokens once the sender, and then the silent giver, are purged. -/
def Table.latePurgedTokens (tk : Tokens) : Tokens :=
  let own := if (t.rosterAt sender).state = .absent then tk else Tokens.purge sender tk
  match t.lateVictim sender silent with
  | some S => Tokens.purge S own
  | none => own

theorem lateStripped_tokens : (t.lateStripped sender silent).tokens = t.tokens.map (t.latePurgedTokens sender silent) := by
  unfold Table.lateStripped Table.latePurgedTokens
  cases h : t.lateVictim sender silent with
  | none => exact lateSender_tokens t sender
  | some S =>
    refine (strip_tokens _ S).trans ?_
    rw [lateSender_tokens, Option.map_map]
    rfl

theorem lateStripped_rest : (t.lateStripped sender silent).digest = t.digest ∧ (t.lateStripped sender silent).formed = t.formed := by
  unfold Table.lateStripped
  cases t.lateVictim sender silent <;> exact lateSender_rest t sender

variable {sender silent}

theorem lateJoin_rosterAt_sender (h : sender < t.roster.length) : (t.lateJoin reserve sender digest silent).table.rosterAt sender =
    { state := .joining, giver := (t.lateJoin reserve sender digest silent).giver, imageMark := false } := by
  rw [lateJoin_table, regrant_rosterAt]
  exact Table.rosterAt_setRoster_self _ sender _ (by rw [lateStripped_roster_length]; exact h)

theorem lateJoin_rosterAt_ne {q : Nat} (ne : q ≠ sender) :
    (t.lateJoin reserve sender digest silent).table.rosterAt q = (t.lateStripped sender silent).rosterAt q := by
  rw [lateJoin_table, regrant_rosterAt]
  exact Table.rosterAt_setRoster_ne _ _ ne

theorem lateJoin_isPresent_ne {q : Nat} (ne : q ≠ sender) :
    (t.lateJoin reserve sender digest silent).table.isPresent q = (t.lateStripped sender silent).isPresent q := by
  unfold Table.isPresent; rw [lateJoin_rosterAt_ne _ _ ne]

theorem lateJoin_line (n : Nat) : (t.lateJoin reserve sender digest silent).table.line n = (t.line n).map fun r =>
    if t.latePurged sender silent r = r then r else LineRec.grantChoice reserve (t.latePurged sender silent r) := by
  rw [lateJoin_table, regrant_line reserve t (t.lateMade sender digest silent) (lateStripped_lines_length t sender silent).symm n,
    show (t.lateMade sender digest silent).line n = _ from lateStripped_line t sender silent n, Option.map_map]
  cases t.line n with
  | none => rfl
  | some r =>
    simp only [Option.map_some, Function.comp, Option.some.injEq, eq_comm (a := r)]
    split
    · next e => rw [e]
    · rfl

theorem lateJoin_pool : (t.lateJoin reserve sender digest silent).table.pool = t.pool.map fun p =>
    if t.latePurgedPool sender silent p = p then p else (t.latePurgedPool sender silent p).grantChoice.1 := by
  rw [lateJoin_table, regrant_pool, show (t.lateMade sender digest silent).pool = _ from lateStripped_pool t sender silent,
    Option.map_map]
  cases t.pool with
  | none => rfl
  | some p =>
    simp only [Option.map_some, Function.comp, Option.some.injEq, eq_comm (a := p)]
    split
    · next e => rw [e]
    · rfl

theorem lateJoin_rest : (t.lateJoin reserve sender digest silent).table.tokens = t.tokens.map (t.latePurgedTokens sender silent)
    ∧ (t.lateJoin reserve sender digest silent).table.digest = t.digest
    ∧ (t.lateJoin reserve sender digest silent).table.formed = t.formed := by
  rw [lateJoin_table]
  obtain ⟨tokens, digest', formed⟩ := regrant_rest reserve t (t.lateMade sender digest silent)
  obtain ⟨digestStands, formedStands⟩ := lateStripped_rest t sender silent
  exact ⟨tokens.trans (lateStripped_tokens t sender silent), digest'.trans digestStands, formed.trans formedStands⟩

end

/-! ### A silent-giver report -/

theorem reportedGiver_eq_some_iff (t : Table) (sender g : Nat) : t.reportedGiver sender = some g ↔
    (t.rosterAt sender).state = .joining ∧ (t.rosterAt sender).imageMark = false ∧ (t.rosterAt sender).giver = some g
      ∧ t.isPresent g = true := by
  unfold Table.reportedGiver
  constructor
  · intro h
    split at h
    · next unmarked =>
      split at h
      · next giver =>
        split at h <;> cases h
        next present => exact ⟨unmarked.1, by simpa using unmarked.2, giver, present⟩
      · cases h
    · cases h
  · rintro ⟨st, mark, giver, present⟩
    simp [st, mark, giver, present]

section
variable (reserve : Nat) (t : Table) (sender giver : Nat)

/-- R30: the table before grant choice. -/
def Table.reportMade : Table :=
  (t.strip giver).setRoster sender { state := .joining, giver := (t.strip giver).chooseGiver sender, imageMark := false }

theorem silentReport_table :
    (t.silentReport reserve sender giver).table = (Table.regrant reserve t (t.reportMade sender giver)).1 := rfl

theorem silentReport_giver : (t.silentReport reserve sender giver).giver = (t.strip giver).chooseGiver sender := rfl

theorem silentReport_rosterAt_sender (h : sender < t.roster.length) : (t.silentReport reserve sender giver).table.rosterAt sender =
    { state := .joining, giver := (t.silentReport reserve sender giver).giver, imageMark := false } := by
  rw [silentReport_table, regrant_rosterAt]
  exact Table.rosterAt_setRoster_self _ sender _ (by rw [strip_roster_length]; exact h)

variable {sender} in
theorem silentReport_rosterAt_ne {q : Nat} (ne : q ≠ sender) :
    (t.silentReport reserve sender giver).table.rosterAt q = (t.strip giver).rosterAt q := by
  rw [silentReport_table, regrant_rosterAt]
  exact Table.rosterAt_setRoster_ne _ _ ne

/-- But for the sender's record a silent-giver report leaves what the purge of the giver leaves. -/
theorem silentReport_records : (t.silentReport reserve sender giver).table.line = (t.purge reserve giver).1.line
    ∧ (t.silentReport reserve sender giver).table.pool = (t.purge reserve giver).1.pool
    ∧ (t.silentReport reserve sender giver).table.tokens = (t.purge reserve giver).1.tokens
    ∧ (t.silentReport reserve sender giver).table.digest = (t.purge reserve giver).1.digest
    ∧ (t.silentReport reserve sender giver).table.formed = (t.purge reserve giver).1.formed := by
  obtain ⟨tokens, digest, formed⟩ := regrant_rest reserve t (t.reportMade sender giver)
  obtain ⟨tokens', digest', formed'⟩ := regrant_rest reserve t (t.strip giver)
  refine ⟨?_, ?_, tokens.trans tokens'.symm, digest.trans digest'.symm, formed.trans formed'.symm⟩
  · funext n
    exact (regrant_line reserve t (t.reportMade sender giver) (strip_lines_length t giver).symm n).trans
      (regrant_line reserve t (t.strip giver) (strip_lines_length t giver).symm n).symm
  · exact (regrant_pool reserve t (t.reportMade sender giver)).trans (regrant_pool reserve t (t.strip giver)).symm

end

end Sys2Proof.Machine
end

section
/-! A take at an ATTACHED station (R10, R31, R39, R100): what is applied by the kind of the notice, and the takes that make this
station DETACHED. -/

namespace Sys2Proof.Machine

/-! ### What is applied -/

section
variable {s : State} {sender : Nat} {n : Notice}

theorem bookTake_bt : (s.bookTake sender n).bt = s.bt := (keepsTable_bookTake s sender n).bt

theorem outOfStep_bookTake : (s.bookTake sender n).outOfStep sender n = s.outOfStep sender n := by
  unfold State.outOfStep
  rw [bookTake_bt, bookTake_me]

/-- An ATTACHED station's take that is neither out of step nor its own LEAVE or JOIN. -/
theorem take_applies (hears : s.hears = true) (att : s.ssl.state = .attached) (step : s.outOfStep sender n = false)
    (leave : ¬ (sender = s.me ∧ n = .leave)) (join : ¬ (sender = s.me ∧ noticeKind n = 1)) :
    s.take sender n = ((s.bookTake sender n).applyTake sender n).afterTake.settle := by
  rw [take_attached hears att]
  unfold State.takeAttached
  rw [outOfStep_bookTake, step, if_neg Bool.false_ne_true, bookTake_me, if_neg leave, if_neg join]

theorem applyTake_join (station digest : Nat) (silent : Option Nat) :
    (s.bookTake sender (.join station digest silent)).applyTake sender (.join station digest silent) =
      (s.bookTake sender (.join station digest silent)).takeEffects (s.bt.lateJoin s.bay.reserve sender digest silent).table
        (s.bt.lateJoin s.bay.reserve sender digest silent).effects
        fun u => u.giveImage sender (s.bt.lateJoin s.bay.reserve sender digest silent).giver (s.bt.digestAgrees digest) := by
  simp only [State.applyTake, State.joinAttached, bookTake_bt, bookTake_bay]

theorem applyTake_formed_unreported (h : s.bt.reportedGiver sender = none) :
    (s.bookTake sender .formed).applyTake sender .formed = (s.bookTake sender .formed).takeEffects s.bt [] id := by
  simp only [State.applyTake, State.formedAttached, bookTake_bt, h]

theorem applyTake_formed_reported {g : Nat} (h : s.bt.reportedGiver sender = some g) :
    (s.bookTake sender .formed).applyTake sender .formed =
      (s.bookTake sender .formed).takeEffects (s.bt.silentReport s.bay.reserve sender g).table
        (s.bt.silentReport s.bay.reserve sender g).effects
        fun u => u.giveImage sender (s.bt.silentReport s.bay.reserve sender g).giver (s.bt.reportedResult sender) := by
  simp only [State.applyTake, State.formedAttached, bookTake_bt, bookTake_bay, h]

theorem applyTake_image (joiner : Nat) (img : Image) :
    (s.bookTake sender (.image joiner img)).applyTake sender (.image joiner img) =
      (s.bookTake sender (.image joiner img)).takeEffects (s.bt.markImageFrom sender joiner) []
        fun u => if sender = s.me then u.cursorAdvance else u := by
  simp only [State.applyTake, State.imageAttached, bookTake_bt, bookTake_me]

theorem applyTake_imageEnd (joiner result count : Nat) :
    (s.bookTake sender (.imageEnd joiner result count)).applyTake sender (.imageEnd joiner result count) =
      (s.bookTake sender (.imageEnd joiner result count)).takeEffects (s.bt.imageEndFrom sender joiner result) []
        fun u => if sender = s.me then u.cursorDrop joiner else u := by
  simp only [State.applyTake, State.imageEndAttached, bookTake_bt, bookTake_me]

theorem applyTake_other (kind : 5 ≤ noticeKind n) : (s.bookTake sender n).applyTake sender n =
    (s.bookTake sender n).takeEffects (s.bt.takeOther s.bay.reserve s.bay.mixersEquipped s.me sender n).1
      (s.bt.takeOther s.bay.reserve s.bay.mixersEquipped s.me sender n).2 id := by
  unfold State.applyTake
  cases n <;> simp [noticeKind] at kind <;> simp only [bookTake_bt, bookTake_me, bookTake_bay]

theorem outOfStep_other (kind : 5 ≤ noticeKind n) (hs : (s.bt.rosterAt sender).state ≠ .absent) :
    s.outOfStep sender n = false := by
  unfold State.outOfStep
  cases n <;> simp [noticeKind] at kind ⊢ <;> exact hs

end

theorem keepsTable_imageCursor (own : Bool) (f : State → State) (h : ∀ u, KeepsTable u (f u)) (u : State) :
    KeepsTable u (if own then f u else u) := by
  cases own
  · exact KeepsTable.refl u
  · exact h u

/-! ### The station DETACHED -/

/-- R39, R40: what a station that has gone DETACHED from `s` shows once the order book has settled. -/
structure ShowsDetached (s t : State) (reason : DetachReason) : Prop where
  state : t.ssl.state = .detached
  reason : t.ssl.lastDetach = reason
  rejoin : t.ssl.rejoinTimer = some (2000 + 100 * s.me)
  gone : t.bt = Table.empty
  list : t.blu.list = []
  held : t.blu.held = []
  joiners : t.blu.cursor.joiners = []
  timers : ∀ i, (t.timer i).state = .stopped
  setup : t.setup = s.setup
  pins : t.pins = s.pins

theorem showsDetached_settle {s u : State} (reason : DetachReason) (setup : u.setup = s.setup) (pins : u.pins = s.pins) :
    ShowsDetached s (u.detach reason).settle reason := by
  have ssl := detach_ssl u reason
  have out : (u.detach reason).isAttached = false := by unfold State.isAttached; rw [ssl]; rfl
  have gone := (detach_gone u reason).settle out
  have settled := (sameBay_settle (u.detach reason)).ssl.trans ssl
  refine ⟨by rw [settled], by rw [settled]; rfl, ?_, gone.bt, by rw [gone.blu]; rfl, by rw [gone.blu]; rfl, by rw [gone.blu]; rfl,
    gone.timers, gone.setup.trans setup, gone.pins.trans pins⟩
  rw [settled, ← State.me_of_setup setup]
  rfl

/-- R39 (d): a take that shows this station out of step. -/
theorem take_outOfStep {s : State} {sender : Nat} {n : Notice} (hears : s.hears = true) (att : s.ssl.state = .attached)
    (step : s.outOfStep sender n = true) : ShowsDetached s (s.take sender n) .outOfStep := by
  have detached : s.take sender n = ((s.bookTake sender n).detach .outOfStep).settle := by
    rw [take_attached hears att]
    unfold State.takeAttached
    rw [outOfStep_bookTake, step, if_pos rfl]
  rw [detached]
  exact showsDetached_settle _ (keepsTable_bookTake s sender n).setup (keepsTable_bookTake s sender n).pins

/-- R39 (c), R100: a take whose table no longer has this station PRESENT. -/
theorem take_purged {s : State} {sender : Nat} {n : Notice} (t : Table) (es : List Effect) (cursor : State → State)
    (hears : s.hears = true) (att : s.ssl.state = .attached) (step : s.outOfStep sender n = false)
    (leave : ¬ (sender = s.me ∧ n = .leave)) (join : ¬ (sender = s.me ∧ noticeKind n = 1)) (h : ∀ u, KeepsTable u (cursor u))
    (applied : (s.bookTake sender n).applyTake sender n = (s.bookTake sender n).takeEffects t es cursor)
    (absent : t.isPresent s.me = false) : ShowsDetached s (s.take sender n) .purged := by
  have booked := keepsTable_bookTake s sender n
  have effects := keepsTable_takeEffects (s.bookTake sender n) t es cursor h
  have me : ((s.bookTake sender n).takeEffects t es cursor).me = s.me :=
    (State.me_of_setup effects.setup).trans (State.me_of_setup booked.setup)
  have detached : s.take sender n =
      ((((s.bookTake sender n).takeEffects t es cursor).modBt Table.counted).detach .purged).settle := by
    rw [take_applies hears att step leave join, applied]
    unfold State.afterTake
    simp only
    rw [if_neg]
    rw [Bool.not_eq_true]
    show ((s.bookTake sender n).takeEffects t es cursor).bt.isPresent ((s.bookTake sender n).takeEffects t es cursor).me = false
    rw [effects.bt, me]
    exact absent
  rw [detached]
  exact showsDetached_settle _ (effects.setup.trans booked.setup) (effects.pins.trans booked.pins)

/-- R39 (c), R94: a REVOKE that matches a holding of this station. -/
theorem take_revoked {s : State} {sender : Nat} {subject : HoldKey} {grant : Nat} (member : s.member = true)
    (present : s.bt.isPresent sender = true) (lt : s.me < 16) (hg : grant ≤ 255)
    (matched : s.bt.revokeMatches s.bay.mixersEquipped subject s.me grant = true) :
    ShowsDetached s (s.take sender (.revoke subject s.me grant)) .purged := by
  obtain ⟨hears, att, _⟩ := s.member_iff.1 member
  have kind : 5 ≤ noticeKind (.revoke subject s.me grant) := by simp [noticeKind]
  have purged : s.bt.takeOther s.bay.reserve s.bay.mixersEquipped s.me sender (.revoke subject s.me grant) =
      s.bt.purge s.bay.reserve s.me := by
    unfold Table.takeOther Table.revoke
    simp [present, matched, show ¬ 15 < s.me by omega, show ¬ 255 < grant by omega]
  refine take_purged _ _ id hears att (outOfStep_other kind (Table.not_absent_of_isPresent present)) nofun (by simp [noticeKind])
    KeepsTable.refl (applyTake_other kind) ?_
  rw [purged]
  exact purge_isPresent_self _ _ _

/-- R31 (b), R39 (c): a JOIN that shows this station silent. -/
theorem take_join_silent {s : State} {sender : Nat} (station digest : Nat) {silent : Option Nat} (member : s.member = true)
    (other : sender ≠ s.me) (victim : s.bt.lateVictim sender silent = some s.me) :
    ShowsDetached s (s.take sender (.join station digest silent)) .purged := by
  obtain ⟨hears, att, _⟩ := s.member_iff.1 member
  refine take_purged _ _ _ hears att rfl nofun (fun h => other h.1) (fun u => keepsTable_giveImage u _ _ _)
    (applyTake_join station digest silent) ?_
  rw [lateJoin_isPresent_ne _ _ (Ne.symm other)]
  exact lateStripped_isPresent_victim _ _ _ victim

/-- R30, R39 (c): a FORMED that shows this station silent. -/
theorem take_formed_silent {s : State} {sender : Nat} (member : s.member = true) (other : sender ≠ s.me)
    (giver : s.bt.reportedGiver sender = some s.me) : ShowsDetached s (s.take sender .formed) .purged := by
  obtain ⟨hears, att, _⟩ := s.member_iff.1 member
  refine take_purged _ _ _ hears att rfl nofun (by simp [noticeKind]) (fun u => keepsTable_giveImage u _ _ _)
    (applyTake_formed_reported giver) ?_
  refine (Table.not_isPresent_iff _ _).2 ?_
  rw [silentReport_rosterAt_ne _ _ _ (Ne.symm other), strip_rosterAt_self]
  decide

end Sys2Proof.Machine

namespace Sys2Proof

open Machine

/-- Settles O23: each of these takes leaves a table without this station, or shows it out of step. -/
theorem takesThatDetachThisStation : Obligations.TakesThatDetachThisStation := by
  refine ⟨fun s sender n h r member present lt line holder station grant => ?_,
    fun c s sender n taken hears att shown => ?_, fun c s sender member length lt _ shown => ?_⟩
  · have matched : s.bt.revokeMatches s.bay.mixersEquipped (.line n) s.me h.grant = true := by
      rw [revokeMatches_line _ _ line, holder]
      exact (releaseMatches_iff _ _ _).2 ⟨station, rfl⟩
    have shows := take_revoked member present lt grant matched
    exact ⟨_, rfl, shows.state, shows.reason, shows.gone, shows.rejoin, shows.timers, shows.setup, shows.pins⟩
  · have step : s.outOfStep sender n = true := by
      unfold State.outOfStep
      rcases shown with ⟨join, formed, absent⟩ | ⟨img, rfl⟩
      · cases n <;> simp [noticeKind, absent] at join formed ⊢
      · simp
    have shows := take_outOfStep hears att step
    exact ⟨_, exec_of_taken c s sender n taken, shows.state, shows.reason, shows.gone, shows.rejoin, shows.setup, shows.pins⟩
  · have present : s.bt.isPresent s.me = true := (s.member_iff.1 member).2.2
    have other : (s.bt.rosterAt sender).state = .joining → sender ≠ s.me := by
      rintro joining rfl
      rw [Table.isPresent_of_joining joining] at present
      cases present
    have detached : ∃ n, c.taken = some (sender, n) ∧ ShowsDetached s (s.take sender n) .purged := by
      rcases shown with ⟨m, p, r, rfl, member', pool, equipped, hr, st, holder, grant⟩ | ⟨station, digest, rfl, ne⟩
        | ⟨station, digest, rfl, joining, mark, giver⟩ | ⟨rfl, joining, mark, giver⟩
      · refine ⟨_, rfl, take_revoked member member' lt grant ?_⟩
        rw [revokeMatches_mixer _ _ pool hr equipped]
        exact (mixerMatches_iff _ _ _).2 ⟨st, holder, rfl⟩
      · exact ⟨_, rfl, take_join_silent station digest member ne (lateVictim_named _ (Ne.symm ne) present)⟩
      · exact ⟨_, rfl, take_join_silent station digest member (other joining)
          (lateVictim_recorded _ joining mark giver (Ne.symm (other joining)) present)⟩
      · exact ⟨_, rfl, take_formed_silent member (other joining) ((reportedGiver_eq_some_iff _ _ _).2 ⟨joining, mark, giver, present⟩)⟩
    obtain ⟨n, taken, shows⟩ := detached
    exact ⟨_, exec_of_taken c s sender n taken, shows.state, shows.reason, shows.gone, shows.list, shows.held, shows.joiners,
      shows.rejoin, shows.timers, shows.setup, shows.pins⟩

end Sys2Proof
end

section
/-! The takes that purge another station (R30, R31, R38, R95, R98). -/

namespace Sys2Proof.Machine

/-- A take applied that leaves this station PRESENT. -/
theorem take_applied {s : State} {sender : Nat} {n : Notice} {t : Table} {es : List Effect} {cursor : State → State}
    (hears : s.hears = true) (att : s.ssl.state = .attached) (step : s.outOfStep sender n = false)
    (leave : ¬ (sender = s.me ∧ n = .leave)) (join : ¬ (sender = s.me ∧ noticeKind n = 1)) (h : ∀ u, KeepsTable u (cursor u))
    (applied : (s.bookTake sender n).applyTake sender n = (s.bookTake sender n).takeEffects t es cursor)
    (present : t.isPresent s.me = true) : (s.take sender n).bt = t.counted ∧ s.sameOutside (s.take sender n) := by
  rw [take_of_applied s sender n t es cursor hears att (outOfStep_bookTake.trans step) leave join h applied present]
  obtain ⟨setup, ssl, bt, pins, pending⟩ := takenWith_table s sender n t es cursor h
  exact ⟨bt, setup, ssl, pins, pending⟩

/-- R38, R95, R98: a take that purges another station. -/
theorem take_purges {s : State} {sender S : Nat} {n : Notice} (member : s.member = true) (kind : 5 ≤ noticeKind n)
    (hs : (s.bt.rosterAt sender).state ≠ .absent) (leave : ¬ (sender = s.me ∧ n = .leave)) (other : S ≠ s.me)
    (purged : (s.bt.takeOther s.bay.reserve s.bay.mixersEquipped s.me sender n).1 = (s.bt.purge s.bay.reserve S).1) :
    (s.take sender n).bt = (s.bt.purge s.bay.reserve S).1.counted ∧ s.sameOutside (s.take sender n) := by
  obtain ⟨hears, att, present⟩ := s.member_iff.1 member
  rw [← purged]
  refine take_applied hears att (outOfStep_other kind hs) leave (by omega) KeepsTable.refl (applyTake_other kind) ?_
  rw [purged, purge_isPresent_ne _ _ _ (Ne.symm other)]
  exact present

theorem takeOther_leave {t : Table} {S : Nat} (reserve mixers me : Nat) (h : t.isPresent S = true) :
    (t.takeOther reserve mixers me S .leave).1 = (t.purge reserve S).1 := by
  simp [Table.takeOther, Table.leave, h]

/-- R95: a REVOKE that matches purges the holder it names. -/
theorem takeOther_revoke {t : Table} {sender S grant : Nat} {subject : HoldKey} (reserve mixers me : Nat)
    (h : t.isPresent sender = true) (lt : S < 16) (hg : grant ≤ 255) (matched : t.revokeMatches mixers subject S grant = true) :
    (t.takeOther reserve mixers me sender (.revoke subject S grant)).1 = (t.purge reserve S).1 := by
  unfold Table.takeOther Table.revoke
  simp [h, matched, show ¬ 15 < S by omega, show ¬ 255 < grant by omega]

/-- R31: a late JOIN of another station that leaves this one PRESENT. -/
theorem take_join {s : State} {sender : Nat} (station digest : Nat) {silent : Option Nat} (member : s.member = true)
    (other : sender ≠ s.me) (spared : s.bt.lateVictim sender silent ≠ some s.me) :
    (s.take sender (.join station digest silent)).bt = (s.bt.lateJoin s.bay.reserve sender digest silent).table.counted
      ∧ s.sameOutside (s.take sender (.join station digest silent)) := by
  obtain ⟨hears, att, present⟩ := s.member_iff.1 member
  refine take_applied hears att rfl nofun (fun h => other h.1) (fun u => keepsTable_giveImage u _ _ _)
    (applyTake_join station digest silent) ?_
  rw [lateJoin_isPresent_ne _ _ (Ne.symm other), lateStripped_isPresent_other _ _ _ (Ne.symm other) spared]
  exact present

/-- R30: a FORMED that reports another station silent. -/
theorem take_formed_reported {s : State} {sender S : Nat} (member : s.member = true) (other : S ≠ s.me)
    (giver : s.bt.reportedGiver sender = some S) :
    (s.take sender .formed).bt = (s.bt.silentReport s.bay.reserve sender S).table.counted ∧ s.sameOutside (s.take sender .formed) := by
  obtain ⟨hears, att, present⟩ := s.member_iff.1 member
  have ne : s.me ≠ sender := by
    rintro rfl
    rw [Table.isPresent_of_joining ((reportedGiver_eq_some_iff _ _ _).1 giver).1] at present
    cases present
  refine take_applied hears att rfl nofun (by simp [noticeKind]) (fun u => keepsTable_giveImage u _ _ _)
    (applyTake_formed_reported giver) ?_
  unfold Table.isPresent
  rw [silentReport_rosterAt_ne _ _ _ ne, strip_rosterAt_ne _ _ (Ne.symm other)]
  exact present

/-- R30: any other FORMED. -/
theorem take_formed_unreported {s : State} {sender : Nat} (member : s.member = true)
    (giver : s.bt.reportedGiver sender = none) :
    (s.take sender .formed).bt = s.bt.counted ∧ s.sameOutside (s.take sender .formed) := by
  obtain ⟨hears, att, present⟩ := s.member_iff.1 member
  exact take_applied hears att rfl nofun (by simp [noticeKind]) KeepsTable.refl (applyTake_formed_unreported giver) present

theorem freeHolder_none {S : Nat} {x : TokenHolder} (h : x.station = S) : freeHolder S (some x) = none := if_pos h

theorem freeHolder_eq_self {S : Nat} {h : Option TokenHolder} (other : ∀ x, h = some x → x.station ≠ S) : freeHolder S h = h := by
  cases h with
  | none => rfl
  | some x => exact if_neg (other x rfl)

section
variable (freed : Rush → Bool)

/-- R55: a waiting claim that carries a freed token loses its rush. -/
theorem loseRush_claim (c : Claim) : { c with rush := loseRush freed c.rush } =
    if c.rush ≠ .none ∧ freed c.rush = true then { c with rush := .none } else c := by
  unfold loseRush
  simp only [Bool.and_eq_true, bne_iff_ne]
  split <;> rfl

theorem loseRush_mixClaim (c : MixClaim) : { c with rush := loseRush freed c.rush } =
    if c.rush ≠ .none ∧ freed c.rush = true then { c with rush := .none } else c := by
  unfold loseRush
  simp only [Bool.and_eq_true, bne_iff_ne]
  split <;> rfl

end

/-- The lowest PRESENT station that a late JOIN finds is the lowest of those it spares. -/
theorem lateGiver_spec {t : Table} {sender g : Nat} {silent : Option Nat}
    (h : (t.lateStripped sender silent).chooseGiver sender = some g) : t.isPresent g = true ∧ g ≠ sender
      ∧ t.lateVictim sender silent ≠ some g
      ∧ ∀ q, q < g → q ≠ sender → t.lateVictim sender silent ≠ some q → t.isPresent q = false := by
  obtain ⟨_, ne, present, lower⟩ := (chooseGiver_eq_some_iff _ _ _).1 h
  have spared : t.lateVictim sender silent ≠ some g := fun e => by
    rw [lateStripped_isPresent_victim t sender silent e] at present
    cases present
  refine ⟨by rw [← lateStripped_isPresent_other t sender silent ne spared]; exact present, ne, spared, fun q hq qne qspared => ?_⟩
  rw [← lateStripped_isPresent_other t sender silent qne qspared]
  exact lower q hq qne

/-- R30: the lowest PRESENT station once the silent giver is purged. -/
theorem reportGiver_spec {t : Table} {sender S g : Nat} (h : (t.strip S).chooseGiver sender = some g) :
    t.isPresent g = true ∧ g ≠ S ∧ ∀ q, q < g → q ≠ S → q ≠ sender → t.isPresent q = false := by
  obtain ⟨_, _, present, lower⟩ := (chooseGiver_eq_some_iff _ _ _).1 h
  have ne : g ≠ S := by
    rintro rfl
    rw [(Table.not_isPresent_iff _ _).2 (by rw [strip_rosterAt_self]; decide)] at present
    cases present
  refine ⟨by rw [← strip_isPresent_ne t ne]; exact present, ne, fun q hq qS qne => ?_⟩
  rw [← strip_isPresent_ne t qS]
  exact lower q hq qne

end Sys2Proof.Machine

namespace Sys2Proof

open Machine

/-- Settles O22: the take of each of these leaves the table of the purge, the late join or the report, record by record. -/
theorem leaveAndRevokePurgeTheStation : Obligations.LeaveAndRevokePurgeTheStation := by
  refine ⟨fun c s S member present lt other shown => ?_,
    fun s sender station digest silent victim before member length lt other hbefore spared victims shown => ?_,
    fun s sender member length lt => ⟨fun shown => ?_, fun S joining mark giver present lt' other => ?_⟩,
    fun S h => ⟨fun x hx hS => hx ▸ freeHolder_none hS, freeHolder_eq_self⟩, fun S freed r kept hkept => ?_, fun S freed p => ?_⟩
  · have purges : ∃ sender n, c.taken = some (sender, n)
        ∧ (s.take sender n).bt = (s.bt.purge s.bay.reserve S).1.counted ∧ s.sameOutside (s.take sender n) := by
      rcases shown with rfl | ⟨sender, n, h, r, rfl, present', line, holder, rfl, grant⟩
        | ⟨sender, m, p, r, rfl, present', pool, equipped, hr, st, holder, grant⟩
      · exact ⟨_, _, rfl, take_purges member (by simp [noticeKind]) (Table.not_absent_of_isPresent present) (fun h => other h.1) other
          (takeOther_leave _ _ _ present)⟩
      · refine ⟨_, _, rfl, take_purges member (by simp [noticeKind]) (Table.not_absent_of_isPresent present') nofun other
          (takeOther_revoke _ _ _ present' lt grant ?_)⟩
        rw [revokeMatches_line _ _ line, holder]
        exact (releaseMatches_iff _ _ _).2 ⟨rfl, rfl⟩
      · refine ⟨_, _, rfl, take_purges member (by simp [noticeKind]) (Table.not_absent_of_isPresent present') nofun other
          (takeOther_revoke _ _ _ present' lt grant ?_)⟩
        rw [revokeMatches_mixer _ _ pool hr equipped]
        exact (mixerMatches_iff _ _ _).2 ⟨st, holder, rfl⟩
    obtain ⟨sender, n, taken, bt, outside⟩ := purges
    obtain ⟨tokens, digest, formed⟩ := purge_rest s.bay.reserve s.bt S
    refine ⟨_, exec_of_taken c s sender n taken, outside, ?_, ?_, ?_, ?_, ?_, ?_, ?_⟩ <;> rw [bt]
    · exact purge_rosterAt_self _ _ _
    · exact fun q ne => purge_rosterAt_ne _ _ _ ne
    · exact digest
    · exact formed
    · exact fun tk htk => tokens.trans (by rw [htk]; rfl)
    · exact fun n r hr => (purge_line s.bay.reserve s.bt S n).trans (by rw [hr]; rfl)
    · exact fun p hp => (purge_pool s.bay.reserve s.bt S).trans (by rw [hp]; rfl)
  · have is : s.bt.lateVictim sender silent = victim := by
      rcases shown with ⟨rfl, named⟩ | ⟨rfl, joining, mark, rfl⟩ | ⟨rfl, rfl, unrecorded⟩ | ⟨S, rfl, rfl, none'⟩
      · obtain ⟨S, rfl⟩ := Option.ne_none_iff_exists'.1 named
        obtain ⟨present, ne⟩ := victims S rfl
        exact lateVictim_named _ ne present
      · subst hbefore
        cases giver : (s.bt.rosterAt sender).giver with
        | none => exact lateVictim_unrecorded _ (.inr (.inr fun S h => by rw [giver] at h; cases h))
        | some S =>
          obtain ⟨present, ne⟩ := victims S giver
          exact lateVictim_recorded _ joining mark giver ne present
      · exact lateVictim_unrecorded _ (hbefore ▸ unrecorded)
      · exact lateVictim_named_none _ none'
    subst is
    obtain ⟨bt, outside⟩ := take_join station digest (silent := silent) member other spared
    have present := (s.member_iff.1 member).2.2
    have lt' : s.me < 16 := length ▸ Table.lt_of_not_absent (Table.not_absent_of_isPresent present)
    obtain ⟨g, hg⟩ : ∃ g, (s.bt.lateStripped sender silent).chooseGiver sender = some g :=
      exists_giver (q := s.me) (by rw [lateStripped_isPresent_other _ _ _ (Ne.symm other) spared]; exact present) lt' (Ne.symm other)
    obtain ⟨giverPresent, giverOther, giverSpared, lowest⟩ := lateGiver_spec hg
    obtain ⟨tokens, digest', formed⟩ := lateJoin_rest (silent := silent) (digest := digest) (sender := sender) s.bay.reserve s.bt
    refine ⟨_, g, exec_of_taken _ s sender _ rfl, outside, ?_, giverPresent, giverOther, giverSpared, lowest, ?_, ?_, ?_, ?_, ?_,
      ?_, ?_, ?_⟩ <;> rw [bt]
    · refine (lateJoin_rosterAt_sender s.bay.reserve s.bt (length ▸ lt)).trans ?_
      rw [lateJoin_giver, hg]
    · exact fun S hS _ => (lateJoin_rosterAt_ne _ _ (lateVictim_present _ hS).1).trans (lateStripped_rosterAt_victim _ _ _ hS)
    · exact fun q ne spared => (lateJoin_rosterAt_ne _ _ ne).trans (lateStripped_rosterAt_other _ _ _ ne spared)
    · rintro n r own both hr rfl rfl
      refine (lateJoin_line s.bay.reserve s.bt n).trans ?_
      rw [hr, hbefore]
      rfl
    · rintro p own both hp rfl rfl
      refine (lateJoin_pool s.bay.reserve s.bt).trans ?_
      rw [hp, hbefore]
      rfl
    · rintro tk own both htk rfl rfl
      refine tokens.trans ?_
      rw [htk, hbefore]
      rfl
    · exact digest'
    · exact formed
    · exact lateJoin_joinResults _ _ _ _ _
  · have giver : s.bt.reportedGiver sender = none := by
      by_contra some'
      obtain ⟨g, hg⟩ := Option.ne_none_iff_exists'.1 some'
      obtain ⟨joining, mark, giver, present⟩ := (reportedGiver_eq_some_iff _ _ _).1 hg
      rcases shown with h | h | h
      · exact h joining
      · rw [mark] at h; cases h
      · rw [h g giver] at present; cases present
    obtain ⟨bt, outside⟩ := take_formed_unreported member giver
    exact ⟨_, rfl, outside, bt⟩
  · have reported := (reportedGiver_eq_some_iff _ _ _).2 ⟨joining, mark, giver, present⟩
    obtain ⟨bt, outside⟩ := take_formed_reported member other reported
    have present' := (s.member_iff.1 member).2.2
    have absent := Table.isPresent_of_joining joining
    have ne : s.me ≠ sender := by rintro e; rw [e, absent] at present'; cases present'
    have ne' : S ≠ sender := by rintro rfl; rw [absent] at present; cases present
    obtain ⟨g, hg⟩ : ∃ g, (s.bt.strip S).chooseGiver sender = some g :=
      exists_giver (q := s.me) (by rw [strip_isPresent_ne _ (Ne.symm other)]; exact present')
        (length ▸ Table.lt_of_not_absent (Table.not_absent_of_isPresent present')) ne
    obtain ⟨giverPresent, giverOther, lowest⟩ := reportGiver_spec hg
    obtain ⟨line, pool, tokens, digest, formed⟩ := silentReport_records s.bay.reserve s.bt sender S
    obtain ⟨tokens', digest', formed'⟩ := purge_rest s.bay.reserve s.bt S
    refine ⟨_, g, rfl, outside, ?_, ?_, giverPresent, giverOther, fun q hq qS => ?_, ?_, ?_, ?_, ?_, ?_, ?_, ?_⟩
    rotate_left 2
    · by_cases e : q = sender
      · rw [e]; exact absent
      · exact lowest q hq qS e
    all_goals rw [bt]
    · exact fun q qne qS => (silentReport_rosterAt_ne _ _ _ qne).trans (strip_rosterAt_ne _ _ qS)
    · exact fun n r hr => (congrFun line n).trans ((purge_line s.bay.reserve s.bt S n).trans (by rw [hr]; rfl))
    · exact fun p hp => pool.trans ((purge_pool s.bay.reserve s.bt S).trans (by rw [hp]; rfl))
    · exact fun tk htk => tokens.trans (tokens'.trans (by rw [htk]; rfl))
    · exact digest.trans digest'
    · exact formed.trans formed'
    · exact silentReport_joinResults _ _ _ _
    · exact (silentReport_rosterAt_ne _ _ _ ne').trans (strip_rosterAt_self _ _)
    · refine (silentReport_rosterAt_sender s.bay.reserve s.bt sender S (length ▸ lt)).trans ?_
      rw [silentReport_giver, hg]
  · have waiting : ((r.waiting.filter fun c => c.station != S).map fun c => { c with rush := loseRush freed c.rush }) = kept :=
      (List.map_congr_left fun c _ => loseRush_claim freed c).trans hkept.symm
    unfold LineRec.purge
    simp only
    rw [waiting]
    refine ⟨fun h holder station => ?_, fun others => ?_⟩
    · simp [holder, station]
    · cases holder : r.holder with
      | none => simp
      | some h => simp [others h holder]
  · refine ⟨List.map_congr_left fun c _ => loseRush_mixClaim freed c, List.length_map _, fun m r hr => ?_⟩
    simp [Pool.purge, hr]

end Sys2Proof
end

section
/-! IMAGE and IMAGE END, at the members and at a joiner (R26, R31, R33, R35, R89). -/

namespace Sys2Proof.Machine

/-! ### At a joiner -/

section
variable {s : State} {sender : Nat} {n : Notice}

theorem bookTake_joinTaken : (s.bookTake sender n).ssl.joinTaken = s.ssl.joinTaken := by
  rw [(keepsTable_bookTake s sender n).ssl]

/-- R26: whether a sender stands JOINING in the roster of a joiner. -/
theorem fromJoiner_bookTake (q : Nat) :
    (s.bookTake sender n).fromJoiner q = true ↔ (s.bt.rosterAt q).state = .joining := by
  unfold State.fromJoiner
  rw [bookTake_bt, beq_iff_eq]

variable (hears : s.hears = true) (st : s.ssl.state = .joining) (taken : s.ssl.joinTaken = true)
include hears st taken

theorem take_image_here (img : Image) (ordinary : (s.bt.rosterAt sender).state ≠ .joining) :
    s.take sender (.image s.me img) = ((s.bookTake sender (.image s.me img)).imageHere sender img).settle := by
  rw [take_joining hears st]
  unfold State.takeJoining State.imageJoining
  simp only [bookTake_joinTaken, taken, fromJoiner_bookTake, ordinary, bookTake_me, if_true, if_false]

/-- R26, R33 (a): an IMAGE for this joiner of a sender that stands JOINING. -/
theorem take_image_discarded (img : Image) (joining : (s.bt.rosterAt sender).state = .joining) :
    s.take sender (.image s.me img) = ((s.bookTake sender (.image s.me img)).restartImageTimer s.me).settle := by
  rw [take_joining hears st]
  unfold State.takeJoining State.imageJoining
  simp only [bookTake_joinTaken, taken, fromJoiner_bookTake, joining, if_true]

theorem take_imageEnd_accepted (count : Nat) (ordinary : (s.bt.rosterAt sender).state ≠ .joining) :
    s.take sender (.imageEnd s.me 0 count) = ((s.bookTake sender (.imageEnd s.me 0 count)).accepted count).settle := by
  rw [take_joining hears st]
  unfold State.takeJoining State.imageEndJoining
  simp only [bookTake_joinTaken, taken, fromJoiner_bookTake, ordinary, bookTake_me, if_true, if_false, imageResultOfCode]

theorem take_imageEnd_refused (count : Nat) (ordinary : (s.bt.rosterAt sender).state ≠ .joining) :
    s.take sender (.imageEnd s.me 1 count) = ((s.bookTake sender (.imageEnd s.me 1 count)).refuse).settle := by
  rw [take_joining hears st]
  unfold State.takeJoining State.imageEndJoining
  simp only [bookTake_joinTaken, taken, fromJoiner_bookTake, ordinary, bookTake_me, if_true, if_false, imageResultOfCode]

/-- R26, R33 (a): an IMAGE END for this joiner of a sender that stands JOINING. -/
theorem take_imageEnd_discarded (result count : Nat) (joining : (s.bt.rosterAt sender).state = .joining) :
    s.take sender (.imageEnd s.me result count) =
      ((s.bookTake sender (.imageEnd s.me result count)).restartImageTimer s.me).settle := by
  rw [take_joining hears st]
  unfold State.takeJoining State.imageEndJoining
  simp only [bookTake_joinTaken, taken, fromJoiner_bookTake, joining, if_true]

/-- R31, R33: another's JOIN at a joiner, a late join once the roster is imaged. -/
theorem take_joiner_join (station digest : Nat) (silent : Option Nat) (other : sender ≠ s.me) :
    s.take sender (.join station digest silent) =
      (if s.bt.tokens.isSome then
        { s.bookTake sender (.join station digest silent) with bt := (s.bt.lateJoin s.bay.reserve sender digest silent).table }
      else s.bookTake sender (.join station digest silent)).settle := by
  rw [take_joining hears st]
  unfold State.takeJoining
  simp only [bookTake_me, other, if_false, bookTake_joinTaken, taken, bookTake_bt, bookTake_bay, true_and]

/-- R30, R33: a FORMED at a joiner, a silent-giver report once the roster is imaged. -/
theorem take_joiner_formed_reported {g : Nat} (imaged : s.bt.tokens.isSome = true) (reported : s.bt.reportedGiver sender = some g) :
    s.take sender .formed =
      (State.settle { s.bookTake sender .formed with bt := (s.bt.silentReport s.bay.reserve sender g).table }) := by
  rw [take_joining hears st]
  unfold State.takeJoining
  simp only [bookTake_joinTaken, taken, bookTake_bt, bookTake_bay, imaged, reported, and_self, if_true]

theorem take_joiner_formed_unreported (h : s.bt.tokens.isSome = false ∨ s.bt.reportedGiver sender = none) :
    s.take sender .formed = (s.bookTake sender .formed).settle := by
  rw [take_joining hears st]
  unfold State.takeJoining
  simp only [bookTake_joinTaken, taken, bookTake_bt, true_and]
  split
  · next imaged => rw [h.resolve_left (by simp [imaged])]
  · rfl

/-- R33: a take of a kind that has no rule of its own at a joiner. -/
theorem take_joiner_other (kind : 5 ≤ noticeKind n) : s.take sender n = (State.settle { s.bookTake sender n with
    bt := (s.bt.takeOther s.bay.reserve s.bay.mixersEquipped s.me sender n).1 }) := by
  rw [take_joining hears st, ← bookTake_bt (s := s) (sender := sender) (n := n), ← bookTake_bay (s := s) (sender := sender) (n := n),
    ← bookTake_me (s := s) (sender := sender) (n := n)]
  have booked : (s.bookTake sender n).ssl.joinTaken = true := bookTake_joinTaken.trans taken
  unfold State.takeJoining
  cases n <;> simp only [noticeKind, Nat.reduceLeDiff] at kind <;> simp only [booked, if_true]

end

theorem restartImageTimer_here (s : State) :
    s.restartImageTimer s.me = s.modSsl fun l => { l with imageTimer := some 5000 } := if_neg (by simp)

/-- R26: an IMAGE or IMAGE END for this joiner that is discarded restarts the image timer alone. -/
theorem restarted_shows {s u : State} (h : KeepsTable s u) :
    (u.restartImageTimer s.me).settle.ssl = { s.ssl with imageTimer := some 5000 } ∧ (u.restartImageTimer s.me).settle.bt = s.bt
      ∧ (u.restartImageTimer s.me).settle.setup = s.setup := by
  have settled := sameBay_settle (u.restartImageTimer s.me)
  rw [settled.ssl, settled.bt, settled.setup, ← State.me_of_setup h.setup, restartImageTimer_here, ← h.ssl, ← h.bt, ← h.setup]
  exact ⟨rfl, rfl, rfl⟩

/-- R33 (a): what an IMAGE applied at the joiner shows. -/
theorem imageHere_shows {s u : State} (h : KeepsTable s u) (sender : Nat) (img : Image) :
    (u.imageHere sender img).ssl = { s.ssl with knownGiver := some sender, emptyTimeouts := 0, imageTimer := some 5000 }
      ∧ (u.imageHere sender img).setup = s.setup ∧ (u.imageHere sender img).blu.Struck isOwnJoin := by
  refine ⟨?_, h.setup, Blu.struck_strike _ _⟩
  rw [← h.ssl]
  rfl

/-- R33 (a), R74: an IMAGE of the pool that has a record for every mixer equipped. -/
theorem imageHere_mixers (u : State) (sender : Nat) {recs : List MixRec} (fits : recs.length = u.bay.mixersEquipped)
    (waiting : List MixClaim) :
    (u.imageHere sender (.mixers recs waiting)).bt = { u.bt with pool := some { recs := recs, waiting := waiting } } := by
  have fitted : (u.imageHere sender (.mixers recs waiting)).bt =
      { u.bt with pool := some { recs := recs.take u.bay.mixersEquipped, waiting := waiting } } := rfl
  rw [fitted, List.take_of_length_le (by rw [fits])]

/-- A subject that is not imaged takes no part (R32): a line, the pool, the tokens. -/
theorem takeOther_of_unimaged_line (reserve mixers me : Nat) {t : Table} (sender : Nat) {n : Notice} {line : Nat}
    (named : n.lineNamed = some line) (h : t.line line = none) : (t.takeOther reserve mixers me sender n).1 = t := by
  by_cases equipped : t.unequipped line = true
  · exact takeOther_of_unequipped _ _ _ _ _ named equipped
  · by_cases present : t.isPresent sender = true
    · cases n <;> simp only [Notice.lineNamed, Option.some.injEq, reduceCtorEq] at named <;> subst named <;>
        simp [Table.takeOther, Table.same, Table.claim, Table.withdraw, Table.release, Table.refill, Table.lineOut,
          Table.lineReturn, present, equipped, h]
    · exact takeOther_of_not_present _ _ _ _ (by simpa using present) n

theorem takeOther_of_unimaged_pool (reserve mixers me : Nat) {t : Table} (sender : Nat) {n : Notice}
    (kind : noticeKind n = 14 ∨ noticeKind n = 15 ∨ noticeKind n = 16 ∨ noticeKind n = 17) (h : t.pool = none) :
    (t.takeOther reserve mixers me sender n).1 = t := by
  cases n <;> simp [noticeKind] at kind <;>
    simp [Table.takeOther, Table.same, Table.mixClaim, Table.mixWithdraw, Table.mixRelease, Table.mixerReturn, h]

theorem takeOther_of_unimaged_tokens (reserve mixers me : Nat) {t : Table} (sender : Nat) {n : Notice}
    (kind : noticeKind n = 12 ∨ noticeKind n = 13) (h : t.tokens = none) : (t.takeOther reserve mixers me sender n).1 = t := by
  have held : ∀ token, t.holdsToken sender token = false := fun token => by unfold Table.holdsToken; rw [h]
  cases n <;> simp [noticeKind] at kind
  · simp [Table.takeOther, Table.rushTake, Table.same, h]
  · unfold Table.takeOther Table.rushDrop
    simp only [held, Bool.false_eq_true, if_false]
    repeat' split
    all_goals rfl

/-- R57: a CLAIM that waits, before any grant. -/
theorem takeOther_claim (reserve mixers me : Nat) {t : Table} {sender line a d v r : Nat} {rec : LineRec} {ru : Rush}
    (present : t.isPresent sender = true) (hrec : t.line line = some rec) (service : rec.service = .inService)
    (holder : ∀ h, rec.holder = some h → h.station ≠ sender) (waits : ∀ x ∈ rec.waiting, x.station ≠ sender)
    (fields : 1 ≤ a ∧ a ≤ 63 ∧ 1 ≤ d ∧ d ≤ 16383 ∧ v ≤ 2) (rush : rushOfCode r = some ru) :
    (t.takeOther reserve mixers me sender (.claim line a d v r)).1 = t.setLine line (LineRec.grantChoice reserve
      { rec with waiting := rec.waiting ++
          [{ station := sender, askedShots := a, askedDrops := d, requested := v, effective := v, passed := 0,
             rush := if t.holdsToken sender ru then ru else .none }] }) := by
  have free : LineRec.has sender rec = false := by
    unfold LineRec.has
    rw [Bool.or_eq_false_iff, Option.any_eq_false, List.any_eq_false]
    exact ⟨fun h hh => by simpa using holder h hh, fun x hx => by simpa using waits x hx⟩
  have ok : claimFieldsOk a d v r = true := by
    obtain ⟨ha, ha', hd, hd', hv⟩ := fields
    simp [claimFieldsOk, inRange_iff, ha, ha', hd, hd', hv, rush]
  simp [Table.takeOther, Table.claim, Table.touchLine, Table.newClaim, Table.keptRush, present, unequipped_of_line hrec, hrec,
    service, free, ok, rush]

/-! ### At a member -/

section
variable {t : Table} {sender joiner : Nat}

theorem markImageFrom_member (present : t.isPresent sender = true) (joining : (t.rosterAt joiner).state = .joining) :
    t.markImageFrom sender joiner = t.setRoster joiner { t.rosterAt joiner with imageMark := true } := by
  unfold Table.markImageFrom Table.markImage
  rw [if_pos present, if_pos joining]

theorem markImageFrom_other (absent : t.isPresent sender = false) : t.markImageFrom sender joiner = t :=
  if_neg (by simp [absent])

theorem imageEndFrom_other (absent : t.isPresent sender = false) (result : Nat) : t.imageEndFrom sender joiner result = t :=
  if_neg (by simp [absent])

/-- R35: an IMAGE END with a result of a member, for a station that stands JOINING. -/
theorem imageEndFrom_member {result : Nat} {accepted : Bool} (present : t.isPresent sender = true)
    (joining : (t.rosterAt joiner).state = .joining) (lt : joiner < t.roster.length) (code : imageResultOfCode result = some accepted) :
    t.imageEndFrom sender joiner result =
      t.setRoster joiner (if accepted then { state := .present, giver := none, imageMark := false } else RosterRec.empty) := by
  have marked : t.markImage joiner = t.setRoster joiner { t.rosterAt joiner with imageMark := true } := if_pos joining
  unfold Table.imageEndFrom
  rw [if_pos present, code]
  simp only
  unfold Table.imageEnd
  rw [marked, if_pos (by rw [t.rosterAt_setRoster_self _ _ lt]; exact joining)]
  exact congrArg (fun l => { t with roster := l }) (List.set_set ..)

theorem isPresent_setRoster_ne {q : Nat} (ne : q ≠ joiner) (r : RosterRec) :
    (t.setRoster joiner r).isPresent q = t.isPresent q := by
  unfold Table.isPresent; rw [t.rosterAt_setRoster_ne r ne]

end

section
variable {s : State} {sender joiner : Nat} {t : Table} (member : s.member = true)
  (hs : (s.bt.rosterAt sender).state ≠ .absent)
include member hs

/-- R33 (d): an IMAGE for another station. -/
theorem take_image_member (other : joiner ≠ s.me) (img : Image) (marked : s.bt.markImageFrom sender joiner = t) (present : t.isPresent s.me = true) :
    (s.take sender (.image joiner img)).bt = t.counted ∧ s.sameOutside (s.take sender (.image joiner img)) := by
  obtain ⟨hears, att, _⟩ := s.member_iff.1 member
  refine take_applied hears att (by simp [State.outOfStep, other, hs]) nofun (by simp [noticeKind]) (fun u => ?_)
    (marked ▸ applyTake_image joiner img) present
  split
  · exact keepsTable_cursorAdvance u
  · exact KeepsTable.refl u

/-- R35: an IMAGE END for another station. -/
theorem take_imageEnd_member (result count : Nat) (ended : s.bt.imageEndFrom sender joiner result = t)
    (present : t.isPresent s.me = true) : (s.take sender (.imageEnd joiner result count)).bt = t.counted
      ∧ s.sameOutside (s.take sender (.imageEnd joiner result count)) := by
  obtain ⟨hears, att, _⟩ := s.member_iff.1 member
  refine take_applied hears att (by simp [State.outOfStep, hs]) nofun (by simp [noticeKind]) (fun u => ?_)
    (ended ▸ applyTake_imageEnd joiner result count) present
  split
  · exact keepsTable_cursorDrop u _
  · exact KeepsTable.refl u

end

/-! ### The timers that a joiner starts -/

/-- R88: the timer of a holding. -/
def State.holdingTimer (s : State) (holder grant limit : Nat) : HoldTimer :=
  { state := .running, role := if holder = s.me then .own else .watch, holder := holder, grant := grant,
    runTime := if holder = s.me then limit else limit + s.watchExtra }

theorem startTimer_eq (s : State) (key : HoldKey) (holder grant limit : Nat) :
    s.startTimer key holder grant limit = s.modTimer (timerIndex key) fun _ => s.holdingTimer holder grant limit := rfl

theorem timer_startTimer_self {s : State} {key : HoldKey} (holder grant limit : Nat) (h : timerIndex key < s.htb.length) :
    (s.startTimer key holder grant limit).timer (timerIndex key) = s.holdingTimer holder grant limit :=
  s.timer_modTimer_self _ _ h

theorem timer_startTimer_ne {s : State} {key : HoldKey} (holder grant limit : Nat) {i : Nat} (h : timerIndex key ≠ i) :
    (s.startTimer key holder grant limit).timer i = s.timer i := s.timer_modTimer_ne _ _ _ h

theorem holdingTimer_of_setup {s t : State} (h : t.setup = s.setup) : t.holdingTimer = s.holdingTimer := by
  funext holder grant limit
  unfold State.holdingTimer State.watchExtra
  rw [State.me_of_setup h, State.bay_of_setup h]

/-- What the timers of a joiner touch: the timers alone, of which there are as many. -/
structure OnlyTimers (s t : State) : Prop where
  rest : t = { s with htb := t.htb }
  length : t.htb.length = s.htb.length

theorem OnlyTimers.trans {s t u : State} (h : OnlyTimers s t) (g : OnlyTimers t u) : OnlyTimers s u :=
  ⟨by rw [g.rest, h.rest], g.length.trans h.length⟩

theorem onlyTimers_startTimer (s : State) (key h g l) : OnlyTimers s (s.startTimer key h g l) :=
  ⟨rfl, List.length_modify _ _ _⟩

theorem onlyTimers_watchLines (rs : List (Option LineRec)) (s : State) (n : Nat) : OnlyTimers s (watchLines s n rs) := by
  induction rs generalizing s n with
  | nil => exact ⟨rfl, rfl⟩
  | cons r rs ih =>
    unfold watchLines
    split
    · exact (onlyTimers_startTimer s _ _ _ _).trans (ih _ _)
    · exact ih _ _

theorem onlyTimers_watchMixers (rs : List MixRec) (s : State) (m : Nat) : OnlyTimers s (watchMixers s m rs) := by
  induction rs generalizing s m with
  | nil => exact ⟨rfl, rfl⟩
  | cons r rs ih =>
    unfold watchMixers
    split
    · exact (onlyTimers_startTimer s _ _ _ _).trans (ih _ _)
    · exact ih _ _

theorem onlyTimers_watchAll (s : State) : OnlyTimers s s.watchAll := by
  unfold State.watchAll
  split
  · exact (onlyTimers_watchLines _ s 0).trans (onlyTimers_watchMixers _ _ 0)
  · exact onlyTimers_watchLines _ s 0

theorem OnlyTimers.setup {s t : State} (h : OnlyTimers s t) : t.setup = s.setup := by rw [h.rest]
theorem OnlyTimers.ssl {s t : State} (h : OnlyTimers s t) : t.ssl = s.ssl := by rw [h.rest]
theorem OnlyTimers.bt {s t : State} (h : OnlyTimers s t) : t.bt = s.bt := by rw [h.rest]

theorem lineLimit_of_setup {s t : State} (h : t.setup = s.setup) (n : Nat) : t.lineLimit n = s.lineLimit n := by
  unfold State.lineLimit State.lineConst; rw [State.bay_of_setup h]

theorem mixerLimit_of_setup {s t : State} (h : t.setup = s.setup) (n : Nat) : t.mixerLimit n = s.mixerLimit n := by
  unfold State.mixerLimit; rw [State.bay_of_setup h]

/-- A line's timer is started by that line alone. -/
theorem watchLines_timer_below (rs : List (Option LineRec)) (s : State) {n i : Nat} (h : i < n) :
    (watchLines s n rs).timer i = s.timer i := by
  induction rs generalizing s n with
  | nil => rfl
  | cons r rs ih =>
    unfold watchLines
    split
    · rw [ih _ (Nat.lt_succ_of_lt h)]
      exact timer_startTimer_ne _ _ _ (Nat.ne_of_gt h)
    · exact ih _ (Nat.lt_succ_of_lt h)

theorem watchLines_timer (rs : List (Option LineRec)) (s : State) (n j : Nat) {r : LineRec} {h : Holder}
    (hr : rs[j]? = some (some r)) (holder : r.holder = some h) (lt : n + j < s.htb.length) :
    (watchLines s n rs).timer (n + j) = s.holdingTimer h.station h.grant (s.lineLimit (n + j)) := by
  induction rs generalizing s n j with
  | nil => cases hr
  | cons q rs ih =>
    cases j with
    | zero =>
      obtain rfl : q = some r := by simpa using hr
      simp only [watchLines, Option.bind_some, holder]
      rw [watchLines_timer_below rs _ (show n + 0 < n + 1 from Nat.lt_succ_self n)]
      exact timer_startTimer_self (key := .line n) _ _ _ lt
    | succ j =>
      have rest : rs[j]? = some (some r) := by simpa using hr
      have shift : n + (j + 1) = n + 1 + j := by omega
      rw [shift] at lt ⊢
      unfold watchLines
      split
      · next first _ =>
        have started := onlyTimers_startTimer s (.line n) first.station first.grant (s.lineLimit n)
        rw [ih _ _ _ rest (started.length ▸ lt), holdingTimer_of_setup started.setup, lineLimit_of_setup started.setup]
      · exact ih _ _ _ rest lt

theorem watchMixers_timer_below (rs : List MixRec) (s : State) {m i : Nat} (h : i < 16 + m) :
    (watchMixers s m rs).timer i = s.timer i := by
  induction rs generalizing s m with
  | nil => rfl
  | cons r rs ih =>
    unfold watchMixers
    split
    · rw [ih _ (Nat.lt_succ_of_lt h)]
      exact timer_startTimer_ne _ _ _ (Nat.ne_of_gt h)
    · exact ih _ (Nat.lt_succ_of_lt h)

theorem watchMixers_timer (rs : List MixRec) (s : State) (m j : Nat) {r : MixRec} {h : Nat}
    (hr : rs[j]? = some r) (held : r.state = .held) (holder : r.holder = some h) (lt : 16 + (m + j) < s.htb.length) :
    (watchMixers s m rs).timer (16 + (m + j)) = s.holdingTimer h r.grant (s.mixerLimit (optZero r.mixTime)) := by
  induction rs generalizing s m j with
  | nil => cases hr
  | cons q rs ih =>
    cases j with
    | zero =>
      obtain rfl : q = r := by simpa using hr
      simp only [watchMixers, held, holder]
      rw [watchMixers_timer_below rs _ (show 16 + (m + 0) < 16 + (m + 1) from Nat.lt_succ_self _)]
      exact timer_startTimer_self (key := .mixer m) _ _ _ lt
    | succ j =>
      have rest : rs[j]? = some r := by simpa using hr
      have shift : m + (j + 1) = m + 1 + j := by omega
      rw [shift] at lt ⊢
      unfold watchMixers
      split
      · next first _ _ =>
        have started := onlyTimers_startTimer s (.mixer m) first q.grant (s.mixerLimit (optZero q.mixTime))
        rw [ih _ _ _ rest (started.length ▸ lt), holdingTimer_of_setup started.setup, mixerLimit_of_setup started.setup]
      · exact ih _ _ _ rest lt

/-- R89: the WATCH timer of a line's holder. -/
theorem watchAll_line {s : State} {n : Nat} {r : LineRec} {h : Holder} (hr : s.bt.line n = some r) (holder : r.holder = some h)
    (lines : s.bt.lines.length ≤ 16) (timers : s.htb.length = 20) :
    s.watchAll.timer n = s.holdingTimer h.station h.grant (s.lineLimit n) := by
  have at' := (line_eq_some_iff s.bt n r).1 hr
  have lt : n < 16 := Nat.lt_of_lt_of_le (List.getElem?_eq_some_iff.1 at').1 lines
  have started : (watchLines s 0 s.bt.lines).timer n = s.holdingTimer h.station h.grant (s.lineLimit n) := by
    have := watchLines_timer s.bt.lines s 0 n at' holder (by omega)
    rwa [Nat.zero_add] at this
  unfold State.watchAll
  split
  · rw [watchMixers_timer_below _ _ (by omega)]; exact started
  · exact started

/-- R89: the WATCH timer of a HELD mixer. -/
theorem watchAll_mixer {s : State} {p : Pool} {m h : Nat} {r : MixRec} (pool : s.bt.pool = some p) (hr : p.recs[m]? = some r)
    (held : r.state = .held) (holder : r.holder = some h) (mixers : p.recs.length ≤ 4) (timers : s.htb.length = 20) :
    s.watchAll.timer (16 + m) = s.holdingTimer h r.grant (s.mixerLimit (optZero r.mixTime)) := by
  have lt : m < p.recs.length := (List.getElem?_eq_some_iff.1 hr).1
  have lines := onlyTimers_watchLines s.bt.lines s 0
  unfold State.watchAll
  rw [pool]
  simp only
  have started := watchMixers_timer p.recs (watchLines s 0 s.bt.lines) 0 m hr held holder (by rw [lines.length]; omega)
  rw [Nat.zero_add] at started
  rw [started, holdingTimer_of_setup lines.setup, mixerLimit_of_setup lines.setup]

/-- A WATCH timer, of a holder that is another station. -/
theorem holdingTimer_watch {s : State} {holder : Nat} (other : holder ≠ s.me) (grant limit : Nat) :
    s.holdingTimer holder grant limit =
      { state := .running, role := .watch, holder := holder, grant := grant,
        runTime := limit + 1000 * s.bay.grace + 100 * s.me } := by
  simp [State.holdingTimer, other, State.watchExtra, Nat.add_assoc]

theorem bookTake_request (s : State) (sender : Nat) (n : Notice) : (s.bookTake sender n).obu.request = s.obu.request := by
  unfold State.bookTake State.backToWaiting State.struckTell
  repeat' split
  all_goals rfl

/-- R35 (a): what the joiner shows once an IMAGE END accepts it. -/
theorem accepted_shows (u : State) (count : Nat) : ∃ v : State, OnlyTimers v (u.accepted count) ∧ u.accepted count = v.watchAll
    ∧ v.ssl = { u.ssl with imageTimer := none, state := .attached } ∧ v.setup = u.setup ∧ v.htb = u.htb
    ∧ v.bt = { u.bt.imageEnd u.me true with bayCount := some ((count + 1) % 65536) } := by
  refine ⟨_, onlyTimers_watchAll _, rfl, ?_, ?_, ?_, ?_⟩
  · rw [State.enter_ssl]; rfl
  · rw [State.enter_setup]; rfl
  · rw [State.enter_htb]; rfl
  · rw [State.enter_bt]; rfl

end Sys2Proof.Machine

namespace Sys2Proof

open Machine

/-- Settles O28: an IMAGE at its joiner, IMAGE and IMAGE END at the members, and the takes of every other kind at a joiner. -/
theorem imagesReplaceSubjectsAndMarkJoiners : Obligations.ImagesReplaceSubjectsAndMarkJoiners := by
  refine ⟨fun s sender img hears st taken => ⟨fun ordinary => ?_, fun joining => ?_⟩,
    fun s sender joiner count img member present other joining lt => ?_,
    fun s sender joiner result count img member joining other => ?_,
    fun s sender station digest silent hears st taken => ?_, reportedGiver_eq_some_iff,
    fun c s sender n hc hears st taken kind => ?_⟩
  · have booked := keepsTable_bookTake s sender (.image s.me img)
    obtain ⟨ssl, setup, struck⟩ := imageHere_shows booked sender img
    have settled := sameBay_settle ((s.bookTake sender (.image s.me img)).imageHere sender img)
    have out : ((s.bookTake sender (.image s.me img)).imageHere sender img).isAttached = false := by
      unfold State.isAttached; rw [ssl, st]; rfl
    have spared := struck_settle out struck fun _ => rfl
    refine ⟨_, rfl, ?_⟩
    rw [take_image_here hears st taken img ordinary]
    refine ⟨settled.ssl.trans ssl, settled.setup.trans setup, spared.held, spared.list, ?_, ?_, ?_⟩ <;> rw [settled.bt, ← booked.bt]
    · rintro roster a b rfl; rfl
    · rintro recs waiting rfl fits
      exact imageHere_mixers _ _ (by rw [bookTake_bay]; exact fits) waiting
    · rintro n r rfl; rfl
  · have shows := restarted_shows (keepsTable_bookTake s sender (.image s.me img))
    refine ⟨_, rfl, ?_⟩
    rw [take_image_discarded hears st taken img joining]
    exact shows
  · have me := (s.member_iff.1 member).2.2
    have hs := Table.not_absent_of_isPresent present
    have stands : ∀ r, (s.bt.setRoster joiner r).isPresent s.me = true := fun r =>
      (isPresent_setRoster_ne (Ne.symm other) r).trans me
    obtain ⟨image, imageOut⟩ := take_image_member member hs other img (markImageFrom_member present joining) (stands _)
    obtain ⟨accept, acceptOut⟩ :=
      take_imageEnd_member member hs 0 count (imageEndFrom_member present joining lt rfl) (stands _)
    obtain ⟨differ, differOut⟩ :=
      take_imageEnd_member member hs 1 count (imageEndFrom_member present joining lt rfl) (stands _)
    exact ⟨⟨_, rfl, imageOut, image⟩, ⟨_, rfl, acceptOut, accept⟩, ⟨_, rfl, differOut, differ⟩⟩
  · have me := (s.member_iff.1 member).2.2
    have absent := Table.isPresent_of_joining joining
    have hs : (s.bt.rosterAt sender).state ≠ .absent := by rw [joining]; decide
    obtain ⟨image, imageOut⟩ := take_image_member member hs other img (markImageFrom_other absent) me
    obtain ⟨ended, endedOut⟩ := take_imageEnd_member (joiner := joiner) member hs result count (imageEndFrom_other absent result) me
    exact ⟨⟨_, rfl, imageOut, image⟩, ⟨_, rfl, endedOut, ended⟩⟩
  · refine ⟨fun other => ?_, fun unreported => congrArg Host.Outcome.next ?_, fun g imaged reported => congrArg Host.Outcome.next ?_⟩
    · have joined := take_joiner_join hears st taken station digest silent other
      exact ⟨fun unimaged => congrArg Host.Outcome.next (joined.trans (by rw [unimaged]; rfl)),
        fun imaged => congrArg Host.Outcome.next (joined.trans (by rw [if_pos (Option.isSome_iff_ne_none.2 imaged)]))⟩
    · refine take_joiner_formed_unreported hears st taken (unreported.imp_left fun unimaged => ?_)
      rw [unimaged]; rfl
    · exact take_joiner_formed_reported hears st taken (Option.isSome_iff_ne_none.2 imaged) reported
  · have booked := keepsTable_bookTake s sender n
    have joined := take_joiner_other (sender := sender) (n := n) hears st taken kind
    have settled := sameBay_settle { s.bookTake sender n with
      bt := (s.bt.takeOther s.bay.reserve s.bay.mixersEquipped s.me sender n).1 }
    rw [← joined] at settled
    have bt : (s.take sender n).bt = (s.bt.takeOther s.bay.reserve s.bay.mixersEquipped s.me sender n).1 := settled.bt
    refine ⟨s.take sender n, _, exec_of_taken c s sender n hc, joined, bt, by rw [bt], settled.ssl.trans booked.ssl,
      settled.htb.trans (bookTake_htb s sender n), settled.setup.trans booked.setup, settled.pins.trans booked.pins, ?_, ?_, ?_, ?_⟩
      <;> rw [bt]
    · exact fun line named unimaged => takeOther_of_unimaged_line _ _ _ _ named unimaged
    · exact fun unimaged kind => takeOther_of_unimaged_pool _ _ _ _ kind unimaged
    · exact fun unimaged kind => takeOther_of_unimaged_tokens _ _ _ _ kind unimaged
    · rintro line a d v r rec ru rfl hrec present service holder waits ha ha' hd hd' hv rush
      exact takeOther_claim _ _ _ present hrec service holder waits ⟨ha, ha', hd, hd', hv⟩ rush

/-- Settles O29: the IMAGE END accepted, with the timers of `watchAll_line` and `watchAll_mixer`, refused, and discarded. -/
theorem imageEndEndsTheJoin : Obligations.ImageEndEndsTheJoin := by
  intro s sender count hears st taken timers lines mixers request
  refine ⟨fun ordinary => ⟨?_, ?_⟩, fun joining result => ?_⟩
  · have booked := keepsTable_bookTake s sender (.imageEnd s.me 0 count)
    have htb := bookTake_htb s sender (.imageEnd s.me 0 count)
    have me := bookTake_me (s := s) (sender := sender) (n := .imageEnd s.me 0 count)
    refine ⟨_, rfl, ?_⟩
    rw [take_imageEnd_accepted hears st taken count ordinary]
    generalize s.bookTake sender (.imageEnd s.me 0 count) = u at *
    obtain ⟨v, watched, eq, ssl, setup, vhtb, bt⟩ := accepted_shows u count
    have settled := sameBay_settle (u.accepted count)
    have records : (u.bt.imageEnd u.me true).lines = s.bt.lines ∧ (u.bt.imageEnd u.me true).pool = s.bt.pool := by
      rw [← booked.bt]
      unfold Table.imageEnd
      split <;> exact ⟨rfl, rfl⟩
    have vsetup : v.setup = s.setup := setup.trans booked.setup
    have vtimers : v.htb.length = 20 := by rw [vhtb, htb, timers]
    have vlines : v.bt.lines = s.bt.lines := by rw [bt]; exact records.1
    have vpool : v.bt.pool = s.bt.pool := by rw [bt]; exact records.2
    have timer : ∀ i, (u.accepted count).settle.timer i = v.watchAll.timer i := fun i => by
      unfold State.timer; rw [settled.htb, eq]
    have holding := holdingTimer_of_setup vsetup
    rw [settled.ssl, settled.bt, settled.setup, watched.ssl, watched.bt, watched.setup, ssl, vlines, vpool]
    refine ⟨rfl, rfl, by rw [bt], rfl, rfl, vsetup, fun joining lt => ?_, fun n r h hr holder other => ?_,
      fun p m r h time pool hr held holder other mixTime => ?_⟩
    · rw [bt, me, booked.bt]
      refine (Table.isPresent_iff _ _).2 ?_
      show ((s.bt.imageEnd s.me true).rosterAt s.me).state = .present
      unfold Table.imageEnd
      rw [if_pos joining, s.bt.rosterAt_setRoster_self _ _ lt]
      rfl
    · rw [timer, watchAll_line (by unfold Table.line; rw [vlines]; exact hr) holder (vlines ▸ lines) vtimers, holding, holdingTimer_watch other,
        lineLimit_of_setup vsetup]
      rfl
    · rw [timer, watchAll_mixer (vpool.trans pool) hr held holder (mixers p pool) vtimers, holding, holdingTimer_watch other,
        mixerLimit_of_setup vsetup, mixTime]
      rfl
  · have booked := keepsTable_bookTake s sender (.imageEnd s.me 1 count)
    have absent := (bookTake_request s sender (.imageEnd s.me 1 count)).trans request
    refine ⟨_, rfl, ?_⟩
    rw [take_imageEnd_refused hears st taken count ordinary]
    generalize s.bookTake sender (.imageEnd s.me 1 count) = u at *
    obtain ⟨bt, blu, htb, ssl⟩ := refuse_shows u
    have settled := sameBay_settle u.refuse
    have out : u.refuse.isAttached = false := by unfold State.isAttached; rw [ssl]; rfl
    have obu : u.refuse.obu.request = .absent := by unfold State.refuse; rw [State.enter_obu]; exact absent
    refine ⟨by rw [settled.ssl, ssl], settled.bt.trans bt, by rw [settle_blu_outside out obu, blu]; rfl, fun i => ?_, ?_⟩
    · have stopped := stopTimers_timer u i
      unfold State.timer at stopped ⊢
      rw [settled.htb, htb]
      exact stopped
    · rw [settled.setup]
      unfold State.refuse
      rw [State.enter_setup]
      exact booked.setup
  · have shows := restarted_shows (keepsTable_bookTake s sender (.imageEnd s.me result count))
    refine ⟨_, rfl, ?_⟩
    rw [take_imageEnd_discarded hears st taken result count joining]
    exact shows

end Sys2Proof
end

section
/-! The image cursor (R18), and what it makes of the takes (R26, R31, R33, R35). -/

namespace Sys2Proof.Machine

/-! ### The operations of the cursor -/

section
variable (s : State)

/-- R18: the cursor with a joiner at its head offers that joiner's notice of the subject. -/
theorem cursorOffer_cons {j : Joiner} {rest : List Joiner} (h : s.blu.cursor.joiners = j :: rest) (subject : Subject) :
    s.cursorOffer subject = { s with
      blu := (Blu.offer { s.blu with cursor := { joiners := j :: rest, next := some subject } } (s.bt.cursorNotice j subject)
        .cursor).1 } := by
  unfold State.cursorOffer
  rw [h]
  simp only [State.offer, h]

theorem cursorBegin_cons {j : Joiner} {rest : List Joiner} (h : s.blu.cursor.joiners = j :: rest) :
    s.cursorBegin = s.cursorOffer (firstSubject j.accepted) := by
  unfold State.cursorBegin
  rw [h]

theorem cursorBegin_nil (h : s.blu.cursor.joiners = []) :
    s.cursorBegin = { s with blu := { s.blu with cursor := Cursor.empty } } := by
  unfold State.cursorBegin
  rw [h]

theorem cursorOffer_joiners (subject : Subject) : (s.cursorOffer subject).blu.cursor.joiners = s.blu.cursor.joiners := by
  cases h : s.blu.cursor.joiners with
  | nil => unfold State.cursorOffer; rw [h]; exact h
  | cons j rest =>
    rw [cursorOffer_cons s h]
    exact congrArg (fun p => p.2.2.2.2.joiners) (Blu.place_offer _ _ _)

theorem cursorBegin_joiners : s.cursorBegin.blu.cursor.joiners = s.blu.cursor.joiners := by
  cases h : s.blu.cursor.joiners with
  | nil => rw [cursorBegin_nil s h]; rfl
  | cons j rest => rw [cursorBegin_cons s h, cursorOffer_joiners, h]

theorem cursorAdvance_joiners : s.cursorAdvance.blu.cursor.joiners = s.blu.cursor.joiners := by
  unfold State.cursorAdvance
  split
  · exact cursorOffer_joiners s _
  · rfl

theorem headIs_cons {c : Cursor} {j : Joiner} {rest : List Joiner} (h : c.joiners = j :: rest) (station : Nat) :
    c.headIs station = (j.station == station) := by
  simp [Cursor.headIs, h]

theorem cursorDrop_joiners (station : Nat) :
    (s.cursorDrop station).blu.cursor.joiners = s.blu.cursor.joiners.filter fun x => x.station != station := by
  unfold State.cursorDrop
  simp only
  split
  · exact cursorBegin_joiners _
  · rfl

theorem cursorDrop_head {j : Joiner} {rest : List Joiner} (h : s.blu.cursor.joiners = j :: rest) :
    s.cursorDrop j.station =
      State.cursorBegin ((s.strike (isImageFor j.station)).setJoiners (rest.filter fun x => x.station != j.station)) := by
  unfold State.cursorDrop
  simp only [headIs_cons h, beq_self_eq_true, if_true]
  rw [h, List.filter_cons_of_neg (by simp)]

theorem cursorDrop_behind {j : Joiner} {rest : List Joiner} {station : Nat} (h : s.blu.cursor.joiners = j :: rest)
    (ne : j.station ≠ station) : s.cursorDrop station = s.setJoiners (j :: rest.filter fun x => x.station != station) := by
  unfold State.cursorDrop
  simp only [headIs_cons h]
  rw [if_neg (by simpa using ne), h, List.filter_cons_of_pos (by simpa using ne)]

/-! Adding a joiner -/

section
variable (station : Nat) (accepted : Bool)

theorem cursorAdd_nil (h : s.blu.cursor.joiners = []) : s.cursorAdd station accepted =
    State.cursorBegin (s.setJoiners [{ station := station, accepted := accepted }]) := by
  simp [State.cursorAdd, h]

theorem cursorAdd_new (listed : s.blu.cursor.joiners ≠ []) (new : ∀ x ∈ s.blu.cursor.joiners, x.station ≠ station) :
    s.cursorAdd station accepted =
      s.setJoiners (s.blu.cursor.joiners ++ [{ station := station, accepted := accepted }]) := by
  have unlisted : (s.blu.cursor.joiners.any fun j => j.station == station) = false := by
    rw [List.any_eq_false]
    exact fun x hx => by simpa using new x hx
  simp [State.cursorAdd, unlisted, listed]

variable {station}

/-- A list in which no joiner has the station is as it is when that joiner's result is written. -/
theorem map_rewritten_of_other {l : List Joiner} (h : ∀ x ∈ l, x.station ≠ station) :
    (l.map fun j => if j.station = station then { j with accepted := accepted } else j) = l := by
  refine (List.map_congr_left fun x hx => ?_).trans (List.map_id _)
  exact if_neg (h x hx)

theorem cursorAdd_head {j : Joiner} {rest : List Joiner} (h : s.blu.cursor.joiners = j :: rest)
    (others : ∀ x ∈ rest, x.station ≠ j.station) : s.cursorAdd j.station accepted = State.cursorBegin
      ((s.setJoiners ({ station := j.station, accepted := accepted } :: rest)).strike (isImageFor j.station)) := by
  simp [State.cursorAdd, headIs_cons h, h, map_rewritten_of_other accepted others]

theorem cursorAdd_listed {before after : List Joiner} {x : Joiner} (h : s.blu.cursor.joiners = before ++ x :: after)
    (behind : before ≠ []) (others : ∀ y ∈ before ++ after, y.station ≠ x.station) : s.cursorAdd x.station accepted =
      s.setJoiners (before ++ { station := x.station, accepted := accepted } :: after) := by
  have rewritten : (s.blu.cursor.joiners.map fun j => if j.station = x.station then { j with accepted := accepted } else j) =
      before ++ { station := x.station, accepted := accepted } :: after := by
    rw [h, List.map_append, List.map_cons, if_pos rfl,
      map_rewritten_of_other accepted fun y hy => others y (List.mem_append_left after hy),
      map_rewritten_of_other accepted fun y hy => others y (List.mem_append_right before hy)]
  have listed : (s.blu.cursor.joiners.any fun j => j.station == x.station) = true := by simp [h]
  have notHead : s.blu.cursor.headIs x.station = false := by
    obtain ⟨head, tail, rfl⟩ := List.exists_cons_of_ne_nil behind
    rw [headIs_cons h]
    simpa using others head (by simp)
  unfold State.cursorAdd
  simp only [listed, notHead, rewritten, if_true, Bool.false_eq_true, if_false]

end

theorem mem_cursorAdd {station : Nat} {accepted : Bool} {x : Joiner}
    (h : x ∈ (s.cursorAdd station accepted).blu.cursor.joiners) : x.station = station ∨ x ∈ s.blu.cursor.joiners := by
  unfold State.cursorAdd at h
  simp only at h
  split at h
  · have rewritten : x ∈ s.blu.cursor.joiners.map fun j => if j.station = station then { j with accepted := accepted } else j := by
      split at h
      · rwa [cursorBegin_joiners] at h
      · exact h
    obtain ⟨j, hj, rfl⟩ := List.mem_map.1 rewritten
    split
    · next e => exact .inl e
    · exact .inr hj
  · have added : x ∈ s.blu.cursor.joiners ++ [{ station := station, accepted := accepted }] := by
      split at h
      · rwa [cursorBegin_joiners] at h
      · exact h
    rcases List.mem_append.1 added with hx | hx
    · exact .inr hx
    · exact .inl (by rw [List.mem_singleton.1 hx])

/-- R31 (e): a joiner handed to the cursor is in its list. -/
theorem cursorAdd_mem (station : Nat) (accepted : Bool) :
    { station := station, accepted := accepted } ∈ (s.cursorAdd station accepted).blu.cursor.joiners := by
  unfold State.cursorAdd
  simp only
  split
  · next listed =>
    obtain ⟨j, hj, hs⟩ := List.any_eq_true.1 listed
    have rewritten : ({ station := station, accepted := accepted } : Joiner) ∈
        s.blu.cursor.joiners.map fun j => if j.station = station then { j with accepted := accepted } else j := by
      rw [beq_iff_eq] at hs
      exact List.mem_map.2 ⟨j, hj, by rw [if_pos hs, ← hs]⟩
    split
    · rw [cursorBegin_joiners]; exact rewritten
    · exact rewritten
  · have added : ({ station := station, accepted := accepted } : Joiner) ∈
        s.blu.cursor.joiners ++ [{ station := station, accepted := accepted }] := by simp
    split
    · rw [cursorBegin_joiners]; exact added
    · exact added

/-! Joiners that stand ABSENT -/

/-- R18: of joiners in a list, those that stand ABSENT in a table dropped. -/
def dropAbsent (t : Table) (s : State) (l : List Joiner) : State :=
  l.foldl (fun s' j => if (t.rosterAt j.station).state = .absent then s'.cursorDrop j.station else s') s

theorem cursorPrune_eq : s.cursorPrune = dropAbsent s.bt s s.blu.cursor.joiners := rfl

theorem mem_dropAbsent (t : Table) (x : Joiner) (l : List Joiner) : x ∈ (dropAbsent t s l).blu.cursor.joiners ↔
    x ∈ s.blu.cursor.joiners ∧ ∀ j ∈ l, (t.rosterAt j.station).state = .absent → x.station ≠ j.station := by
  induction l generalizing s with
  | nil => simp [dropAbsent]
  | cons j l ih =>
    refine (ih _).trans ?_
    simp only
    split
    · next absent =>
      rw [cursorDrop_joiners]
      simp [absent, and_assoc]
    · next stands => simp [stands]

theorem dropAbsent_of_none (t : Table) {l : List Joiner} (h : ∀ x ∈ l, (t.rosterAt x.station).state ≠ .absent) :
    dropAbsent t s l = s := by
  induction l with
  | nil => rfl
  | cons j l ih =>
    unfold dropAbsent
    rw [List.foldl_cons, if_neg (h j List.mem_cons_self)]
    exact ih fun x hx => h x (List.mem_cons_of_mem j hx)

theorem mem_cursorPrune {x : Joiner} (h : x ∈ s.cursorPrune.blu.cursor.joiners) :
    x ∈ s.blu.cursor.joiners ∧ (s.bt.rosterAt x.station).state ≠ .absent := by
  rw [cursorPrune_eq, mem_dropAbsent] at h
  exact ⟨h.1, fun absent => h.2 x h.1 absent rfl⟩

end

/-! ### The cursor through a take -/

theorem SameBay.cursor {s t : State} (h : SameBay s t) : t.blu.cursor = s.blu.cursor := congrArg (·.2.2.2.2) h.place

theorem applyEffect_cursor (s : State) (e : Effect) : (s.applyEffect e).blu.cursor = s.blu.cursor := by
  unfold State.applyEffect
  cases e with
  | lineEnded line h => rfl
  | mixerEnded m st g => rfl
  | lineGranted line h =>
    simp only [State.lineGranted]
    repeat' split
    · exact (sameBay_grantTell _ _ _).cursor
    · exact (sameBay_offer _ _ _).cursor
    · rfl
  | mixerGranted m st g mt =>
    simp only
    split
    · exact (sameBay_mixerGranted _ _ _ _).cursor
    · rfl
  | tellLine line t =>
    simp only
    split
    · exact (sameBay_lineTell s _ _).cursor
    · rfl
  | tellBook t => exact (sameBay_bookTell s t).cursor

theorem applyEffects_cursor (s : State) (es : List Effect) : (s.applyEffects es).blu.cursor = s.blu.cursor := by
  unfold State.applyEffects
  induction es generalizing s with
  | nil => rfl
  | cons e es ih => exact (ih _).trans (applyEffect_cursor s e)

/-- The state in which a take's own part of the cursor is made. -/
def State.pruned (s : State) (t : Table) (es : List Effect) : State :=
  (({ s with bt := t } : State).applyEffects (es.filter Effect.ends)).cursorPrune

theorem takeEffects_eq (s : State) (t : Table) (es : List Effect) (cursor : State → State) :
    s.takeEffects t es cursor = (cursor (s.pruned t es)).applyEffects (es.filter fun e => !e.ends) := rfl

theorem keepsTable_pruned (s : State) (t : Table) (es : List Effect) : KeepsTable { s with bt := t } (s.pruned t es) :=
  (keepsTable_applyEffects _ _).trans (keepsTable_cursorPrune _)

theorem mem_pruned {s : State} {t : Table} {es : List Effect} {x : Joiner} (h : x ∈ (s.pruned t es).blu.cursor.joiners) :
    (t.rosterAt x.station).state ≠ .absent := by
  have bt := (keepsTable_applyEffects ({ s with bt := t } : State) (es.filter Effect.ends)).bt
  have stands := (mem_cursorPrune _ h).2
  rw [bt] at stands
  exact stands

/-- A take's part of the cursor depends on the cursor's own state alone. -/
theorem takeEffects_congr {s : State} {t : Table} {es : List Effect} {f g : State → State}
    (h : ∀ u : State, u.setup = s.setup → f u = g u) : s.takeEffects t es f = s.takeEffects t es g := by
  rw [takeEffects_eq, takeEffects_eq, h _ (keepsTable_pruned s t es).setup]

theorem takenWith_congr {s : State} {sender : Nat} {n : Notice} {t : Table} {es : List Effect} {f g : State → State}
    (h : ∀ u : State, u.setup = s.setup → f u = g u) : s.takenWith sender n t es f = s.takenWith sender n t es g := by
  unfold State.takenWith
  rw [takeEffects_congr fun u hu => h u (hu.trans (keepsTable_bookTake s sender n).setup)]

theorem takenWith_cursor (s : State) (sender : Nat) (n : Notice) (t : Table) (es : List Effect) (cursor : State → State) :
    (s.takenWith sender n t es cursor).blu.cursor = (cursor ((s.bookTake sender n).pruned t es)).blu.cursor := by
  unfold State.takenWith
  rw [(sameBay_settle _).cursor, State.modBt_blu, takeEffects_eq, applyEffects_cursor]

section
variable {s u : State} (h : u.setup = s.setup) (joiner : Nat) (accepted : Bool)
include h

theorem giveImage_here {giver : Option Nat} (here : giver = some s.me) :
    u.giveImage joiner giver accepted = u.cursorAdd joiner accepted := by
  unfold State.giveImage
  rw [State.me_of_setup h, if_pos here]

theorem giveImage_elsewhere {giver : Option Nat} (elsewhere : giver ≠ some s.me) :
    u.giveImage joiner giver accepted = u.cursorDrop joiner := by
  unfold State.giveImage
  rw [State.me_of_setup h, if_neg elsewhere]

end

/-! ### A JOIN of a station that stands ABSENT -/

theorem regrantLines_self (reserve : Nat) (l : List (Option LineRec)) (n : Nat) : regrantLines reserve n l l = (l, []) := by
  induction l generalizing n with
  | nil => rfl
  | cons r l ih => cases r <;> simp [regrantLines, ih]

/-- R98 (h): where a take touches no line and not the pool, nothing is granted. -/
theorem regrant_of_untouched (reserve : Nat) {before t : Table} (lines : t.lines = before.lines) (pool : t.pool = before.pool) :
    Table.regrant reserve before t = (t, []) := by
  have kept : regrantLines reserve 0 before.lines t.lines = (t.lines, []) := by rw [lines, regrantLines_self]
  unfold Table.regrant
  rw [kept, ← pool]
  split
  · next p hp => exact if_pos hp
  · rfl

section
variable (reserve : Nat) {t : Table} {sender : Nat} (digest : Nat) (absent : (t.rosterAt sender).state = .absent)
include absent

theorem lateVictim_of_absent : t.lateVictim sender none = none := lateVictim_unrecorded t (.inl (by rw [absent]; decide))

/-- R31: the JOIN of a station that stands ABSENT touches the roster and the results held alone. -/
theorem lateJoin_of_absent : (t.lateJoin reserve sender digest none).table = t.lateMade sender digest none
    ∧ (t.lateJoin reserve sender digest none).effects = [] ∧ (t.lateMade sender digest none).lines = t.lines
    ∧ (t.lateMade sender digest none).pool = t.pool ∧ (t.lateMade sender digest none).tokens = t.tokens := by
  have sent : t.lateSender sender = t.setRoster sender RosterRec.ungiven := by
    unfold Table.lateSender; rw [if_pos absent]; rfl
  have stripped : t.lateStripped sender none = t.setRoster sender RosterRec.ungiven := by
    unfold Table.lateStripped; rw [lateVictim_of_absent absent, sent]; rfl
  have lines : (t.lateMade sender digest none).lines = t.lines := by unfold Table.lateMade; rw [stripped]; rfl
  have pool : (t.lateMade sender digest none).pool = t.pool := by unfold Table.lateMade; rw [stripped]; rfl
  have tokens : (t.lateMade sender digest none).tokens = t.tokens := by unfold Table.lateMade; rw [stripped]; rfl
  have untouched := regrant_of_untouched reserve lines pool
  refine ⟨by rw [lateJoin_table, untouched], ?_, lines, pool, tokens⟩
  show (if (t.rosterAt sender).state = .absent then [] else t.holdingsOf sender)
    ++ (t.lateSender sender).holdingsOpt (t.lateVictim sender none)
    ++ (Table.regrant reserve t (t.lateMade sender digest none)).2 = []
  rw [untouched, lateVictim_of_absent absent, if_pos absent]
  rfl

end

/-! ### The joiners that a take leaves -/

theorem mem_giveImage {u : State} {joiner : Nat} {giver : Option Nat} {accepted : Bool} {x : Joiner}
    (h : x ∈ (u.giveImage joiner giver accepted).blu.cursor.joiners) : x.station = joiner ∨ x ∈ u.blu.cursor.joiners := by
  unfold State.giveImage at h
  split at h
  · exact mem_cursorAdd u h
  · rw [cursorDrop_joiners] at h
    exact .inr (List.mem_filter.1 h).1

/-- R18: every joiner of the cursor has its record in the roster. -/
def State.JoinersStand (s : State) : Prop := ∀ x ∈ s.blu.cursor.joiners, (s.bt.rosterAt x.station).state ≠ .absent

theorem joinersStand_of_none {s : State} (h : s.blu.cursor.joiners = []) : s.JoinersStand := fun x hx => by
  rw [h] at hx; cases hx

/-- A take applied leaves joiners that stand, where its own part of the cursor adds no other. -/
theorem joinersStand_applied {s : State} {sender : Nat} {n : Notice} {t : Table} {es : List Effect} {cursor : State → State}
    (hears : s.hears = true) (att : s.ssl.state = .attached) (step : s.outOfStep sender n = false)
    (leave : ¬ (sender = s.me ∧ n = .leave)) (join : ¬ (sender = s.me ∧ noticeKind n = 1)) (h : ∀ u, KeepsTable u (cursor u))
    (applied : (s.bookTake sender n).applyTake sender n = (s.bookTake sender n).takeEffects t es cursor)
    (adds : ∀ u : State, ∀ x ∈ (cursor u).blu.cursor.joiners, x ∈ u.blu.cursor.joiners ∨ (t.rosterAt x.station).state ≠ .absent) :
    (s.take sender n).JoinersStand := by
  cases present : t.isPresent s.me with
  | false => exact joinersStand_of_none (take_purged t es cursor hears att step leave join h applied present).joiners
  | true =>
    have taken := take_of_applied s sender n t es cursor hears att (outOfStep_bookTake.trans step) leave join h applied present
    obtain ⟨-, -, bt, -, -⟩ := takenWith_table s sender n t es cursor h
    intro x hx
    rw [taken] at hx ⊢
    rw [takenWith_cursor] at hx
    rw [bt]
    exact (adds _ x hx).elim mem_pruned id

/-- R38: a station that takes its own LEAVE or JOIN has no joiners. -/
theorem joinersStand_leaveBay {s u : State} {listen : Listen} (h : u.blu = (s.leaveBay listen).blu) : u.settle.JoinersStand := by
  refine joinersStand_of_none ?_
  rw [(sameBay_settle u).cursor, h, (leaveBay_gone s listen).blu]
  rfl

theorem ownLeave_blu (s : State) : s.ownLeave.blu = (s.leaveBay .off).blu := by
  unfold State.ownLeave
  rw [State.enter_blu, State.modSsl_blu]

theorem lateJoinSelf_blu (s : State) : s.lateJoinSelf.blu = s.blu := by
  unfold State.lateJoinSelf
  rw [State.enter_blu, State.modSsl_blu]

/-- R18: after a take no joiner of the cursor stands ABSENT. -/
theorem joinersStand_take {s : State} {sender : Nat} (n : Notice) (member : s.member = true) (lt : sender < s.bt.roster.length) :
    (s.take sender n).JoinersStand := by
  obtain ⟨hears, att, present⟩ := s.member_iff.1 member
  by_cases step : s.outOfStep sender n = true
  · exact joinersStand_of_none (take_outOfStep hears att step).joiners
  rw [Bool.not_eq_true] at step
  by_cases leave : sender = s.me ∧ n = .leave
  · obtain ⟨rfl, rfl⟩ := leave
    rw [take_ownLeave member]
    exact joinersStand_leaveBay (ownLeave_blu _)
  by_cases join : sender = s.me ∧ noticeKind n = 1
  · have own : s.take sender n = ((s.bookTake sender n).leaveBay .following).lateJoinSelf.settle := by
      rw [take_attached hears att]
      unfold State.takeAttached
      rw [outOfStep_bookTake, step, if_neg Bool.false_ne_true, bookTake_me, if_neg leave, if_pos join]
    rw [own]
    exact joinersStand_leaveBay (lateJoinSelf_blu _)
  · have applied := fun t es cursor => joinersStand_applied (t := t) (es := es) (cursor := cursor) hears att step leave join
    have kept : ∀ (f : State → State), (∀ u : State, ∀ x ∈ (f u).blu.cursor.joiners, x ∈ u.blu.cursor.joiners) → ∀ (t : Table)
        (u : State), ∀ x ∈ (if sender = s.me then f u else u).blu.cursor.joiners,
          x ∈ u.blu.cursor.joiners ∨ (t.rosterAt x.station).state ≠ .absent := fun f hf t u x hx => by
      split at hx
      · exact .inl (hf u x hx)
      · exact .inl hx
    have keeps : ∀ (f : State → State), (∀ u, KeepsTable u (f u)) → ∀ u, KeepsTable u (if sender = s.me then f u else u) :=
      fun f hf u => by
        split
        · exact hf u
        · exact KeepsTable.refl u
    cases n with
    | join station digest silent =>
      refine applied _ _ _ (fun u => keepsTable_giveImage u _ _ _) (applyTake_join station digest silent) fun u x hx => ?_
      refine (mem_giveImage hx).elim (fun e => .inr ?_) .inl
      rw [e, lateJoin_rosterAt_sender _ _ lt]
      exact nofun
    | formed =>
      cases reported : s.bt.reportedGiver sender with
      | none => exact applied _ _ _ KeepsTable.refl (applyTake_formed_unreported reported) fun u x hx => .inl hx
      | some g =>
        refine applied _ _ _ (fun u => keepsTable_giveImage u _ _ _) (applyTake_formed_reported reported) fun u x hx => ?_
        refine (mem_giveImage hx).elim (fun e => .inr ?_) .inl
        rw [e, silentReport_rosterAt_sender _ _ _ _ lt]
        exact nofun
    | image joiner img =>
      refine applied _ _ _ (keeps _ keepsTable_cursorAdvance) (applyTake_image joiner img) (kept _ (fun u x hx => ?_) _)
      rwa [cursorAdvance_joiners] at hx
    | imageEnd joiner result count =>
      refine applied _ _ _ (keeps _ fun u => keepsTable_cursorDrop u joiner) (applyTake_imageEnd joiner result count)
        (kept _ (fun u x hx => ?_) _)
      rw [cursorDrop_joiners] at hx
      exact (List.mem_filter.1 hx).1
    | _ => exact applied _ _ id KeepsTable.refl (applyTake_other (by simp [noticeKind])) fun u x hx => .inl hx

/-! ### The takes that act on the cursor -/

section
variable {s : State} {sender : Nat} (member : s.member = true)
include member

/-- R31 (e): a late JOIN that leaves this station PRESENT. -/
theorem take_join_eq (station digest : Nat) (silent : Option Nat) (other : sender ≠ s.me)
    (present : (s.bt.lateJoin s.bay.reserve sender digest silent).table.isPresent s.me = true) :
    s.take sender (.join station digest silent) = s.takenWith sender (.join station digest silent)
      (s.bt.lateJoin s.bay.reserve sender digest silent).table (s.bt.lateJoin s.bay.reserve sender digest silent).effects
      fun u => u.giveImage sender (s.bt.lateJoin s.bay.reserve sender digest silent).giver (s.bt.digestAgrees digest) := by
  obtain ⟨hears, att, _⟩ := s.member_iff.1 member
  exact take_of_applied s sender _ _ _ _ hears att rfl nofun (fun h => other h.1) (fun u => keepsTable_giveImage u _ _ _)
    (applyTake_join station digest silent) present

/-- R30: a FORMED that reports a giver silent and leaves this station PRESENT. -/
theorem take_formed_eq {silent : Nat} (reported : s.bt.reportedGiver sender = some silent)
    (present : (s.bt.silentReport s.bay.reserve sender silent).table.isPresent s.me = true) :
    s.take sender .formed = s.takenWith sender .formed (s.bt.silentReport s.bay.reserve sender silent).table
      (s.bt.silentReport s.bay.reserve sender silent).effects
      fun u => u.giveImage sender (s.bt.silentReport s.bay.reserve sender silent).giver (s.bt.reportedResult sender) := by
  obtain ⟨hears, att, _⟩ := s.member_iff.1 member
  exact take_of_applied s sender _ _ _ _ hears att rfl nofun (by simp [noticeKind]) (fun u => keepsTable_giveImage u _ _ _)
    (applyTake_formed_reported reported) present

/-- R18: the take of its own IMAGE. -/
theorem take_ownImage {joiner : Nat} (img : Image) (other : joiner ≠ s.me)
    (present : (s.bt.markImageFrom s.me joiner).isPresent s.me = true) : s.take s.me (.image joiner img) =
      s.takenWith s.me (.image joiner img) (s.bt.markImageFrom s.me joiner) [] State.cursorAdvance := by
  obtain ⟨hears, att, standing⟩ := s.member_iff.1 member
  refine take_of_applied s s.me _ _ _ _ hears att (outOfStep_bookTake.trans ?_) nofun (by simp [noticeKind])
    keepsTable_cursorAdvance ?_ present
  · simp [State.outOfStep, other, Table.not_absent_of_isPresent standing]
  · rw [applyTake_image]
    simp only [if_true]

/-- R18: the take of its own IMAGE END. -/
theorem take_ownImageEnd (joiner result count : Nat) (present : (s.bt.imageEndFrom s.me joiner result).isPresent s.me = true) :
    s.take s.me (.imageEnd joiner result count) =
      s.takenWith s.me (.imageEnd joiner result count) (s.bt.imageEndFrom s.me joiner result) [] fun u => u.cursorDrop joiner := by
  obtain ⟨hears, att, standing⟩ := s.member_iff.1 member
  refine take_of_applied s s.me _ _ _ _ hears att (outOfStep_bookTake.trans ?_) nofun (by simp [noticeKind])
    (fun u => keepsTable_cursorDrop u joiner) ?_ present
  · simp [State.outOfStep, Table.not_absent_of_isPresent standing]
  · rw [applyTake_imageEnd]
    simp only [if_true]

end

section
variable {t : Table} {sender joiner : Nat} (h : (t.rosterAt joiner).state ≠ .joining)
include h

theorem markImageFrom_unjoined : t.markImageFrom sender joiner = t := by
  unfold Table.markImageFrom Table.markImage
  rw [if_neg h, ite_self]

theorem imageEndFrom_unjoined (result : Nat) : t.imageEndFrom sender joiner result = t := by
  unfold Table.imageEndFrom Table.markImage Table.imageEnd
  simp only [h, if_false]
  repeat' split
  all_goals rfl

end

end Sys2Proof.Machine

namespace Sys2Proof

open Machine

/-- Settles O27: the lowest PRESENT station as giver, the operations of the cursor one by one, and each take as it is applied. -/
theorem lateJoinChoosesTheLowestGiver : Obligations.LateJoinChoosesTheLowestGiver := by
  refine ⟨fun s sender station digest member length lt other absent => ?_, fun lines equipped => ?_, fun t j => ?_,
    fun s j rest subject h => ⟨fun next => ?_, ?_⟩, cursorBegin_nil, fun s j rest station h => ⟨fun e => ?_, cursorDrop_behind s h⟩,
    fun s station accepted => ⟨cursorAdd_nil s station accepted, cursorAdd_new s station accepted, fun j rest h e others => ?_,
      fun before x after h behind e others => ?_⟩, fun s x => mem_cursorPrune s, fun s stand => ?_,
    fun s j rest h absent others => ?_, fun c s t sender n hc member length lt he => ?_,
    fun c s sender n g hc member kind hs leave hg present => ?_, fun s sender station digest silent g member other hg present => ?_,
    fun s sender silent g member reported hg present => ?_,
    fun s joiner result count img mark done t member hmark code hdone ht => ?_⟩
  · have unseen := lateVictim_of_absent absent
    obtain ⟨bt, outside⟩ := take_join station digest (silent := none) member other (by rw [unseen]; exact nofun)
    have present := (s.member_iff.1 member).2.2
    have stands : ∀ q, q ≠ sender → (s.bt.lateStripped sender none).rosterAt q = s.bt.rosterAt q := fun q ne =>
      lateStripped_rosterAt_other _ _ _ ne (by rw [unseen]; exact nofun)
    have lt' : s.me < 16 := length ▸ Table.lt_of_not_absent (Table.not_absent_of_isPresent present)
    obtain ⟨g, hg⟩ : ∃ g, (s.bt.lateStripped sender none).chooseGiver sender = some g :=
      exists_giver (q := s.me) (by unfold Table.isPresent; rw [stands _ (Ne.symm other)]; exact present) lt' (Ne.symm other)
    obtain ⟨giverPresent, giverOther, -, lowest⟩ := lateGiver_spec hg
    obtain ⟨table, effects, lines, pool, tokens⟩ := lateJoin_of_absent s.bay.reserve digest absent
    refine ⟨_, g, rfl, outside, ?_, giverPresent, giverOther, fun q hq ne => lowest q hq ne (by rw [unseen]; exact nofun), ?_, ?_, ?_,
      ?_, ?_, ?_⟩
    rotate_right
    · rintro rfl
      have mine : (s.bt.lateJoin s.bay.reserve sender digest none).table.isPresent s.me = true := by
        rw [lateJoin_isPresent_ne _ _ (Ne.symm other)]
        unfold Table.isPresent
        rw [stands _ (Ne.symm other)]
        exact present
      have taken : s.take sender (.join station digest none) = s.takenWith sender (.join station digest none)
          (s.bt.lateJoin s.bay.reserve sender digest none).table (s.bt.lateJoin s.bay.reserve sender digest none).effects
          fun u => u.cursorAdd sender (s.bt.digestAgrees digest) :=
        (take_join_eq member station digest none other mine).trans (takenWith_congr fun u hu => giveImage_here hu _ _ hg)
      rw [taken, takenWith_cursor]
      exact cursorAdd_mem _ _ _
    all_goals rw [bt]
    · refine (lateJoin_rosterAt_sender s.bay.reserve s.bt (length ▸ lt)).trans ?_
      rw [lateJoin_giver, hg]
    · exact fun q ne => (lateJoin_rosterAt_ne _ _ ne).trans (stands q ne)
    · exact (congrArg Table.lines table).trans lines
    · exact (congrArg Table.pool table).trans pool
    · exact (congrArg Table.tokens table).trans tokens
    · exact lateJoin_joinResults _ _ _ _ _
  · refine ⟨rfl, if_pos equipped, fun n hn => if_pos hn, if_neg (by omega)⟩
  · refine ⟨fun tk htk => ?_, fun p hp => ?_, fun n r hr => ?_, rfl⟩
    · simp [Table.cursorNotice, Table.imageOf, htk]
    · simp [Table.cursorNotice, Table.imageOf, hp]
    · simp [Table.cursorNotice, Table.imageOf, hr]
  · unfold State.cursorAdvance
    rw [next]
    exact cursorOffer_cons s h _
  · rw [cursorBegin_cons s h]
    exact cursorOffer_cons s h _
  · subst e
    exact cursorDrop_head s h
  · subst e
    exact cursorAdd_head s accepted h others
  · subst e
    exact cursorAdd_listed s accepted h behind others
  · rw [cursorPrune_eq]
    exact dropAbsent_of_none s s.bt stand
  · have spared : (rest.filter fun x => x.station != j.station) = rest :=
      List.filter_eq_self.2 fun x hx => by simpa using (others x hx).1
    have dropped := cursorDrop_head s h
    rw [spared] at dropped
    rw [cursorPrune_eq, h, ← dropped]
    unfold dropAbsent
    rw [List.foldl_cons, if_pos absent]
    exact dropAbsent_of_none _ s.bt fun x hx => (others x hx).2
  · rw [exec_of_taken c s sender n hc] at he
    cases he
    exact joinersStand_take n member (length ▸ lt)
  · subst hg
    obtain ⟨hears, att, _⟩ := s.member_iff.1 member
    rw [exec_of_taken c s sender n hc]
    exact congrArg Host.Outcome.next (take_eq_takenBy s sender n hears att hs kind (fun h => leave h.2 h.1) present)
  · subst hg
    have taken := take_join_eq member station digest silent other present
    exact ⟨fun here => congrArg Host.Outcome.next (taken.trans (takenWith_congr fun u hu => giveImage_here hu _ _ here)),
      fun elsewhere => congrArg Host.Outcome.next (taken.trans (takenWith_congr fun u hu => giveImage_elsewhere hu _ _ elsewhere))⟩
  · subst hg
    have taken := take_formed_eq member reported present
    refine ⟨fun accepted here result => congrArg Host.Outcome.next (taken.trans (takenWith_congr fun u hu => ?_)),
      fun elsewhere => congrArg Host.Outcome.next (taken.trans (takenWith_congr fun u hu => giveImage_elsewhere hu _ _ elsewhere))⟩
    have held : s.bt.reportedResult sender = accepted := by
      unfold Table.reportedResult
      rcases result with h | ⟨h, e⟩
      · rw [h]; rfl
      · rw [h, e]; rfl
    rw [giveImage_here hu _ _ here, held]
  · have present := (s.member_iff.1 member).2.2
    have standing : ∀ r, (t r).isPresent s.me = true := fun r => by
      rw [ht]
      simp only
      split
      · next joining =>
        have ne : s.me ≠ joiner := by
          rintro rfl
          rw [Table.isPresent_of_joining joining] at present
          cases present
        rw [isPresent_setRoster_ne ne]
        exact present
      · exact present
    have marked : s.bt.markImageFrom s.me joiner = t mark := by
      rw [ht, hmark]
      simp only
      split
      · next joining => exact markImageFrom_member present joining
      · next unjoined => exact markImageFrom_unjoined unjoined
    have ended : s.bt.imageEndFrom s.me joiner result = t done := by
      rw [ht, hdone]
      simp only
      split
      · next joining =>
        have lt : joiner < s.bt.roster.length := Table.lt_of_not_absent (by rw [joining]; decide)
        rcases Nat.le_one_iff_eq_zero_or_eq_one.1 code with rfl | rfl
        · exact imageEndFrom_member (result := 0) (accepted := true) present joining lt rfl
        · exact imageEndFrom_member (result := 1) (accepted := false) present joining lt rfl
      · next unjoined => exact imageEndFrom_unjoined unjoined result
    refine ⟨fun other => congrArg Host.Outcome.next ?_, congrArg Host.Outcome.next ?_⟩
    · rw [← marked]
      exact take_ownImage member img other (marked ▸ standing mark)
    · rw [← ended]
      exact take_ownImageEnd member joiner result count (ended ▸ standing done)

end Sys2Proof
end

section
/-! SUPPORT. How many channels, pairs, slots, mixer pushers and run records there are (R103, R123, R138, R161, R164): no operation of
dosing, the drives or the order book makes one more or one fewer. -/

namespace Sys2Proof.Machine

/-- How many records of each kind dosing, the order book and the drives keep. -/
def State.counts (s : State) : Nat × Nat × Nat × Nat × Nat :=
  (s.dcs.length, s.mps.length, s.obu.slots.length, s.pdu.toMixer.length, s.pdu.runs.length)

section
variable (s : State)

/-! ### Updates -/

@[simp] theorem counts_modDc (k f) : (s.modDc k f).counts = s.counts := by simp [State.counts, State.modDc]
@[simp] theorem counts_modMp (k f) : (s.modMp k f).counts = s.counts := by simp [State.counts, State.modMp]
@[simp] theorem counts_modOrder (slot f) : (s.modOrder slot f).counts = s.counts := by simp [State.counts, State.modOrder]
@[simp] theorem counts_modRun (m f) : (s.modRun m f).counts = s.counts := by simp [State.counts, State.modRun]
@[simp] theorem counts_modBlu (f) : (s.modBlu f).counts = s.counts := rfl
@[simp] theorem counts_modBt (f) : (s.modBt f).counts = s.counts := rfl
@[simp] theorem counts_modSsl (f) : (s.modSsl f).counts = s.counts := rfl
@[simp] theorem counts_modTlu (f) : (s.modTlu f).counts = s.counts := rfl
@[simp] theorem counts_modTimer (i f) : (s.modTimer i f).counts = s.counts := rfl
@[simp] theorem counts_modPusher (p f) : (s.modPusher p f).counts = s.counts := by
  cases p <;> simp [State.counts, State.modPusher]
@[simp] theorem counts_offer (n o) : (s.offer n o).counts = s.counts := rfl
@[simp] theorem counts_strike (p) : (s.strike p).counts = s.counts := rfl
@[simp] theorem counts_setStage (slot st) : (s.setStage slot st).counts = s.counts := counts_modOrder s slot _
@[simp] theorem counts_enter (st) : (s.enter st).counts = s.counts := by unfold State.enter; split <;> rfl

theorem counts_modBook {f : Book → Book} (h : (f s.obu).slots.length = s.obu.slots.length) : (s.modBook f).counts = s.counts := by
  simp [State.counts, State.modBook, h]

theorem counts_foldl {α : Type} (f : State → α → State) (h : ∀ s a, (f s a).counts = s.counts) (l : List α) :
    (l.foldl f s).counts = s.counts := by
  induction l generalizing s with
  | nil => rfl
  | cons a l ih => exact (ih _).trans (h s a)

/-! ### Dosing -/

@[simp] theorem counts_writeReport (k o) : (s.writeReport k o).counts = s.counts := by simp [State.writeReport]

@[simp] theorem counts_stopChannel (k) : (s.stopChannel k).counts = s.counts := by
  unfold State.stopChannel
  repeat' split
  all_goals simp

@[simp] theorem counts_stopThose (slot pick) : (s.stopThose slot pick).counts = s.counts := by
  refine counts_foldl s _ (fun s k => ?_) _
  split
  · exact counts_stopChannel s k
  · rfl

@[simp] theorem counts_stopOrder (slot r) : (s.stopOrder slot r).counts = s.counts := by
  unfold State.stopOrder State.stopChannels
  repeat' split
  all_goals simp

@[simp] theorem counts_report (k o) : (s.report k o).counts = s.counts := by
  unfold State.report
  repeat' split
  all_goals simp

@[simp] theorem counts_offerClaim (k st) : (s.offerClaim k st).counts = s.counts := by
  unfold State.offerClaim
  simp only
  split
  · simp
  · exact (counts_modDc _ k _).trans (counts_modDc s k _)

@[simp] theorem counts_handOver (k slot entry e) : (s.handOver k slot entry e).counts = s.counts := by simp [State.handOver]

@[simp] theorem counts_giveBack (k drops o) : (s.giveBack k drops o).counts = s.counts := by
  unfold State.giveBack
  simp only
  split <;> simp

@[simp] theorem counts_writeWidth (k next) : (s.writeWidth k next).counts = s.counts := by simp [State.writeWidth]

@[simp] theorem counts_periodStart (k) : (s.periodStart k).counts = s.counts := by
  unfold State.periodStart
  simp only
  split <;> simp

@[simp] theorem counts_beginDose (k g a d) : (s.beginDose k g a d).counts = s.counts := by
  unfold State.beginDose
  simp only
  split <;> simp

@[simp] theorem counts_refuseGrant (k g) : (s.refuseGrant k g).counts = s.counts := by simp [State.refuseGrant]

@[simp] theorem counts_grantTell (k h) : (s.grantTell k h).counts = s.counts := by
  unfold State.grantTell
  repeat' split
  all_goals simp

@[simp] theorem counts_released (k) : (s.released k).counts = s.counts := by
  unfold State.released
  repeat' split
  all_goals simp

@[simp] theorem counts_lineTell (k t) : (s.lineTell k t).counts = s.counts := by
  unfold State.lineTell
  repeat' split
  all_goals simp

@[simp] theorem counts_afterShot (k m p o) : (s.afterShot k m p o).counts = s.counts := by
  unfold State.afterShot
  simp only
  repeat' split
  all_goals simp

@[simp] theorem counts_captureShot (k) : (s.captureShot k).counts = s.counts := by simp [State.captureShot]

@[simp] theorem counts_ownLimit (k) : (s.ownLimit k).counts = s.counts := by
  unfold State.ownLimit
  repeat' split
  all_goals simp

@[simp] theorem counts_leaveChannel (k) : (s.leaveChannel k).counts = s.counts := by
  unfold State.leaveChannel
  repeat' split
  all_goals simp

/-! ### Drives -/

@[simp] theorem counts_startFill (t) : (s.startFill t).counts = s.counts := by unfold State.startFill; split <;> rfl
@[simp] theorem counts_startPress : s.startPress.counts = s.counts := by unfold State.startPress; split <;> rfl
@[simp] theorem counts_startChute : s.startChute.counts = s.counts := by unfold State.startChute; split <;> rfl
@[simp] theorem counts_startTransfer (p) : (s.startTransfer p).counts = s.counts := by
  unfold State.startTransfer
  split <;> simp
@[simp] theorem counts_raiseRun (m t) : (s.raiseRun m t).counts = s.counts := by unfold State.raiseRun; split <;> simp
@[simp] theorem counts_dropRun (m) : (s.dropRun m).counts = s.counts := by unfold State.dropRun; split <;> simp

/-! ### Orders -/

@[simp] theorem counts_dropToken (slot) : (s.dropToken slot).counts = s.counts := by rw [dropToken_eq]; rfl

@[simp] theorem counts_finish (slot o r) : (s.finish slot o r).counts = s.counts := by
  unfold State.finish
  rw [counts_modBook _ rfl]
  simp

@[simp] theorem counts_reject (slot r) : (s.reject slot r).counts = s.counts := by simp [State.reject]

@[simp] theorem counts_seat (slot) : (s.seat slot).counts = s.counts := by
  have lit : (s.modPdu fun p => { p with lamp := false }).counts = s.counts := rfl
  unfold State.seat
  simp only
  repeat' split
  all_goals simp [lit]

@[simp] theorem counts_judgeTin (slot code) : (s.judgeTin slot code).counts = s.counts := by
  unfold State.judgeTin
  repeat' split
  all_goals simp

@[simp] theorem counts_chooseCradle : s.chooseCradle.counts = s.counts := by
  have chosen : ∀ slot, (((s.modBook fun b => { b with cradle := some slot }).setStage slot .loading).modPdu fun p =>
      { p with lamp := true }).counts = s.counts := fun slot => (counts_setStage _ slot _).trans (counts_modBook s rfl)
  unfold State.chooseCradle
  simp only
  repeat' split
  · exact (counts_judgeTin _ _ _).trans (chosen _)
  · exact chosen _
  · rfl

@[simp] theorem counts_requestRush : s.requestRush.counts = s.counts := by
  unfold State.requestRush
  repeat' split
  all_goals rfl

@[simp] theorem counts_openGate : s.openGate.counts = s.counts := by
  unfold State.openGate
  repeat' split
  all_goals simp

@[simp] theorem counts_handNext (slot) : (s.handNext slot).counts = s.counts := by
  unfold State.handNext
  repeat' split
  all_goals simp

@[simp] theorem counts_endTint (slot) : (s.endTint slot).counts = s.counts := by
  unfold State.endTint State.leaveTint
  simp only
  repeat' split
  all_goals simp

@[simp] theorem counts_dose : s.dose.counts = s.counts := by
  unfold State.dose
  split <;> simp

@[simp] theorem counts_callOutfeed : s.callOutfeed.counts = s.counts := by
  unfold State.callOutfeed
  repeat' split
  all_goals simp

@[simp] theorem counts_claimMixer : s.claimMixer.counts = s.counts := by
  unfold State.claimMixer
  repeat' split
  · rfl
  · rfl
  · exact counts_modOrder _ _ _
  · rfl

theorem free_slots_length (b : Book) (slot : Nat) : (b.free slot).slots.length = b.slots.length := by
  unfold Book.free
  split
  · simp
  · rfl

end

theorem counts_queueTickets : ∀ (n : Nat) (s : State), (State.queueTickets n s).counts = s.counts
  | 0, _ => rfl
  | n + 1, s => by
    unfold State.queueTickets
    repeat' split
    · rfl
    · next slot rest _ _ _ _ _ =>
      exact (counts_queueTickets n _).trans (counts_modBook (f := fun b => { b.free slot with doneOrder := rest }) s
        (free_slots_length s.obu slot))
    · exact (counts_queueTickets n _).trans (counts_modBook s rfl)
    · rfl

section
variable (s : State)

@[simp] theorem counts_settle : s.settle.counts = s.counts := by
  unfold State.settle
  rw [counts_queueTickets]
  simp

@[simp] theorem counts_rushTell (token) : (s.rushTell token).counts = s.counts := by
  unfold State.rushTell State.rushSettled State.rushUnwanted
  repeat' split
  all_goals first | rfl | exact (counts_modOrder _ _ _).trans (counts_modBook s rfl)

@[simp] theorem counts_offerMixRelease (owner m g o) : (s.offerMixRelease owner m g o).counts = s.counts := rfl

@[simp] theorem counts_enterMixing (slot m g t) : (s.enterMixing slot m g t).counts = s.counts := by simp [State.enterMixing]

@[simp] theorem counts_mixerGranted (m g t) : (s.mixerGranted m g t).counts = s.counts := by
  unfold State.mixerGranted
  simp only
  repeat' split
  all_goals simp

@[simp] theorem counts_bookTell (t) : (s.bookTell t).counts = s.counts := by
  unfold State.bookTell
  repeat' split
  all_goals simp

@[simp] theorem counts_baseDone (d) : (s.baseDone d).counts = s.counts := by unfold State.baseDone; split <;> simp
@[simp] theorem counts_baseFaulted (d f) : (s.baseFaulted d f).counts = s.counts := by unfold State.baseFaulted; split <;> simp
@[simp] theorem counts_lidHome : s.lidHome.counts = s.counts := by unfold State.lidHome; split <;> simp
@[simp] theorem counts_lidFaulted : s.lidFaulted.counts = s.counts := by unfold State.lidFaulted; split <;> simp

@[simp] theorem counts_outfeedReached : s.outfeedReached.counts = s.counts := by
  have placed : ∀ slot, (s.modBook fun b => { b with cradle := none, outfeed := some slot }).counts = s.counts :=
    fun slot => rfl
  unfold State.outfeedReached
  simp only
  repeat' split
  all_goals simp [placed]

@[simp] theorem counts_mixerReached (m) : (s.mixerReached m).counts = s.counts := by
  have placed : (s.modBook fun b => { b with outfeed := none }).counts = s.counts := rfl
  unfold State.mixerReached
  split <;> simp [placed]

@[simp] theorem counts_endMix (slot m o oc r) : (s.endMix slot m o oc r).counts = s.counts := by simp [State.endMix]

@[simp] theorem counts_transferConfirmed (p) : (s.transferConfirmed p).counts = s.counts := by
  unfold State.transferConfirmed
  repeat' split
  all_goals simp

@[simp] theorem counts_transferFailed (p) : (s.transferFailed p).counts = s.counts := by
  unfold State.transferFailed
  repeat' split
  all_goals simp

@[simp] theorem counts_mixerDone (m) : (s.mixerDone m).counts = s.counts := by unfold State.mixerDone; split <;> simp

@[simp] theorem counts_outfeedEmptied : s.outfeedEmptied.counts = s.counts := by
  unfold State.outfeedEmptied
  simp only
  repeat' split
  all_goals simp

theorem counts_cancelOrder {s t : State} {slot : Nat} (h : s.cancelOrder slot = some t) : t.counts = s.counts := by
  have unlit : (s.modPdu fun p => { p with lamp := false }).counts = s.counts := rfl
  have stopped : (s.stopFill slot).counts = s.counts := by
    unfold State.stopFill
    split
    · rfl
    · exact counts_modOrder s slot _
  unfold State.cancelOrder at h
  split at h <;> cases h <;> simp [unlit, stopped]

/-! ### Leaving the bay -/

theorem counts_leaveOrder (slot) : (s.leaveOrder slot).counts = s.counts := by
  unfold State.leaveOrder
  repeat' split
  all_goals simp

theorem counts_loseRequest : s.loseRequest.counts = s.counts := by
  unfold State.loseRequest
  split
  · rfl
  · exact counts_modBook s rfl
  · exact counts_modBook s rfl
  · exact (counts_modOrder _ _ _).trans (counts_modBook s rfl)

@[simp] theorem counts_leaveBook : s.leaveBook.counts = s.counts :=
  (counts_foldl _ _ counts_leaveOrder _).trans (counts_loseRequest s)

@[simp] theorem counts_leaveBay (listen) : (s.leaveBay listen).counts = s.counts := by
  rw [leaveBay_eq]
  exact (counts_foldl _ _ counts_leaveChannel _).trans (counts_leaveBook _)

@[simp] theorem counts_detach (r) : (s.detach r).counts = s.counts := by
  unfold State.detach
  rw [counts_enter, counts_modSsl, counts_leaveBay]

@[simp] theorem counts_backToWaiting (refill) : (s.backToWaiting refill).counts = s.counts := by
  unfold State.backToWaiting State.struckTell
  repeat' split
  · rfl
  · exact counts_report _ _ _
  all_goals rfl

@[simp] theorem counts_bookTake (sender n) : (s.bookTake sender n).counts = s.counts := by
  unfold State.bookTake
  split
  · rfl
  · simp

end

end Sys2Proof.Machine
end

section
/-! The frame of the commands (R21, R87, R166): what each leaves of the setup, the bay and the plant inputs. -/

namespace Sys2Proof.Machine

/-- From `s` to `t` nothing of setup, bay, plant inputs and queue has changed, nor the counts of records. -/
structure Framed (s t : State) : Prop where
  setup : t.setup = s.setup
  ssl : t.ssl = s.ssl
  bt : t.bt = s.bt
  htb : t.htb = s.htb
  pins : t.pins = s.pins
  pending : t.pending = s.pending
  counts : t.counts = s.counts

namespace Framed

theorem refl (s : State) : Framed s s := ⟨rfl, rfl, rfl, rfl, rfl, rfl, rfl⟩

theorem trans {s t u : State} (h : Framed s t) (g : Framed t u) : Framed s u :=
  ⟨g.setup.trans h.setup, g.ssl.trans h.ssl, g.bt.trans h.bt, g.htb.trans h.htb, g.pins.trans h.pins,
    g.pending.trans h.pending, g.counts.trans h.counts⟩

theorem of {s t : State} (bay : SameBay s t) (counts : t.counts = s.counts) : Framed s t :=
  ⟨bay.setup, bay.ssl, bay.bt, bay.htb, bay.pins, bay.pending, counts⟩

theorem ite {c : Prop} [Decidable c] {s t u : State} (h : Framed s t) (g : Framed s u) : Framed s (if c then t else u) := by
  split
  · exact h
  · exact g

end Framed

section
variable (s : State)

theorem framed_settle : Framed s s.settle := .of (sameBay_settle s) (counts_settle s)
theorem framed_offer (n o) : Framed s (s.offer n o) := .of (sameBay_offer s n o) rfl
theorem framed_modTlu (f) : Framed s (s.modTlu f) := ⟨rfl, rfl, rfl, rfl, rfl, rfl, rfl⟩
theorem framed_modMp (k f) : Framed s (s.modMp k f) := .of (sameBay_modMp s k f) (counts_modMp s k f)
theorem framed_modRun (m f) : Framed s (s.modRun m f) := .of (sameBay_modRun s m f) (counts_modRun s m f)
theorem framed_modOrder (slot f) : Framed s (s.modOrder slot f) := .of (sameBay_modOrder s slot f) (counts_modOrder s slot f)
theorem framed_modPusher (p f) : Framed s (s.modPusher p f) := .of (sameBay_modPusher s p f) (counts_modPusher s p f)
theorem framed_modFill (f) : Framed s (s.modFill f) := ⟨rfl, rfl, rfl, rfl, rfl, rfl, rfl⟩
theorem framed_modPress (f) : Framed s (s.modPress f) := ⟨rfl, rfl, rfl, rfl, rfl, rfl, rfl⟩
theorem framed_finish (slot o r) : Framed s (s.finish slot o r) := .of (sameBay_finish s slot o r) (counts_finish s slot o r)
theorem framed_baseFaulted (d f) : Framed s (s.baseFaulted d f) := .of (sameBay_baseFaulted s d f) (counts_baseFaulted s d f)
theorem framed_transferConfirmed (p) : Framed s (s.transferConfirmed p) :=
  .of (sameBay_transferConfirmed s p) (counts_transferConfirmed s p)

/-! ### The plant and the metering pairs -/

theorem framed_settleExpiry (k) : Framed s (s.settleExpiry k) :=
  .ite (.of (sameBay_periodStart s k) (counts_periodStart s k)) (.refl s)

theorem framed_valveExpiry (k) : Framed s (s.valveExpiry k) := .ite (framed_modMp s k _) (.refl s)

theorem framed_capture (k) : Framed s (s.capture k) :=
  .ite ((Framed.of (sameBay_captureShot s k) (counts_captureShot s k)).trans (framed_settle _)) (.refl s)

theorem framed_tapMeterPulse (line) : Framed s (s.tapMeterPulse line) :=
  ⟨rfl, rfl, rfl, rfl, rfl, rfl, by simp [State.counts, State.tapMeterPulse]⟩

theorem framed_seatingTimerExpiry (code) : Framed s (s.seatingTimerExpiry code) := by
  refine .ite (.trans ?_ (framed_settle _)) (.refl s)
  have seated : Framed s (s.modPdu fun p => { p with seatingTimer := none, arrived := some code }) :=
    ⟨rfl, rfl, rfl, rfl, rfl, rfl, rfl⟩
  split
  · exact seated.trans (.of (sameBay_judgeTin _ _ _) (counts_judgeTin _ _ _))
  · exact seated

theorem framed_fillLimitExpiry : Framed s s.fillLimitExpiry :=
  .ite (((framed_modFill s _).trans (framed_baseFaulted _ _ _)).trans (framed_settle _)) (.refl s)

theorem framed_runOnExpiry : Framed s s.runOnExpiry :=
  .ite (.trans (.ite ((framed_modFill s _).trans (framed_baseFaulted _ _ _))
    ((framed_modFill s _).trans (.of (sameBay_baseDone _ _) (counts_baseDone _ _)))) (framed_settle _)) (.refl s)

theorem framed_pressTimerExpiry : Framed s s.pressTimerExpiry :=
  .ite (.ite (((framed_modPress s _).trans (.of (sameBay_lidHome _) (counts_lidHome _))).trans (framed_settle _))
    (.ite (framed_modPress s _)
      (((framed_modPress s _).trans (.of (sameBay_lidFaulted _) (counts_lidFaulted _))).trans (framed_settle _)))) (.refl s)

theorem framed_pusherPulseExpiry (p) : Framed s (s.pusherPulseExpiry p) :=
  .ite (.ite (((framed_modPusher s p _).trans (framed_transferConfirmed _ p)).trans (framed_settle _)) (framed_modPusher s p _))
    (.refl s)

theorem framed_confirmTimerExpiry (p) : Framed s (s.confirmTimerExpiry p) :=
  .ite (((framed_modPusher s p _).trans (.of (sameBay_transferFailed _ p) (counts_transferFailed _ p))).trans (framed_settle _))
    (.refl s)

theorem framed_confirmBySensor (p) : Framed s (s.confirmBySensor p) :=
  .ite ((framed_modPusher s p _).trans (framed_transferConfirmed _ p)) (.refl s)

theorem framed_chutePulseEnded : Framed s s.chutePulseEnded := by
  refine .ite (.trans ?_ (framed_settle _)) (.refl s)
  have rested : Framed s (s.modPdu fun p => { p with chute := p.chute.rest }) := ⟨rfl, rfl, rfl, rfl, rfl, rfl, rfl⟩
  split
  · exact rested.trans (framed_finish _ _ _ _)
  · exact rested

theorem framed_runTimerExpiry (m) : Framed s (s.runTimerExpiry m) := .ite (framed_modRun s m _) (.refl s)

theorem framed_tinRemoved : Framed s s.tinRemoved := by
  have cancelled : ∀ slot, Framed s ((s.cancelOrder slot).getD s) := fun slot => by
    cases h : s.cancelOrder slot with
    | none => exact .refl s
    | some t => exact .of (sameBay_cancelOrder s t slot h) (counts_cancelOrder h)
  unfold State.tinRemoved
  repeat' split
  · exact .refl s
  · exact framed_modOrder s _ _
  · exact cancelled _
  · exact cancelled _
  · exact .refl s

/-! ### The terminal -/

variable {s}

/-- R168: a command of the terminal touches what its action touches. -/
theorem framed_command (kind : Nat) {act : State → Answer} (h : Framed s (act s).state) : Framed s (s.command kind act) := by
  unfold State.command
  split
  · exact framed_modTlu s _
  · exact h.trans (framed_modTlu _ _)

variable (s)

theorem framed_orderAnswer (f) : Framed s (s.orderAnswer f).state := by
  unfold State.orderAnswer
  split
  · exact .refl s
  · exact .trans (.of (sameBay_modBook s _) (counts_modBook s List.length_set)) (framed_settle _)

theorem framed_cancelAnswer (tag) : Framed s (s.cancelAnswer tag).state := by
  unfold State.cancelAnswer
  repeat' split
  · exact .refl s
  · exact .refl s
  · next h => exact (Framed.of (sameBay_cancelOrder s _ _ h) (counts_cancelOrder h)).trans (framed_settle _)
  · exact .refl s

theorem framed_priorityAnswer (tag level) : Framed s (s.priorityAnswer tag level).state := by
  unfold State.priorityAnswer
  repeat' split
  · exact .refl s
  · exact .refl s
  · exact .refl s
  · exact .refl s
  · exact (framed_modOrder s _ _).trans (framed_settle _)
  · exact .refl s

theorem framed_askBay (equipped levelOk n) : Framed s (s.askBay equipped levelOk n).state := by
  unfold State.askBay State.queueTerminal
  repeat' split
  · exact .refl s
  · exact .refl s
  · exact .refl s
  · exact ⟨rfl, rfl, rfl, rfl, rfl, rfl, rfl⟩
  · exact .refl s

theorem framed_queryOrderAnswer (tag) : Framed s (s.queryOrderAnswer tag).state := by
  unfold State.queryOrderAnswer
  repeat' split
  all_goals exact .refl s

theorem framed_queryLineAnswer (line) : Framed s (s.queryLineAnswer line).state := by
  unfold State.queryLineAnswer
  repeat' split
  all_goals exact .refl s

theorem framed_readTicketAnswer : Framed s s.readTicketAnswer.state := by
  unfold State.readTicketAnswer
  split
  · exact .refl s
  · exact (framed_modTlu s _).trans (framed_settle _)

theorem framed_unknownCommandKind (kind payload) :
    Framed s (if commandLengthOk kind payload then s else s.command kind fun s => .refuse s .badField) :=
  .ite (.refl s) (framed_command kind (.refl s))

theorem framed_beginNotice (rival) : Framed s (s.beginNotice rival) :=
  .ite (.ite (.refl s) ⟨rfl, rfl, rfl, rfl, rfl, rfl, rfl⟩) (.refl s)

/-! ### The inputs of the plant -/

/-- The station with other plant inputs. -/
def State.withPins (s : State) (p : Pins) : State := { s with pins := p }

/-- From `s` to `t` nothing of the frame has changed but plant inputs, which are as many. -/
def Piped (s t : State) : Prop :=
  ∃ p : Pins, p.occupied.length = s.pins.occupied.length ∧ p.doneInput.length = s.pins.doneInput.length
    ∧ Framed (s.withPins p) t

variable {s} in
theorem Framed.piped {t : State} (h : Framed s t) : Piped s t := ⟨s.pins, rfl, rfl, h⟩

theorem piped_tinPresentRise : Piped s s.tinPresentRise := by
  unfold State.tinPresentRise
  split
  · exact (Framed.refl s).piped
  · exact ⟨{ s.pins with tinPresent := true }, rfl, rfl, rfl, rfl, rfl, rfl, rfl, rfl, rfl⟩

theorem piped_tinPresentFall : Piped s s.tinPresentFall := by
  have away : ∀ t : State, t = { s with
        pins := { s.pins with tinPresent := false }, pdu := { s.pdu with seatingTimer := none, arrived := none } } →
      Framed (s.withPins { s.pins with tinPresent := false }) t := by
    rintro t rfl
    exact ⟨rfl, rfl, rfl, rfl, rfl, rfl, rfl⟩
  unfold State.tinPresentFall
  simp only
  repeat' split
  · exact (Framed.refl s).piped
  · exact ⟨{ s.pins with tinPresent := false }, rfl, rfl, (away _ rfl).trans ((framed_tinRemoved _).trans (framed_settle _))⟩
  · exact ⟨{ s.pins with tinPresent := false }, rfl, rfl, away _ rfl⟩

theorem piped_outfeedSensorChange (on) : Piped s (s.outfeedSensorChange on) := by
  have sensed := framed_confirmBySensor (s.withPins { s.pins with outfeed := on })
  have emptied : ∀ u : State, Framed u u.outfeedEmptied := fun u => .of (sameBay_outfeedEmptied u) (counts_outfeedEmptied u)
  unfold State.outfeedSensorChange
  simp only
  repeat' split
  · exact (Framed.refl s).piped
  · exact ⟨{ s.pins with outfeed := on }, rfl, rfl, (sensed .toOutfeed).trans (framed_settle _)⟩
  · exact ⟨{ s.pins with outfeed := on }, rfl, rfl, ((sensed .toShelf).trans (emptied _)).trans (framed_settle _)⟩

theorem piped_occupiedInputChange (m on) : Piped s (s.occupiedInputChange m on) := by
  have sensed := framed_confirmBySensor (s.withPins { s.pins with occupied := s.pins.occupied.set m on }) (.toMixer m)
  unfold State.occupiedInputChange
  split
  · exact (Framed.refl s).piped
  · exact ⟨{ s.pins with occupied := s.pins.occupied.set m on }, List.length_set, rfl, sensed.trans (framed_settle _)⟩

theorem piped_setDoneInput {m : Nat} {on : Bool} {t : State} (h : Framed (s.setDoneInput m on) t) : Piped s t :=
  ⟨{ s.pins with doneInput := s.pins.doneInput.set m on }, rfl, List.length_set, h⟩

theorem piped_doneInputRise (m) : Piped s (s.doneInputRise m) := by
  have done : ∀ u : State, Framed u (u.mixerDone m) := fun u => .of (sameBay_mixerDone u m) (counts_mixerDone u m)
  unfold State.doneInputRise
  repeat' split
  · exact (Framed.refl s).piped
  · exact piped_setDoneInput s (((framed_modRun (s.setDoneInput m true) m _).trans (done _)).trans (framed_settle _))
  · exact piped_setDoneInput s (.refl _)

theorem piped_doneInputFall (m) : Piped s (s.doneInputFall m) := by
  unfold State.doneInputFall
  repeat' split
  · exact (Framed.refl s).piped
  · exact piped_setDoneInput s (framed_modRun (s.setDoneInput m false) m _)
  · exact piped_setDoneInput s (.refl _)

/-! ### The bay -/

theorem keepsInput_firstListenExpiry : KeepsInput s s.firstListenExpiry := by
  unfold State.firstListenExpiry
  split
  · exact ⟨rfl, rfl, rfl⟩
  · exact .refl s

theorem keepsInput_formationWindowExpiry : KeepsInput s s.formationWindowExpiry := by
  unfold State.formationWindowExpiry
  simp only
  repeat' split
  all_goals exact ⟨rfl, rfl, rfl⟩

theorem keepsInput_imageTimerExpiry : KeepsInput s s.imageTimerExpiry := by
  unfold State.imageTimerExpiry
  repeat' split
  · unfold State.giveUpJoining
    exact KeepsInput.trans (by exact ⟨rfl, rfl, rfl⟩) (keepsInput_enter _ _)
  · exact ⟨rfl, rfl, rfl⟩
  · exact .refl s

theorem keepsInput_rejoinTimerExpiry : KeepsInput s s.rejoinTimerExpiry := by
  unfold State.rejoinTimerExpiry
  repeat' split
  · exact KeepsInput.trans (by exact ⟨rfl, rfl, rfl⟩) (keepsInput_enter _ _)
  · exact (KeepsInput.trans (keepsInput_modSsl s _) (keepsInput_enter _ _)).trans (keepsInput_offer _ _ _)
  · exact .refl s

theorem sameBay_dropRunOf (slot m) : SameBay s (s.dropRunOf slot m) := by
  unfold State.dropRunOf
  split
  · exact sameBay_dropRun s m
  · exact .refl s

theorem keepsInput_ownLineTimerExpiry (line) : KeepsInput s (s.ownLineTimerExpiry line) := by
  have expired : KeepsInput s (s.expireTimer (.line line)) := ⟨rfl, rfl, rfl⟩
  unfold State.ownLineTimerExpiry
  repeat' split
  · exact (expired.trans (sameBay_ownLimit _ _).keepsInput).trans (sameBay_settle _).keepsInput
  · exact expired
  · exact .refl s

theorem keepsInput_ownMixerTimerExpiry (m) : KeepsInput s (s.ownMixerTimerExpiry m) := by
  have expired : KeepsInput s (s.expireTimer (.mixer m)) := ⟨rfl, rfl, rfl⟩
  unfold State.ownMixerTimerExpiry
  repeat' split
  · exact ((expired.trans (sameBay_dropRunOf _ _ _).keepsInput).trans (sameBay_endMix _ _ _ _ _ _).keepsInput).trans
      (sameBay_settle _).keepsInput
  · exact expired
  · exact .refl s

theorem keepsInput_watchTimerExpiry (key) : KeepsInput s (s.watchTimerExpiry key) := by
  unfold State.watchTimerExpiry
  simp only
  repeat' split
  all_goals exact ⟨rfl, rfl, rfl⟩

/-- A command of the terminal keeps the inputs where its action does. -/
theorem keepsInput_command {s : State} (kind : Nat) {act : State → Answer} (h : KeepsInput s (act s).state) :
    KeepsInput s (s.command kind act) := by
  unfold State.command
  split
  · exact keepsInput_modTlu s _
  · exact h.trans (keepsInput_modTlu _ _)

theorem keepsInput_startAnswer : KeepsInput s s.startAnswer.state := by
  unfold State.startAnswer
  split
  · exact KeepsInput.trans (by exact ⟨rfl, rfl, rfl⟩) (keepsInput_enter _ _)
  · exact .refl s

theorem keepsInput_leaveAnswer : KeepsInput s s.leaveAnswer.state := by
  unfold State.leaveAnswer State.queueTerminal
  repeat' split
  · exact ⟨rfl, rfl, rfl⟩
  all_goals exact .refl s

theorem setup_command (block : SetupBlock) :
    (s.command 1 (State.setupAnswer block)).pins = s.pins ∧ (s.command 1 (State.setupAnswer block)).pending = s.pending := by
  have accepted : (s.acceptSetup block).pins = s.pins ∧ (s.acceptSetup block).pending = s.pending :=
    ⟨State.enter_pins _ _, State.enter_pending _ _⟩
  have answered : (s.setupAnswer block).state.pins = s.pins ∧ (s.setupAnswer block).state.pending = s.pending := by
    unfold State.setupAnswer
    repeat' split
    · exact ⟨rfl, rfl⟩
    · exact accepted
    all_goals exact ⟨rfl, rfl⟩
  unfold State.command
  split
  · exact ⟨rfl, rfl⟩
  · exact answered

end

/-! ### Every command -/

/-- The commands that act on the bay, but for SETUP and the reset, leave setup, plant inputs and queue. -/
theorem exec_bay {c : Instr} (s : State) (bay : c.isBay = true) (reset : c ≠ .hardwareReset) (setup : ∀ b, c ≠ .setup b) :
    ∃ t, exec c s = .next t ∧ KeepsInput s t := by
  cases c with
  | hardwareReset => exact absurd rfl reset
  | setup b => exact absurd rfl (setup b)
  | void heard => exact ⟨_, rfl, keepsInput_void s heard⟩
  | joinTaken | formedTaken | imageTaken | imageEndTaken | leaveTaken | claimTaken | withdrawTaken | releaseTaken | refillTaken
  | lineOutTaken | lineReturnTaken | rushTakeTaken | rushDropTaken | mixClaimTaken | mixWithdrawTaken | mixReleaseTaken
  | mixerReturnTaken | revokeTaken => exact ⟨_, rfl, keepsInput_take s _ _⟩
  | start => exact ⟨_, rfl, keepsInput_command 2 (keepsInput_startAnswer s)⟩
  | leave => exact ⟨_, rfl, keepsInput_command 3 (keepsInput_leaveAnswer s)⟩
  | firstListenExpiry => exact ⟨_, rfl, keepsInput_firstListenExpiry s⟩
  | formationWindowExpiry => exact ⟨_, rfl, keepsInput_formationWindowExpiry s⟩
  | imageTimerExpiry => exact ⟨_, rfl, keepsInput_imageTimerExpiry s⟩
  | rejoinTimerExpiry => exact ⟨_, rfl, keepsInput_rejoinTimerExpiry s⟩
  | ownLineTimerExpiry line => exact ⟨_, rfl, keepsInput_ownLineTimerExpiry s line⟩
  | ownMixerTimerExpiry m => exact ⟨_, rfl, keepsInput_ownMixerTimerExpiry s m⟩
  | watchTimerExpiry key => exact ⟨_, rfl, keepsInput_watchTimerExpiry s key⟩
  | _ => cases bay

/-- The commands of orders, of queries, of the link, of the pairs and of the plant's timers touch nothing of the frame. -/
theorem exec_framed {c : Instr} (s : State) (bay : c.isBay = false) (pin : c.isPin = false) :
    ∃ t, exec c s = .next t ∧ Framed s t := by
  cases c with
  | idleWait => exact ⟨_, rfl, .ite ⟨rfl, rfl, rfl, rfl, rfl, rfl, rfl⟩ (.refl s)⟩
  | beginNotice rival => exact ⟨_, rfl, framed_beginNotice s rival⟩
  | turnSpentIdleClear => exact ⟨_, rfl, .ite ⟨rfl, rfl, rfl, rfl, rfl, rfl, rfl⟩ (.refl s)⟩
  | order fields => exact ⟨_, rfl, framed_command 4 (framed_orderAnswer s fields)⟩
  | cancel tag => exact ⟨_, rfl, framed_command 5 (framed_cancelAnswer s tag)⟩
  | priority tag level => exact ⟨_, rfl, framed_command 6 (framed_priorityAnswer s tag level)⟩
  | refill line level => exact ⟨_, rfl, framed_command 7 (framed_askBay s _ _ _)⟩
  | lineReturn line level => exact ⟨_, rfl, framed_command 8 (framed_askBay s _ _ _)⟩
  | lineOut line => exact ⟨_, rfl, framed_command 9 (framed_askBay s _ _ _)⟩
  | mixerReturn mixer => exact ⟨_, rfl, framed_command 10 (framed_askBay s _ _ _)⟩
  | queryStation => exact ⟨_, rfl, framed_command 11 (framed_modTlu s _)⟩
  | queryOrder tag => exact ⟨_, rfl, framed_command 12 (framed_queryOrderAnswer s tag)⟩
  | queryLine line => exact ⟨_, rfl, framed_command 13 (framed_queryLineAnswer s line)⟩
  | queryMixers => exact ⟨_, rfl, framed_command 14 (.refl s)⟩
  | readTicket => exact ⟨_, rfl, framed_command 15 (framed_readTicketAnswer s)⟩
  | unknownCommandKind kind payload => exact ⟨_, rfl, framed_unknownCommandKind s kind payload⟩
  | commandWhileSending kind => exact ⟨_, rfl, .ite (framed_modTlu s _) (.refl s)⟩
  | replySent => exact ⟨_, rfl, .ite (framed_modTlu s _) (.refl s)⟩
  | frameDropped bytes => exact ⟨_, rfl, framed_modTlu s _⟩
  | interByteTimeout => exact ⟨_, rfl, framed_modTlu s _⟩
  | settleExpiry pair => exact ⟨_, rfl, framed_settleExpiry s pair⟩
  | valveExpiry pair => exact ⟨_, rfl, framed_valveExpiry s pair⟩
  | capture pair => exact ⟨_, rfl, framed_capture s pair⟩
  | tapMeterPulse line => exact ⟨_, rfl, framed_tapMeterPulse s line⟩
  | seatingTimerExpiry code => exact ⟨_, rfl, framed_seatingTimerExpiry s code⟩
  | baseMeterPulse => exact ⟨_, rfl, framed_modFill s _⟩
  | basePeriodExpiry => exact ⟨_, rfl, .ite (framed_modFill s _) (.refl s)⟩
  | dutyTimerExpiry => exact ⟨_, rfl, .ite (framed_modFill s _) (.refl s)⟩
  | fillLimitExpiry => exact ⟨_, rfl, framed_fillLimitExpiry s⟩
  | runOnExpiry => exact ⟨_, rfl, framed_runOnExpiry s⟩
  | seatTimerExpiry lidHome => exact ⟨_, rfl, .ite (framed_modPress s _) (.refl s)⟩
  | lidHomeOn => exact ⟨_, rfl, .ite (framed_modPress s _) (.refl s)⟩
  | pressTimerExpiry => exact ⟨_, rfl, framed_pressTimerExpiry s⟩
  | pusherPulseExpiry p => exact ⟨_, rfl, framed_pusherPulseExpiry s p⟩
  | confirmTimerExpiry p => exact ⟨_, rfl, framed_confirmTimerExpiry s p⟩
  | chutePulseEnded => exact ⟨_, rfl, framed_chutePulseEnded s⟩
  | runTimerExpiry m => exact ⟨_, rfl, framed_runTimerExpiry s m⟩
  | tinPresentRise | tinPresentFall | outfeedSensorChange | occupiedInputChange | doneInputRise | doneInputFall => cases pin
  | _ => cases bay

/-- The six commands that change a plant input touch nothing else of the frame. -/
theorem exec_piped {c : Instr} (s : State) (pin : c.isPin = true) : ∃ t, exec c s = .next t ∧ Piped s t := by
  cases c with
  | tinPresentRise => exact ⟨_, rfl, piped_tinPresentRise s⟩
  | tinPresentFall => exact ⟨_, rfl, piped_tinPresentFall s⟩
  | outfeedSensorChange on => exact ⟨_, rfl, piped_outfeedSensorChange s on⟩
  | occupiedInputChange m on => exact ⟨_, rfl, piped_occupiedInputChange s m on⟩
  | doneInputRise m => exact ⟨_, rfl, piped_doneInputRise s m⟩
  | doneInputFall m => exact ⟨_, rfl, piped_doneInputFall s m⟩
  | _ => cases pin

theorem isBay_of_isPin {c : Instr} (h : c.isPin = true) : c.isBay = false := by
  cases c with
  | tinPresentRise | tinPresentFall | outfeedSensorChange | occupiedInputChange | doneInputRise | doneInputFall => rfl
  | _ => cases h

/-- A command that does not act on the bay leaves it, and the setup. -/
theorem exec_outside {c : Instr} (s : State) (bay : c.isBay = false) : ∃ t, exec c s = .next t ∧ Piped s t := by
  cases pin : c.isPin with
  | true => exact exec_piped s pin
  | false =>
    obtain ⟨t, ht, framed⟩ := exec_framed s bay pin
    exact ⟨t, ht, framed.piped⟩

end Sys2Proof.Machine

namespace Sys2Proof

open Machine

/-- Settles O3, by whether the command acts on the bay and whether it changes a plant input. -/
theorem commandsLeaveWhatIsNotTheirs : Obligations.CommandsLeaveWhatIsNotTheirs := by
  refine ⟨fun c s t reset setup he => ?_, fun c s t pin he => ?_, fun c s t bay he => ?_⟩
  · cases bay : c.isBay with
    | true =>
      obtain ⟨u, hu, kept⟩ := exec_bay s bay reset setup
      rw [hu] at he
      cases he
      exact kept.setup
    | false =>
      obtain ⟨u, hu, p, -, -, framed⟩ := exec_outside s bay
      rw [hu] at he
      cases he
      exact framed.setup
  · cases bay : c.isBay with
    | false =>
      obtain ⟨u, hu, framed⟩ := exec_framed s bay pin
      rw [hu] at he
      cases he
      exact framed.pins
    | true =>
      by_cases reset : c = .hardwareReset
      · subst reset
        cases he
        rfl
      by_cases setup : ∃ b, c = .setup b
      · obtain ⟨b, rfl⟩ := setup
        cases he
        exact (setup_command s b).1
      · obtain ⟨u, hu, kept⟩ := exec_bay s bay reset fun b e => setup ⟨b, e⟩
        rw [hu] at he
        cases he
        exact kept.pins
  · obtain ⟨u, hu, p, -, -, framed⟩ := exec_outside s bay
    rw [hu] at he
    cases he
    exact ⟨framed.setup, framed.ssl, framed.bt, framed.htb⟩

end Sys2Proof
end

section
/-! The shape of the state (R26, R31, R87, R103, R123, R138, R161, R164) through every command. -/

namespace Sys2Proof.Machine

/-! ### The table -/

/-- R26, R31 (d): sixteen roster records and sixteen results held. -/
structure Table.Sized (t : Table) : Prop where
  roster : t.roster.length = 16
  results : t.joinResults.length = 16

theorem Table.sized_empty : Table.empty.Sized := ⟨rfl, rfl⟩

theorem Table.sized_joiner (digest lines : Nat) : (Table.joiner digest lines).Sized := ⟨rfl, rfl⟩

section
variable {t : Table} (h : t.Sized)
include h

theorem Table.Sized.setRoster (q : Nat) (r : RosterRec) : (t.setRoster q r).Sized := ⟨List.length_set.trans h.roster, h.results⟩

theorem Table.Sized.strip (S : Nat) : (t.strip S).Sized := ⟨List.length_set.trans h.roster, h.results⟩

theorem Table.Sized.counted : t.counted.Sized := ⟨h.roster, h.results⟩

theorem Table.Sized.built (bay : BayConst) : (t.built bay).Sized := ⟨h.roster, h.results⟩

theorem Table.Sized.of_eq {u : Table} (roster : u.roster = t.roster) (results : u.joinResults = t.joinResults) : u.Sized :=
  ⟨by rw [roster, h.roster], by rw [results, h.results]⟩

theorem Table.Sized.regrant (reserve : Nat) (before : Table) : (Table.regrant reserve before t).1.Sized :=
  h.of_eq (regrant_roster _ _ _) (regrant_joinResults _ _ _)

theorem Table.Sized.purge (reserve S : Nat) : (t.purge reserve S).1.Sized := (h.strip S).regrant reserve t

theorem Table.Sized.formationJoin (sender digest : Nat) : (t.formationJoin sender digest).Sized := by
  rw [Table.formationJoin_eq]
  exact ⟨(h.setRoster _ _).roster, h.results⟩

theorem Table.Sized.lateJoin (reserve sender digest : Nat) (silent : Option Nat) :
    (t.lateJoin reserve sender digest silent).table.Sized := by
  refine ⟨?_, ?_⟩
  · rw [lateJoin_table, regrant_roster]
    exact List.length_set.trans ((lateStripped_roster_length t sender silent).trans h.roster)
  · rw [lateJoin_joinResults]
    exact List.length_set.trans h.results

theorem Table.Sized.silentReport (reserve sender giver : Nat) : (t.silentReport reserve sender giver).table.Sized :=
  ((h.strip giver).setRoster _ _).regrant reserve t

theorem Table.Sized.markImageFrom (sender joiner : Nat) : (t.markImageFrom sender joiner).Sized := by
  unfold Table.markImageFrom Table.markImage
  repeat' split
  · exact h.setRoster _ _
  all_goals exact h

theorem Table.Sized.imageEnd (joiner : Nat) (accepted : Bool) : (t.imageEnd joiner accepted).Sized := by
  unfold Table.imageEnd
  split
  · exact h.setRoster _ _
  · exact h

theorem Table.Sized.imageEndFrom (sender joiner result : Nat) : (t.imageEndFrom sender joiner result).Sized := by
  have marked : (t.markImage joiner).Sized := by
    unfold Table.markImage
    split
    · exact h.setRoster _ _
    · exact h
  unfold Table.imageEndFrom
  repeat' split
  · exact marked.imageEnd _ _
  · exact marked
  · exact h

/-- R33 (a): an IMAGE of the roster carries sixteen records. -/
theorem Table.Sized.applyImage {img : Image} (wellFormed : img.wellFormed = true) : (t.applyImage img).Sized := by
  cases img with
  | rosterTokens roster a b =>
    simp only [Image.wellFormed, Bool.and_eq_true, beq_iff_eq] at wellFormed
    exact ⟨wellFormed.1.1.1, h.results⟩
  | mixers recs waiting => exact ⟨h.roster, h.results⟩
  | line n r => exact ⟨h.roster, h.results⟩

end

/-- A take of a line, a token or the pool leaves the results held as they stand. -/
theorem takeOther_joinResults (reserve mixers me : Nat) (t : Table) (sender : Nat) (n : Notice) :
    (t.takeOther reserve mixers me sender n).1.joinResults = t.joinResults := by
  have purged : ∀ S, (t.purge reserve S).1.joinResults = t.joinResults := fun S => regrant_joinResults reserve t (t.strip S)
  unfold Table.takeOther
  cases n <;> simp only
  case leave => unfold Table.leave; split; exacts [purged _, rfl]
  case revoke => unfold Table.revoke; repeat' split
                 exacts [rfl, purged _, rfl]
  case claim => unfold Table.claim; simp only; repeat' split
                all_goals rfl
  case withdraw => unfold Table.withdraw; simp only; repeat' split
                   all_goals rfl
  case release => unfold Table.release; simp only; repeat' split
                  all_goals rfl
  case refill => unfold Table.refill; repeat' split
                 all_goals rfl
  case lineOut => unfold Table.lineOut; repeat' split
                  all_goals rfl
  case lineReturn => unfold Table.lineReturn; repeat' split
                     all_goals rfl
  case rushTake => unfold Table.rushTake; repeat' split
                   all_goals rfl
  case rushDrop => unfold Table.rushDrop; simp only; repeat' split
                   exacts [rfl, rfl, regrant_joinResults _ _ _, rfl]
  case mixClaim => unfold Table.mixClaim; simp only; repeat' split
                   all_goals rfl
  case mixWithdraw => unfold Table.mixWithdraw; simp only; repeat' split
                      all_goals rfl
  case mixRelease => unfold Table.mixRelease; simp only; repeat' split
                     all_goals rfl
  case mixerReturn => unfold Table.mixerReturn; repeat' split
                      all_goals rfl
  all_goals rfl

theorem Table.Sized.takeOther {t : Table} (h : t.Sized) (reserve mixers me sender : Nat) (n : Notice) :
    (t.takeOther reserve mixers me sender n).1.Sized := by
  refine ⟨?_, by rw [takeOther_joinResults, h.results]⟩
  by_cases leave : n = .leave
  · subst leave
    unfold Table.takeOther Table.leave
    simp only
    split
    · exact (h.purge _ _).roster
    · exact h.roster
  by_cases revoke : noticeKind n = 18
  · cases n <;> simp only [noticeKind, Nat.reduceEqDiff] at revoke
    unfold Table.takeOther Table.revoke
    simp only
    repeat' split
    · exact h.roster
    · exact (h.purge _ _).roster
    · exact h.roster
  · rw [takeOther_roster _ _ _ _ _ _ leave revoke, h.roster]

/-! ### The station -/

/-- How many records of each kind the station keeps. -/
structure State.Shaped (s : State) : Prop where
  table : s.bt.Sized
  timers : s.htb.length = 20
  counts : s.counts = (4, 4, 8, 4, 4)
  occupied : s.pins.occupied.length = 4
  doneInput : s.pins.doneInput.length = 4

theorem State.shaped_iff (s : State) : s.shaped = true ↔ s.Shaped := by
  simp only [State.shaped, Bool.and_eq_true, beq_iff_eq]
  constructor
  · rintro ⟨⟨⟨⟨⟨⟨⟨⟨⟨roster, results⟩, timers⟩, dcs⟩, mps⟩, slots⟩, mixers⟩, runs⟩, occupied⟩, doneInput⟩
    exact ⟨⟨roster, results⟩, timers, by rw [State.counts, dcs, mps, slots, mixers, runs], occupied, doneInput⟩
  · rintro ⟨⟨roster, results⟩, timers, counts, occupied, doneInput⟩
    simp only [State.counts, Prod.mk.injEq] at counts
    obtain ⟨dcs, mps, slots, mixers, runs⟩ := counts
    exact ⟨⟨⟨⟨⟨⟨⟨⟨⟨roster, results⟩, timers⟩, dcs⟩, mps⟩, slots⟩, mixers⟩, runs⟩, occupied⟩, doneInput⟩

section
variable {s : State} (h : s.Shaped)
include h

theorem State.Shaped.framed {t : State} (g : Framed s t) : t.Shaped :=
  ⟨g.bt ▸ h.table, g.htb ▸ h.timers, g.counts.trans h.counts, g.pins ▸ h.occupied, g.pins ▸ h.doneInput⟩

theorem State.Shaped.of {t : State} (bay : SameBay s t) (counts : t.counts = s.counts) : t.Shaped := h.framed (.of bay counts)

theorem State.Shaped.piped {t : State} (g : Piped s t) : t.Shaped := by
  obtain ⟨p, occupied, doneInput, framed⟩ := g
  have with' : (s.withPins p).Shaped := ⟨h.table, h.timers, h.counts, occupied.trans h.occupied, doneInput.trans h.doneInput⟩
  exact with'.framed framed

theorem State.Shaped.settle : s.settle.Shaped := h.framed (framed_settle s)

theorem State.Shaped.withTable {t : Table} (sized : t.Sized) : ({ s with bt := t } : State).Shaped :=
  ⟨sized, h.timers, h.counts, h.occupied, h.doneInput⟩

theorem State.Shaped.modSsl (f) : (s.modSsl f).Shaped := ⟨h.table, h.timers, h.counts, h.occupied, h.doneInput⟩
theorem State.Shaped.modBlu (f) : (s.modBlu f).Shaped := ⟨h.table, h.timers, h.counts, h.occupied, h.doneInput⟩
theorem State.Shaped.modTlu (f) : (s.modTlu f).Shaped := ⟨h.table, h.timers, h.counts, h.occupied, h.doneInput⟩
theorem State.Shaped.strike (p) : (s.strike p).Shaped := ⟨h.table, h.timers, h.counts, h.occupied, h.doneInput⟩
theorem State.Shaped.offer (n o) : (s.offer n o).Shaped := ⟨h.table, h.timers, h.counts, h.occupied, h.doneInput⟩

theorem State.Shaped.modTimer (i f) : (s.modTimer i f).Shaped :=
  ⟨h.table, (List.length_modify _ _ _).trans h.timers, h.counts, h.occupied, h.doneInput⟩

theorem State.Shaped.stopTimers : s.stopTimers.Shaped :=
  ⟨h.table, (List.length_map _).trans h.timers, h.counts, h.occupied, h.doneInput⟩

theorem State.Shaped.enter (st) : (s.enter st).Shaped := by
  unfold State.enter
  split
  · exact h
  · exact ⟨h.table, h.timers, h.counts, h.occupied, h.doneInput⟩

theorem State.Shaped.startTimer (key holder grant limit) : (s.startTimer key holder grant limit).Shaped := h.modTimer _ _

theorem State.Shaped.endHolding (key holder grant) : (s.endHolding key holder grant).Shaped := (h.modTimer _ _).strike _

theorem State.Shaped.onlyTimers {t : State} (g : OnlyTimers s t) : t.Shaped := by
  rw [g.rest]
  exact ⟨h.table, g.length.trans h.timers, h.counts, h.occupied, h.doneInput⟩

theorem State.Shaped.foldl {α : Type} {f : State → α → State} (step : ∀ (u : State) (a : α), u.Shaped → (f u a).Shaped)
    (l : List α) : (l.foldl f s).Shaped := by
  induction l generalizing s with
  | nil => exact h
  | cons a l ih => exact ih (step s a h)

/-! ### Effects and cursor -/

theorem State.Shaped.applyEffect (e : Effect) : (s.applyEffect e).Shaped := by
  unfold State.applyEffect
  cases e with
  | lineEnded line holder => exact h.endHolding _ _ _
  | mixerEnded m st g => exact h.endHolding _ _ _
  | lineGranted line holder =>
    simp only [State.lineGranted]
    have started := h.startTimer (.line line) holder.station holder.grant (s.lineLimit line)
    repeat' split
    · exact started.of (sameBay_grantTell _ _ _) (counts_grantTell _ _ _)
    · exact started.offer _ _
    · exact started
  | mixerGranted m st g mt =>
    simp only
    have started := h.startTimer (.mixer m) st g (s.mixerLimit mt)
    split
    · exact started.of (sameBay_mixerGranted _ _ _ _) (counts_mixerGranted _ _ _ _)
    · exact started
  | tellLine line t =>
    simp only
    split
    · exact h.of (sameBay_lineTell s _ _) (counts_lineTell s _ _)
    · exact h
  | tellBook t => exact h.of (sameBay_bookTell s t) (counts_bookTell s t)

theorem State.Shaped.applyEffects (es : List Effect) : (s.applyEffects es).Shaped :=
  h.foldl (fun _ e hu => hu.applyEffect e) es

theorem State.Shaped.setJoiners (js) : (s.setJoiners js).Shaped := ⟨h.table, h.timers, h.counts, h.occupied, h.doneInput⟩

theorem State.Shaped.cursorOffer (x) : (s.cursorOffer x).Shaped := by
  unfold State.cursorOffer
  split
  · exact h
  · exact ⟨h.table, h.timers, h.counts, h.occupied, h.doneInput⟩

theorem State.Shaped.cursorBegin : s.cursorBegin.Shaped := by
  unfold State.cursorBegin
  split
  · exact ⟨h.table, h.timers, h.counts, h.occupied, h.doneInput⟩
  · exact h.cursorOffer _

theorem State.Shaped.cursorDrop (st) : (s.cursorDrop st).Shaped := by
  unfold State.cursorDrop
  simp only
  split
  · exact ((h.strike _).setJoiners _).cursorBegin
  · exact h.setJoiners _

theorem State.Shaped.cursorAdd (st a) : (s.cursorAdd st a).Shaped := by
  unfold State.cursorAdd
  simp only
  repeat' split
  · exact ((h.setJoiners _).strike _).cursorBegin
  · exact h.setJoiners _
  · exact (h.setJoiners _).cursorBegin
  · exact h.setJoiners _

theorem State.Shaped.cursorPrune : s.cursorPrune.Shaped := by
  refine h.foldl (fun u j hu => ?_) _
  split
  · exact hu.cursorDrop _
  · exact hu

theorem State.Shaped.cursorAdvance : s.cursorAdvance.Shaped := by
  unfold State.cursorAdvance
  split
  · exact h.cursorOffer _
  · exact h

theorem State.Shaped.giveImage (j g a) : (s.giveImage j g a).Shaped := by
  unfold State.giveImage
  split
  · exact h.cursorAdd _ _
  · exact h.cursorDrop _

/-! ### The station state logic -/

theorem State.Shaped.leaveBay (listen) : (s.leaveBay listen).Shaped := by
  rw [leaveBay_eq]
  have cleared : (s.bayCleared listen).Shaped :=
    ⟨Table.sized_empty, h.stopTimers.timers, h.counts, h.occupied, h.doneInput⟩
  exact (cleared.of (sameBay_leaveBook _) (counts_leaveBook _)).foldl
    (fun u k hu => hu.of (sameBay_leaveChannel u k) (counts_leaveChannel u k)) _

theorem State.Shaped.detach (r) : (s.detach r).Shaped := ((h.leaveBay _).modSsl _).enter _

theorem State.Shaped.ownLeave : s.ownLeave.Shaped := ((h.leaveBay _).modSsl _).enter _

theorem State.Shaped.refuse : s.refuse.Shaped := by
  have cleared : State.Shaped { s with bt := Table.empty, blu := s.blu.cleared .following } :=
    ⟨Table.sized_empty, h.timers, h.counts, h.occupied, h.doneInput⟩
  exact (cleared.stopTimers.modSsl _).enter _

theorem State.Shaped.setLateMark : s.setLateMark.Shaped := ((h.withTable Table.sized_empty).modSsl _).strike _

theorem State.Shaped.lateJoinSelf : s.lateJoinSelf.Shaped := ((h.withTable (Table.sized_joiner _ _)).modSsl _).enter _

theorem State.Shaped.imageHere (sender) {img : Image} (wellFormed : img.wellFormed = true) : (s.imageHere sender img).Shaped := by
  have fitted : ∀ i : Image, i.wellFormed = true ∨ (∃ recs waiting, i = .mixers recs waiting) → (s.bt.applyImage i).Sized := by
    rintro i (wf | ⟨recs, waiting, rfl⟩)
    · exact h.table.applyImage wf
    · exact ⟨h.table.roster, h.table.results⟩
  refine State.Shaped.strike (State.Shaped.modSsl (h.withTable (fitted _ ?_)) _) _
  split
  · exact .inr ⟨_, _, rfl⟩
  · exact .inl wellFormed

theorem State.Shaped.restartImageTimer (joiner) : (s.restartImageTimer joiner).Shaped := by
  unfold State.restartImageTimer
  split
  · exact h
  · exact h.modSsl _

theorem State.Shaped.accepted (count) : (s.accepted count).Shaped := by
  have ended := h.table.imageEnd s.me true
  have placed := h.withTable (t := { s.bt.imageEnd s.me true with bayCount := some ((count + 1) % 65536) })
    ⟨ended.roster, ended.results⟩
  exact (((placed.modSsl _).strike _).enter _).onlyTimers (onlyTimers_watchAll _)

/-! ### The takes -/

theorem State.Shaped.bookTake (sender n) : (s.bookTake sender n).Shaped :=
  have kept := keepsTable_bookTake s sender n
  ⟨kept.bt ▸ h.table, bookTake_htb s sender n ▸ h.timers, (counts_bookTake s sender n).trans h.counts, kept.pins ▸ h.occupied,
    kept.pins ▸ h.doneInput⟩

theorem State.Shaped.formedForming : s.formedForming.Shaped := by
  have closed : s.windowClosed.Shaped := (h.modSsl _).strike _
  unfold State.formedForming
  simp only
  repeat' split
  · exact closed
  · exact closed.withTable closed.table.counted
  · exact (closed.withTable (h.table.built _)).enter _
  · exact (closed.withTable (h.table.built _)).refuse
  · exact closed.setLateMark
  · exact closed.withTable ⟨h.table.roster, h.table.results⟩

theorem State.Shaped.joinForming (sender digest own) : (s.joinForming sender digest own).Shaped := by
  unfold State.joinForming
  repeat' split
  · exact h.lateJoinSelf
  · exact h
  · exact h.withTable h.table.counted
  · exact (h.withTable (h.table.formationJoin _ _)).modSsl _

theorem State.Shaped.takeForming (sender) {n : Notice} (wellFormed : ∀ j img, n = .image j img → img.wellFormed = true) :
    (s.takeForming sender n).Shaped := by
  unfold State.takeForming State.otherForming
  repeat' split
  · exact h.joinForming _ _ _
  · exact h.formedForming
  · next joiner img _ _ _ =>
    exact (((h.modSsl _).strike _).lateJoinSelf).imageHere _ (wellFormed _ _ rfl)
  · exact h
  · exact h.refuse
  · exact h
  · exact h
  · exact h.setLateMark

theorem State.Shaped.imageEndJoining (sender joiner result count) : (s.imageEndJoining sender joiner result count).Shaped := by
  have ended := (h.withTable (h.table.imageEndFrom sender joiner result)).restartImageTimer joiner
  unfold State.imageEndJoining
  repeat' split
  · exact h.restartImageTimer _
  · exact h.accepted _
  · exact h.refuse
  · exact ended
  · exact ended

theorem State.Shaped.imageJoining (sender joiner) {img : Image} (wellFormed : img.wellFormed = true) :
    (s.imageJoining sender joiner img).Shaped := by
  unfold State.imageJoining
  repeat' split
  · exact h.restartImageTimer _
  · exact h.imageHere _ wellFormed
  · exact (h.withTable (h.table.markImageFrom _ _)).restartImageTimer _

theorem State.Shaped.takeJoining (sender) {n : Notice} (wellFormed : ∀ j img, n = .image j img → img.wellFormed = true) :
    (s.takeJoining sender n).Shaped := by
  unfold State.takeJoining
  repeat' split
  · exact h.lateJoinSelf
  · exact h.withTable (h.table.lateJoin _ _ _ _)
  · exact h
  · exact h.withTable (h.table.silentReport _ _ _)
  · exact h
  · exact h
  · exact h.imageJoining _ _ (wellFormed _ _ rfl)
  · exact h
  · exact h.imageEndJoining _ _ _ _
  · exact h
  · exact h.withTable (h.table.takeOther _ _ _ _ _)
  · exact h

theorem State.Shaped.takeEffects {t : Table} (es) {cursor : State → State} (sized : t.Sized)
    (step : ∀ u : State, u.Shaped → (cursor u).Shaped) : (s.takeEffects t es cursor).Shaped :=
  (step _ ((h.withTable sized).applyEffects _).cursorPrune).applyEffects _

theorem State.Shaped.applyTake (sender n) : (s.applyTake sender n).Shaped := by
  have table := h.table
  unfold State.applyTake
  split
  · exact h.takeEffects _ (table.lateJoin _ _ _ _) fun u hu => hu.giveImage _ _ _
  · unfold State.formedAttached
    split
    · exact h.takeEffects _ table fun u hu => hu
    · exact h.takeEffects _ (table.silentReport _ _ _) fun u hu => hu.giveImage _ _ _
  · refine h.takeEffects _ (table.markImageFrom _ _) fun u hu => ?_
    split
    · exact hu.cursorAdvance
    · exact hu
  · refine h.takeEffects _ (table.imageEndFrom _ _ _) fun u hu => ?_
    split
    · exact hu.cursorDrop _
    · exact hu
  · exact h.takeEffects _ (table.takeOther _ _ _ _ _) fun u hu => hu

theorem State.Shaped.takeAttached (sender n) : (s.takeAttached sender n).Shaped := by
  have counted := (h.applyTake sender n).withTable (h.applyTake sender n).table.counted
  unfold State.takeAttached
  repeat' split
  · exact h.detach _
  · exact h.ownLeave
  · exact (h.leaveBay _).lateJoinSelf
  · unfold State.afterTake
    simp only
    split
    · exact counted
    · exact counted.detach _

theorem State.Shaped.take (sender) {n : Notice} (wellFormed : ∀ j img, n = .image j img → img.wellFormed = true) :
    (s.take sender n).Shaped := by
  have booked := h.bookTake sender n
  unfold State.take State.deliver
  split
  · refine State.Shaped.settle ?_
    split
    · exact booked.takeForming _ wellFormed
    · exact booked.takeJoining _ wellFormed
    · exact booked.takeAttached _ _
    all_goals exact booked
  · exact h

/-! ### The other commands that act on the bay -/

theorem State.Shaped.void (heard) : (s.void heard).Shaped := by
  have back : ∀ refill, (s.backToWaiting refill).Shaped := fun refill =>
    h.of (sameBay_backToWaiting s refill) (counts_backToWaiting s refill)
  have own : s.ownVoid.Shaped := by
    unfold State.ownVoid
    simp only
    split
    · exact ((back _).modBlu _).detach _
    · exact (back _).modBlu _
  have other : (s.otherVoid heard).Shaped := by
    unfold State.otherVoid
    simp only
    repeat' split
    · exact ((back _).modBlu _).detach _
    · exact (back _).modBlu _
    · exact back _
  unfold State.void
  split
  · refine State.Shaped.settle ?_
    split
    · exact own
    · exact other
  · exact h

theorem State.Shaped.firstListenExpiry : s.firstListenExpiry.Shaped := by
  unfold State.firstListenExpiry
  split
  · exact (h.modSsl _).offer _ _
  · exact h

theorem State.Shaped.formationWindowExpiry : s.formationWindowExpiry.Shaped := by
  unfold State.formationWindowExpiry
  simp only
  repeat' split
  · exact (h.modSsl _).offer _ _
  · exact h.modSsl _
  · exact h

theorem State.Shaped.imageTimerExpiry : s.imageTimerExpiry.Shaped := by
  unfold State.imageTimerExpiry
  repeat' split
  · exact (((h.withTable Table.sized_empty).strike _).modSsl _).enter _
  · exact (h.modSsl _).offer _ _
  · exact h

theorem State.Shaped.rejoinTimerExpiry : s.rejoinTimerExpiry.Shaped := by
  unfold State.rejoinTimerExpiry
  repeat' split
  · exact ((h.modSsl _).modBlu _).enter _
  · exact ((h.modSsl _).enter _).offer _ _
  · exact h

theorem State.Shaped.ownLineTimerExpiry (line) : (s.ownLineTimerExpiry line).Shaped := by
  have expired : (s.expireTimer (.line line)).Shaped := h.modTimer _ _
  unfold State.ownLineTimerExpiry
  repeat' split
  · exact (expired.of (sameBay_ownLimit _ _) (counts_ownLimit _ _)).settle
  · exact expired
  · exact h

theorem State.Shaped.ownMixerTimerExpiry (m) : (s.ownMixerTimerExpiry m).Shaped := by
  have expired : (s.expireTimer (.mixer m)).Shaped := h.modTimer _ _
  have dropped : ∀ (u : State) slot, (u.dropRunOf slot m).counts = u.counts := fun u slot => by
    unfold State.dropRunOf
    split
    · exact counts_dropRun u m
    · rfl
  unfold State.ownMixerTimerExpiry
  repeat' split
  · exact ((expired.of (sameBay_dropRunOf _ _ m) (dropped _ _)).of (sameBay_endMix _ _ _ _ _ _) (counts_endMix _ _ _ _ _ _)).settle
  · exact expired
  · exact h

theorem State.Shaped.watchTimerExpiry (key) : (s.watchTimerExpiry key).Shaped := by
  have expired : (s.expireTimer key).Shaped := h.modTimer _ _
  unfold State.watchTimerExpiry
  simp only
  repeat' split
  · exact expired.offer _ _
  · exact expired
  · exact h

theorem State.Shaped.command (kind : Nat) {act : State → Answer} (acted : (act s).state.Shaped) : (s.command kind act).Shaped := by
  unfold State.command
  split
  · exact h.modTlu _
  · exact acted.modTlu _

theorem State.Shaped.setupAnswer (block) : (s.setupAnswer block).state.Shaped := by
  have accepted : (s.acceptSetup block).Shaped := by
    refine State.Shaped.enter ?_ _
    exact ⟨h.table, h.timers, h.counts, h.occupied, h.doneInput⟩
  unfold State.setupAnswer
  repeat' split
  · exact h
  · exact accepted
  all_goals exact h

theorem State.Shaped.startAnswer : s.startAnswer.state.Shaped := by
  have emptied : State.Shaped { s with bt := Table.empty, blu := { s.blu with listen := .firstWait } } :=
    ⟨Table.sized_empty, h.timers, h.counts, h.occupied, h.doneInput⟩
  unfold State.startAnswer
  split
  · exact (emptied.modSsl _).enter _
  · exact h

theorem State.Shaped.leaveAnswer : s.leaveAnswer.state.Shaped := by
  unfold State.leaveAnswer State.queueTerminal
  repeat' split
  · exact ⟨h.table, h.timers, h.counts, h.occupied, h.doneInput⟩
  all_goals exact h

theorem State.Shaped.reset : State.Shaped { State.reset with pins := s.pins, pending := s.pending } :=
  ⟨Table.sized_empty, rfl, rfl, h.occupied, h.doneInput⟩

end

/-! ### Every command -/

/-- A command that acts on the bay keeps the shape. -/
theorem exec_bay_shaped {c : Instr} {s : State} (h : s.Shaped) (bay : c.isBay = true) (wellFormed : c.wellFormed = true) :
    ∃ t, exec c s = .next t ∧ t.Shaped := by
  cases c with
  | hardwareReset => exact ⟨_, rfl, h.reset⟩
  | setup b => exact ⟨_, rfl, h.command 1 (h.setupAnswer b)⟩
  | start => exact ⟨_, rfl, h.command 2 h.startAnswer⟩
  | leave => exact ⟨_, rfl, h.command 3 h.leaveAnswer⟩
  | void heard => exact ⟨_, rfl, h.void heard⟩
  | imageTaken sender joiner img =>
    simp only [Instr.wellFormed, Notice.wellFormed, Bool.and_eq_true] at wellFormed
    refine ⟨_, rfl, h.take _ ?_⟩
    rintro j i ⟨⟩
    exact wellFormed.2.2
  | joinTaken | formedTaken | imageEndTaken | leaveTaken | claimTaken | withdrawTaken | releaseTaken | refillTaken
  | lineOutTaken | lineReturnTaken | rushTakeTaken | rushDropTaken | mixClaimTaken | mixWithdrawTaken | mixReleaseTaken
  | mixerReturnTaken | revokeTaken => exact ⟨_, rfl, h.take _ nofun⟩
  | firstListenExpiry => exact ⟨_, rfl, h.firstListenExpiry⟩
  | formationWindowExpiry => exact ⟨_, rfl, h.formationWindowExpiry⟩
  | imageTimerExpiry => exact ⟨_, rfl, h.imageTimerExpiry⟩
  | rejoinTimerExpiry => exact ⟨_, rfl, h.rejoinTimerExpiry⟩
  | ownLineTimerExpiry line => exact ⟨_, rfl, h.ownLineTimerExpiry line⟩
  | ownMixerTimerExpiry m => exact ⟨_, rfl, h.ownMixerTimerExpiry m⟩
  | watchTimerExpiry key => exact ⟨_, rfl, h.watchTimerExpiry key⟩
  | _ => cases bay

theorem exec_shaped {c : Instr} {s : State} (h : s.Shaped) (wellFormed : c.wellFormed = true) :
    ∃ t, exec c s = .next t ∧ t.Shaped := by
  cases bay : c.isBay with
  | true => exact exec_bay_shaped h bay wellFormed
  | false =>
    obtain ⟨t, ht, piped⟩ := exec_outside s bay
    exact ⟨t, ht, h.piped piped⟩

/-- No command touches the queue. -/
theorem exec_pending (c : Instr) (s : State) : ∃ t, exec c s = .next t ∧ t.pending = s.pending := by
  cases bay : c.isBay with
  | false =>
    obtain ⟨t, ht, p, -, -, framed⟩ := exec_outside s bay
    exact ⟨t, ht, framed.pending⟩
  | true =>
    by_cases reset : c = .hardwareReset
    · subst reset
      exact ⟨_, rfl, rfl⟩
    by_cases setup : ∃ b, c = .setup b
    · obtain ⟨b, rfl⟩ := setup
      exact ⟨_, rfl, (setup_command s b).2⟩
    · obtain ⟨t, ht, kept⟩ := exec_bay s bay reset fun b e => setup ⟨b, e⟩
      exact ⟨t, ht, kept.pending⟩

end Sys2Proof.Machine

namespace Sys2Proof

open Machine

/-- Settles O57, by the command at the front of the queue; the queue keeps its rest. -/
theorem shapeKept : Obligations.ShapeKept := by
  intro s t shaped queue stepped
  rw [State.shaped_iff] at shaped ⊢
  unfold step at stepped
  split at stepped
  · cases stepped
    exact ⟨shaped, queue⟩
  · next c rest pending =>
    have front : State.Shaped { s with pending := rest } :=
      ⟨shaped.table, shaped.timers, shaped.counts, shaped.occupied, shaped.doneInput⟩
    rw [State.queueWellFormed, pending, List.all_cons, Bool.and_eq_true] at queue
    obtain ⟨wellFormed, rest'⟩ := queue
    obtain ⟨u, hu, kept⟩ := exec_shaped front wellFormed
    obtain ⟨v, hv, stands⟩ := exec_pending c { s with pending := rest }
    rw [stepped] at hu hv
    cases hu
    cases hv
    exact ⟨kept, by rw [State.queueWellFormed, stands]; exact rest'⟩

end Sys2Proof
end

section
/-! Grant choice on a line (R48 to R54): the place of the best claim, and the one grant that it makes or does not make. -/

namespace Sys2Proof.Machine

/-! ### The place of the best claim (R51, R77 (a)) -/

/-- The first eligible place whose rush and effective level meet a condition. -/
def firstPlace (p : Rush × Nat → Bool) (ranks : List (Option (Rush × Nat))) : Option Nat := ranks.findIdx? fun r => r.any p

/-- The highest effective level of the eligible places. -/
def topLevel (ranks : List (Option (Rush × Nat))) : Nat := ranks.foldl (fun m r => max m ((r.map fun x => x.2).getD 0)) 0

section
variable {ranks : List (Option (Rush × Nat))}

theorem bestPlace_eq (ranks : List (Option (Rush × Nat))) : bestPlace ranks =
    ((firstPlace (fun x => x.1 == Rush.a) ranks).or (firstPlace (fun x => x.1 == Rush.b) ranks)).or
      (firstPlace (fun x => x.2 == topLevel ranks) ranks) := by
  unfold bestPlace
  change (match firstPlace (fun x => x.1 == Rush.a) ranks with
    | some i => some i
    | none => match firstPlace (fun x => x.1 == Rush.b) ranks with
      | some i => some i
      | none => firstPlace (fun x => x.2 == topLevel ranks) ranks) = _
  cases firstPlace (fun x => x.1 == Rush.a) ranks with
  | some i => rfl
  | none => cases firstPlace (fun x => x.1 == Rush.b) ranks <;> rfl

theorem firstPlace_some {p : Rush × Nat → Bool} {i : Nat} (h : firstPlace p ranks = some i) :
    ∃ x, ranks[i]? = some (some x) ∧ p x = true ∧ ∀ j y, ranks[j]? = some (some y) → p y = true → i ≤ j := by
  obtain ⟨lt, here, before⟩ := List.findIdx?_eq_some_iff_getElem.1 h
  obtain ⟨x, hx, px⟩ := (Option.any_eq_true _ _).1 here
  refine ⟨x, by rw [List.getElem?_eq_getElem lt, hx], px, fun j y hy py => Nat.le_of_not_lt fun earlier => ?_⟩
  obtain ⟨_, at_j⟩ := List.getElem?_eq_some_iff.1 hy
  exact before j earlier (by rw [at_j]; exact py)

theorem firstPlace_none_iff {p : Rush × Nat → Bool} : firstPlace p ranks = none ↔ ∀ x, some x ∈ ranks → p x = false := by
  rw [firstPlace, List.findIdx?_eq_none_iff]
  refine ⟨fun h x hx => h _ hx, fun h r hr => ?_⟩
  cases r with
  | none => rfl
  | some x => exact h x hr

/-- A running maximum of effective levels is at least each of them, and is its start or one of them. -/
theorem foldl_max_spec (ranks : List (Option (Rush × Nat))) (m : Nat) :
    let top := ranks.foldl (fun m r => max m ((r.map fun x => x.2).getD 0)) m
    m ≤ top ∧ (∀ x, some x ∈ ranks → x.2 ≤ top) ∧ (top = m ∨ ∃ x, some x ∈ ranks ∧ x.2 = top) := by
  induction ranks generalizing m with
  | nil => simp
  | cons r rs ih =>
    obtain ⟨start, bound, attained⟩ := ih (max m ((r.map fun x => x.2).getD 0))
    refine ⟨(Nat.le_max_left _ _).trans start, fun x hx => ?_, ?_⟩
    · rcases List.mem_cons.1 hx with rfl | hx
      · exact (Nat.le_max_right _ _).trans start
      · exact bound x hx
    · rcases attained with top | ⟨x, hx, top⟩
      · rcases r with _ | x
        · exact .inl (by simpa using top)
        · rcases Nat.le_total m x.2 with le | le
          · exact .inr ⟨x, List.mem_cons_self, by simpa [le] using top.symm⟩
          · exact .inl (by simpa [le] using top)
      · exact .inr ⟨x, List.mem_cons_of_mem _ hx, top⟩

theorem le_topLevel {x : Rush × Nat} (h : some x ∈ ranks) : x.2 ≤ topLevel ranks := by
  obtain ⟨-, bound, -⟩ := foldl_max_spec ranks 0
  exact bound x h

theorem topLevel_attained {x : Rush × Nat} (h : some x ∈ ranks) : ∃ y, some y ∈ ranks ∧ y.2 = topLevel ranks := by
  obtain ⟨-, -, zero | attained⟩ := foldl_max_spec ranks 0
  · exact ⟨x, h, Nat.le_antisymm (le_topLevel h) (zero.trans_le (Nat.zero_le _))⟩
  · exact attained

/-- R51, R77 (a): rush A first, then rush B, then the earliest of the highest effective level. -/
theorem bestPlace_some {i : Nat} (h : bestPlace ranks = some i) : ∃ x, ranks[i]? = some (some x)
    ∧ (x.1 = .a ∨ ((∀ y, some y ∈ ranks → y.1 ≠ .a)
      ∧ (x.1 = .b ∨ ((∀ y, some y ∈ ranks → y.1 ≠ .b)
        ∧ ∀ j y, ranks[j]? = some (some y) → y.2 ≤ x.2 ∧ (y.2 = x.2 → i ≤ j))))) := by
  rw [bestPlace_eq, Option.or_eq_some_iff, Option.or_eq_some_iff, Option.or_eq_none_iff] at h
  rcases h with (rushA | ⟨noA, rushB⟩) | ⟨⟨noA, noB⟩, level⟩
  · obtain ⟨x, hx, ha, -⟩ := firstPlace_some rushA
    exact ⟨x, hx, .inl (beq_iff_eq.1 ha)⟩
  · obtain ⟨x, hx, hb, -⟩ := firstPlace_some rushB
    exact ⟨x, hx, .inr ⟨fun y hy => beq_eq_false_iff_ne.1 (firstPlace_none_iff.1 noA y hy), .inl (beq_iff_eq.1 hb)⟩⟩
  · obtain ⟨x, hx, top, first⟩ := firstPlace_some level
    rw [beq_iff_eq] at top
    refine ⟨x, hx, .inr ⟨fun y hy => beq_eq_false_iff_ne.1 (firstPlace_none_iff.1 noA y hy),
      .inr ⟨fun y hy => beq_eq_false_iff_ne.1 (firstPlace_none_iff.1 noB y hy), fun j y hy => ⟨?_, fun same => ?_⟩⟩⟩⟩
    · exact top ▸ le_topLevel (List.mem_of_getElem? hy)
    · exact first j y hy (beq_iff_eq.2 (same.trans top))

theorem bestPlace_none_iff : bestPlace ranks = none ↔ ∀ x, some x ∉ ranks := by
  rw [bestPlace_eq, Option.or_eq_none_iff, Option.or_eq_none_iff]
  constructor
  · rintro ⟨-, noLevel⟩ x hx
    obtain ⟨y, hy, top⟩ := topLevel_attained hx
    exact beq_eq_false_iff_ne.1 (firstPlace_none_iff.1 noLevel y hy) top
  · intro h
    have nowhere (p : Rush × Nat → Bool) : firstPlace p ranks = none := firstPlace_none_iff.2 fun x hx => absurd hx (h x)
    exact ⟨⟨nowhere _, nowhere _⟩, nowhere _⟩

end

/-! ### The best claim of a line (R50, R51) -/

section
variable {reserve : Nat} {r : LineRec}

/-- R50: the claims that are not eligible. -/
theorem eligible_iff (c : Claim) : eligible (lineLow reserve r) c.rush c.effective = true
    ↔ ¬ (r.level < reserve ∧ c.rush = .none ∧ c.effective = 0) := by
  rw [eligible, Bool.not_eq_true', ← Bool.not_eq_true]
  simp [lineLow, and_assoc]

/-- A claim's rush and effective level as grant choice ranks them. -/
def Claim.rank (reserve : Nat) (r : LineRec) (c : Claim) : Option (Rush × Nat) :=
  if eligible (lineLow reserve r) c.rush c.effective then some (c.rush, c.effective) else none

theorem best_eq (reserve : Nat) (r : LineRec) : LineRec.best reserve r = bestPlace (r.waiting.map (Claim.rank reserve r)) := rfl

theorem rank_eq_some_iff {c : Claim} {x : Rush × Nat} : Claim.rank reserve r c = some x
    ↔ ¬ (r.level < reserve ∧ c.rush = .none ∧ c.effective = 0) ∧ (c.rush, c.effective) = x := by
  rw [Claim.rank, Option.ite_none_right_eq_some, eligible_iff, Option.some.injEq]

theorem mem_ranks {c : Claim} (h : c ∈ r.waiting) (eligible : ¬ (r.level < reserve ∧ c.rush = .none ∧ c.effective = 0)) :
    some (c.rush, c.effective) ∈ r.waiting.map (Claim.rank reserve r) :=
  List.mem_map.2 ⟨c, h, rank_eq_some_iff.2 ⟨eligible, rfl⟩⟩

/-- R50: a claim that carries a rush is eligible, so where no eligible claim carries it none does. -/
theorem no_rush_of_ranks {t : Rush} (rush : t ≠ .none)
    (h : ∀ y, some y ∈ r.waiting.map (Claim.rank reserve r) → y.1 ≠ t) : ∀ x ∈ r.waiting, x.rush ≠ t :=
  fun _ hx carries => h _ (mem_ranks hx fun ⟨_, plain, _⟩ => rush (carries.symm.trans plain)) carries

/-- R50, R51: what the best claim is. -/
theorem best_some {i : Nat} (h : LineRec.best reserve r = some i) : ∃ c, r.waiting[i]? = some c
    ∧ ¬ (r.level < reserve ∧ c.rush = .none ∧ c.effective = 0)
    ∧ (c.rush = .a ∨ ((∀ x ∈ r.waiting, x.rush ≠ .a)
      ∧ (c.rush = .b ∨ ((∀ x ∈ r.waiting, x.rush ≠ .b)
        ∧ ∀ j x, r.waiting[j]? = some x → ¬ (r.level < reserve ∧ x.rush = .none ∧ x.effective = 0) →
            x.effective ≤ c.effective ∧ (x.effective = c.effective → i ≤ j))))) := by
  rw [best_eq] at h
  obtain ⟨x, hx, first⟩ := bestPlace_some h
  rw [List.getElem?_map, Option.map_eq_some_iff] at hx
  obtain ⟨c, hc, rank⟩ := hx
  obtain ⟨eligible, rfl⟩ := rank_eq_some_iff.1 rank
  refine ⟨c, hc, eligible, first.imp_right fun ⟨noA, second⟩ => ⟨no_rush_of_ranks nofun noA, second.imp_right fun ⟨noB, top⟩ =>
    ⟨no_rush_of_ranks nofun noB, fun j y hy eligible => top j (y.rush, y.effective) ?_⟩⟩⟩
  rw [List.getElem?_map, hy, Option.map_some, rank_eq_some_iff.2 ⟨eligible, rfl⟩]

/-- R52: there is no best claim exactly when no claim is eligible. -/
theorem best_none_iff : LineRec.best reserve r = none
    ↔ ∀ x ∈ r.waiting, r.level < reserve ∧ x.rush = .none ∧ x.effective = 0 := by
  rw [best_eq, bestPlace_none_iff]
  constructor
  · intro h x hx
    by_contra eligible
    exact h _ (mem_ranks hx eligible)
  · intro h y hy
    obtain ⟨c, hc, rank⟩ := List.mem_map.1 hy
    exact (rank_eq_some_iff.1 rank).1 (h c hc)

/-! ### Grant choice (R49, R52, R53) -/

theorem grantChoice_stands (h : r.service = .out ∨ r.holder ≠ none ∨ LineRec.best reserve r = none) :
    LineRec.grantChoice reserve r = r := by
  unfold LineRec.grantChoice
  split
  · next free =>
    have none := (h.resolve_left (by rw [free.1]; nofun)).resolve_left fun held => held free.2
    rw [none]
  · rfl

theorem grantChoice_best {i : Nat} {c : Claim} (service : r.service = .inService) (free : r.holder = none)
    (best : LineRec.best reserve r = some i) (hc : r.waiting[i]? = some c) :
    LineRec.grantChoice reserve r = if c.askedDrops ≤ r.level then LineRec.grantAt r i c else r := by
  unfold LineRec.grantChoice
  simp only [service, free, best, hc, and_self, if_true]

/-- R49: grant choice makes one grant, on a line that has no holder, or the record stands. -/
theorem grantChoice_holder (reserve : Nat) (r : LineRec) :
    LineRec.grantChoice reserve r = r ∨ (r.service = .inService ∧ ∃ h, (LineRec.grantChoice reserve r).holder = some h
      ∧ (LineRec.grantChoice reserve r).service = .inService) := by
  by_cases stands : r.service = .out ∨ r.holder ≠ none ∨ LineRec.best reserve r = none
  · exact .inl (grantChoice_stands stands)
  · push Not at stands
    obtain ⟨notOut, free, some_best⟩ := stands
    have service : r.service = .inService := by
      cases h : r.service with
      | inService => rfl
      | out => exact absurd h notOut
    obtain ⟨i, best⟩ := Option.ne_none_iff_exists'.1 some_best
    obtain ⟨c, hc, -⟩ := best_some best
    rw [grantChoice_best service free best hc]
    split
    · exact .inr ⟨service, _, rfl, service⟩
    · exact .inl rfl

end

end Sys2Proof.Machine

namespace Sys2Proof

open Machine

/-- Settles O16: the status case by case, and what grant choice leaves of a line with claims and no holder. -/
theorem lineStatusAndLow : Obligations.LineStatusAndLow := by
  intro reserve r
  have stalled : r.service = .inService → r.holder = none → r.waiting ≠ [] → lineStatus r = .stalled :=
    fun service free waits => by simp [lineStatus, service, free, waits]
  refine ⟨fun out => by simp [lineStatus, out], fun h service held => by simp [lineStatus, service, held],
    fun service free empty => by simp [lineStatus, service, free, empty], stalled, by simp [lineLow], by simp [lineLow],
    fun _ empty reserved => by simp [lineLow, empty, reserved], fun service free waits => ?_⟩
  rcases grantChoice_holder reserve r with stands | ⟨-, h, held, service'⟩
  · exact .inr ⟨stands, stalled service free waits⟩
  · exact .inl (by simp [lineStatus, held, service'])

/-- Settles O17: the best claim by `bestPlace`, and the grant by whether its asked drops are there. -/
theorem grantChoiceGrantsTheBestClaimOrStalls : Obligations.GrantChoiceGrantsTheBestClaimOrStalls := by
  refine ⟨fun reserve r => ⟨fun i => best_some, best_none_iff⟩, fun reserve r => ⟨fun i c service free best hc => ?_, grantChoice_stands⟩⟩
  rw [grantChoice_best service free best hc]
  exact ⟨fun enough => if_pos enough, fun short => if_neg (Nat.not_le_of_lt short)⟩

end Sys2Proof
end

section
/-! The takes on a line (R56 to R68): what each leaves of the table and brings about, said once for each rule of a notice. -/

namespace Sys2Proof.Machine

/-! ### A take on a line at a station that stands in the bay -/

section
variable {c : Instr} {s : State} {sender line : Nat} {n : Notice}

/-- R10, R14: what a station makes of a line notice of a member, given the table's rule for the notice. -/
theorem exec_lineTake {u : Table} {es : List Effect} (hc : c.taken = some (sender, n)) (named : n.lineNamed = some line)
    (member : s.member = true) (present : s.bt.isPresent sender = true)
    (rule : s.bt.takeOther s.bay.reserve s.bay.mixersEquipped s.me sender n = (u, es)) :
    exec c s = .next (s.takenBy sender n u es) := by
  obtain ⟨hears, att, here⟩ := s.member_iff.1 member
  have kind : 5 < noticeKind n ∧ noticeKind n ≠ 18 := by
    cases n <;> simp only [Notice.lineNamed, reduceCtorEq] at named <;> simp [noticeKind]
  have leave : n ≠ .leave := by rintro rfl; cases named
  have stays : u.isPresent s.me = true := by
    have roster := takeOther_roster s.bay.reserve s.bay.mixersEquipped s.me s.bt sender n leave kind.2
    rw [rule] at roster
    rwa [Table.isPresent, Table.rosterAt, roster]
  have taken := take_eq_takenBy s sender n hears att (Table.not_absent_of_isPresent present) kind.1.le (fun own => leave own.2)
    (by rwa [rule])
  rw [exec_of_taken c s sender n hc, taken, rule]

/-- A line notice's take leaves the table of its rule, counted, and everything outside it. -/
theorem exec_lineTake_table (hc : c.taken = some (sender, n)) (named : n.lineNamed = some line) (member : s.member = true)
    (present : s.bt.isPresent sender = true) : ∃ t, exec c s = .next t ∧ s.sameOutside t
      ∧ ∀ u es, s.bt.takeOther s.bay.reserve s.bay.mixersEquipped s.me sender n = (u, es) → t.bt = u.counted := by
  have whole := exec_lineTake hc named member present Prod.mk.eta.symm
  obtain ⟨setup, ssl, bt, pins, pending⟩ := takenWith_table s sender n _ _ id KeepsTable.refl
  exact ⟨_, whole, ⟨setup, ssl, pins, pending⟩, fun u es rule => bt.trans (by rw [rule])⟩

end

/-! ### Grants and tells -/

theorem tellIf_self (me line : Nat) (tell : LineTell) : tellIf me me line tell = [.tellLine line tell] := if_pos rfl

theorem tellIf_ne {me station : Nat} (h : station ≠ me) (line : Nat) (tell : LineTell) :
    tellIf me station line tell = [] := if_neg h

theorem bookIf_self (me : Nat) (tell : BookTell) : bookIf me me tell = [.tellBook tell] := if_pos rfl

theorem bookIf_ne {me station : Nat} (h : station ≠ me) (tell : BookTell) : bookIf me station tell = [] := if_neg h

theorem grantMade_of_grant {before after : LineRec} {h : Holder} (line : Nat) (free : before.holder = none)
    (held : after.holder = some h) : grantMade line before after = [.lineGranted line h] := by
  rw [grantMade, free, held]

theorem grantMade_of_none {before after : LineRec} (line : Nat) (h : before.holder ≠ none ∨ after.holder = none) :
    grantMade line before after = [] := by
  unfold grantMade
  split
  · next free held => exact absurd free (h.resolve_right (by rw [held]; nofun))
  · rfl

/-- R57, R68: whether the grant at a CLAIM's take is its sender's, who did not hold the line before. -/
theorem any_isGrantTo {before : LineRec} {sender : Nat} (reserve line : Nat)
    (other : ∀ h, before.holder = some h → h.station ≠ sender) :
    (grantMade line before (LineRec.grantChoice reserve before)).any (isGrantTo sender)
      = (LineRec.grantChoice reserve before).holder.any fun h => h.station == sender := by
  cases free : before.holder with
  | some h =>
    rw [grantChoice_stands (.inr (.inl (by rw [free]; nofun))), grantMade_of_none line (.inl (by rw [free]; nofun)), free]
    simpa using other h free
  | none =>
    cases held : (LineRec.grantChoice reserve before).holder with
    | none => rw [grantMade_of_none line (.inr held)]; rfl
    | some h => rw [grantMade_of_grant line free held]; simp [isGrantTo]

/-! ### CLAIM (R57, R58) -/

section
variable {t : Table} {sender line shots drops level rush : Nat} {r : LineRec} (reserve me : Nat)

theorem has_iff (sender : Nat) (r : LineRec) : LineRec.has sender r = true
    ↔ (∃ h, r.holder = some h ∧ h.station = sender) ∨ ∃ c ∈ r.waiting, c.station = sender := by
  simp [LineRec.has, Option.any_eq_true]

theorem has_eq_false_iff (sender : Nat) (r : LineRec) : LineRec.has sender r = false
    ↔ (∀ h, r.holder = some h → h.station ≠ sender) ∧ ∀ c ∈ r.waiting, c.station ≠ sender := by
  simp [LineRec.has, Option.any_eq_false]

theorem claimFieldsOk_eq_false_iff : claimFieldsOk shots drops level rush = false
    ↔ shots = 0 ∨ 63 < shots ∨ drops = 0 ∨ 16383 < drops ∨ 2 < level ∨ rushOfCode rush = none := by
  rw [← Bool.not_eq_true]
  simp only [claimFieldsOk, Bool.and_eq_true, inRange_iff, decide_eq_true_eq, Option.isSome_iff_ne_none, ne_eq]
  by_cases unknown : rushOfCode rush = none
  · simp [unknown]
  · simp only [unknown, not_false_eq_true, and_true, or_false]
    omega

theorem claim_unequipped (present : t.isPresent sender = true) (h : t.unequipped line = true) :
    t.claim reserve me sender line shots drops level rush = (t, tellIf me sender line (.claimDiscarded .notEquipped)) := by
  simp [Table.claim, present, h]

section
variable (present : t.isPresent sender = true) (hr : t.line line = some r)
include present hr

theorem claim_lineOut (out : r.service = .out) :
    t.claim reserve me sender line shots drops level rush = (t, tellIf me sender line (.claimDiscarded .lineOut)) := by
  simp [Table.claim, present, unequipped_of_line hr, hr, out]

theorem claim_duplicate (service : r.service = .inService)
    (has : (∃ h, r.holder = some h ∧ h.station = sender) ∨ ∃ c ∈ r.waiting, c.station = sender) :
    t.claim reserve me sender line shots drops level rush = (t, tellIf me sender line (.claimDiscarded .duplicate)) := by
  simp [Table.claim, present, unequipped_of_line hr, hr, service, (has_iff sender r).2 has]

theorem claim_badField (service : r.service = .inService) (holder : ∀ h, r.holder = some h → h.station ≠ sender)
    (waits : ∀ c ∈ r.waiting, c.station ≠ sender)
    (bad : shots = 0 ∨ 63 < shots ∨ drops = 0 ∨ 16383 < drops ∨ 2 < level ∨ rushOfCode rush = none) :
    t.claim reserve me sender line shots drops level rush = (t, tellIf me sender line (.claimDiscarded .badField)) := by
  simp [Table.claim, present, unequipped_of_line hr, hr, service, (has_eq_false_iff sender r).2 ⟨holder, waits⟩,
    claimFieldsOk_eq_false_iff.2 bad]

/-- R58: a CLAIM discarded, for whichever reason. -/
theorem claim_discarded (h : r.service = .out ∨ (∃ h, r.holder = some h ∧ h.station = sender)
      ∨ (∃ c ∈ r.waiting, c.station = sender)
      ∨ shots = 0 ∨ 63 < shots ∨ drops = 0 ∨ 16383 < drops ∨ 2 < level ∨ rushOfCode rush = none) :
    ∃ reason, t.claim reserve me sender line shots drops level rush = (t, tellIf me sender line (.claimDiscarded reason)) := by
  cases service : r.service with
  | out => exact ⟨_, claim_lineOut reserve me present hr service⟩
  | inService =>
    cases has : LineRec.has sender r with
    | true => exact ⟨_, claim_duplicate reserve me present hr service ((has_iff sender r).1 has)⟩
    | false =>
      obtain ⟨holder, waits⟩ := (has_eq_false_iff sender r).1 has
      rcases h with out | ⟨x, hx, own⟩ | ⟨c, hc, own⟩ | bad
      · rw [service] at out; cases out
      · exact absurd own (holder x hx)
      · exact absurd own (waits c hc)
      · exact ⟨_, claim_badField reserve me present hr service holder waits bad⟩

/-- R57, R68: a valid CLAIM is appended with the rush as kept, and grant choice runs; the tell comes before the grant. -/
theorem claim_waits {ru kept : Rush} {after : LineRec} (service : r.service = .inService)
    (holder : ∀ h, r.holder = some h → h.station ≠ sender) (waits : ∀ c ∈ r.waiting, c.station ≠ sender)
    (fields : 1 ≤ shots ∧ shots ≤ 63 ∧ 1 ≤ drops ∧ drops ≤ 16383 ∧ level ≤ 2) (code : rushOfCode rush = some ru)
    (hkept : kept = (if t.holdsToken sender ru then ru else .none))
    (hafter : after = LineRec.grantChoice reserve { r with waiting := r.waiting ++
      [{ station := sender, askedShots := shots, askedDrops := drops, requested := level, effective := level, passed := 0,
         rush := kept }] }) :
    t.claim reserve me sender line shots drops level rush = (t.setLine line after,
      tellIf me sender line (.claimWaits kept (after.holder.any fun h => h.station == sender)) ++ grantMade line r after) := by
  have valid : claimFieldsOk shots drops level rush = true := by
    rw [← Bool.not_eq_false, claimFieldsOk_eq_false_iff, code]
    simp only [reduceCtorEq, or_false]
    omega
  have rushKept : t.keptRush sender ((rushOfCode rush).getD .none) = kept := by rw [code, hkept]; rfl
  rw [hafter, ← any_isGrantTo reserve line (by exact holder)]
  simp [Table.claim, Table.touchLine, Table.newClaim, present, unequipped_of_line hr, hr, service,
    (has_eq_false_iff sender r).2 ⟨holder, waits⟩, valid, rushKept, grantMade]

end

/-! ### WITHDRAW (R59) -/

theorem withdraw_unequipped (present : t.isPresent sender = true) (h : t.unequipped line = true) :
    t.withdraw reserve me sender line = (t, tellIf me sender line .withdrawDiscarded) := by
  simp [Table.withdraw, present, h]

section
variable (present : t.isPresent sender = true) (hr : t.line line = some r)
include present hr

theorem withdraw_removes {after : LineRec} (waits : ∃ c ∈ r.waiting, c.station = sender)
    (hafter : after = LineRec.grantChoice reserve { r with waiting := r.waiting.filter fun c => c.station != sender }) :
    t.withdraw reserve me sender line
      = (t.setLine line after, tellIf me sender line .claimWithdrawn ++ grantMade line r after) := by
  have waiting : (r.waiting.any fun c => c.station == sender) = true := by simpa using waits
  simp only [Table.withdraw, Table.touchLine, present, unequipped_of_line hr, hr, waiting, hafter]
  rfl

theorem withdraw_discarded (waits : ∀ c ∈ r.waiting, c.station ≠ sender) :
    t.withdraw reserve me sender line = (t, tellIf me sender line .withdrawDiscarded) := by
  have waiting : (r.waiting.any fun c => c.station == sender) = false := by simpa using waits
  simp [Table.withdraw, present, unequipped_of_line hr, hr, waiting]

end

/-! ### RELEASE (R60 to R63) -/

theorem release_unequipped {grant outcome : Nat} (present : t.isPresent sender = true) (h : t.unequipped line = true) :
    t.release reserve me sender line grant drops outcome = (t, tellIf me sender line .releaseLate) := by
  simp [Table.release, present, h]

/-- The outcome byte of a RELEASE names an outcome. -/
theorem lineOutcomeOfCode_eq_none_iff (outcome : Nat) : lineOutcomeOfCode outcome = none ↔ 2 < outcome := by
  rcases outcome with _ | _ | _ | n <;> simp [lineOutcomeOfCode]

section
variable {grant outcome : Nat} (present : t.isPresent sender = true) (hr : t.line line = some r)
include present hr

theorem release_refused (bad : 16383 < drops ∨ 2 < outcome) :
    t.release reserve me sender line grant drops outcome = (t, tellIf me sender line .releaseRefused) := by
  cases code : lineOutcomeOfCode outcome with
  | none => simp [Table.release, present, unequipped_of_line hr, hr, code]
  | some o =>
    have many := bad.resolve_right fun unknown => by
      rw [(lineOutcomeOfCode_eq_none_iff outcome).2 unknown] at code
      cases code
    simp [Table.release, present, unequipped_of_line hr, hr, code, many]

theorem release_late (few : drops ≤ 16383) (known : outcome ≤ 2)
    (unmatched : ∀ h, r.holder = some h → h.station ≠ sender ∨ h.grant ≠ grant) :
    t.release reserve me sender line grant drops outcome = (t, tellIf me sender line .releaseLate) := by
  obtain ⟨o, code⟩ : ∃ o, lineOutcomeOfCode outcome = some o :=
    Option.ne_none_iff_exists'.1 fun none => Nat.not_lt_of_le known ((lineOutcomeOfCode_eq_none_iff outcome).1 none)
  cases holder : r.holder with
  | none => simp [Table.release, present, unequipped_of_line hr, hr, code, few, holder]
  | some h =>
    have differs : releaseMatches sender grant h = false := by
      rw [← Bool.not_eq_true, releaseMatches_iff]
      exact fun ⟨station, number⟩ => (unmatched h holder).elim (· station) (· number)
    simp [Table.release, present, unequipped_of_line hr, hr, code, few, holder, differs]

/-- R60: a RELEASE that does not match the holding, or has a field outside its range, is discarded. -/
theorem release_discarded (h : (∀ h, r.holder = some h → h.station ≠ sender ∨ h.grant ≠ grant) ∨ 16383 < drops ∨ 2 < outcome) :
    ∃ tell, t.release reserve me sender line grant drops outcome = (t, tellIf me sender line tell) := by
  by_cases bad : 16383 < drops ∨ 2 < outcome
  · exact ⟨_, release_refused reserve me present hr bad⟩
  · push Not at bad
    exact ⟨_, release_late reserve me present hr bad.1 bad.2 (h.resolve_right (by omega))⟩

section
variable {h : Holder} (holder : r.holder = some h) (station : h.station = sender) (number : h.grant = grant)
  (few : drops ≤ 16383)
include holder station number few

/-- R60, R68: a RELEASE that matches, by its outcome. -/
theorem release_applies {o : LineOutcome} (code : lineOutcomeOfCode outcome = some o) :
    t.release reserve me sender line grant drops outcome
      = (t.setLine line (LineRec.grantChoice reserve (LineRec.released r drops o)),
        .lineEnded line h :: tellIf me sender line (.releaseApplied (LineRec.released r drops o).level)
          ++ (if o = .runaway then removedTell me line r else [])
          ++ grantMade line (LineRec.released r drops o) (LineRec.grantChoice reserve (LineRec.released r drops o))) := by
  have matched : releaseMatches sender grant h = true := (releaseMatches_iff sender grant h).2 ⟨station, number⟩
  simp [Table.release, Table.touchLine, present, unequipped_of_line hr, hr, code, holder, matched, Nat.not_lt_of_le few]

/-- R61, R62: GOOD charges the drops, SHORT leaves no level, and grant choice runs. -/
theorem release_good_or_short {level : Nat} {after : LineRec}
    (charged : (outcome = 0 ∧ level = r.level - drops) ∨ (outcome = 1 ∧ level = 0))
    (hafter : after = LineRec.grantChoice reserve { r with holder := none, level := level }) :
    t.release reserve me sender line grant drops outcome = (t.setLine line after,
      .lineEnded line h :: tellIf me sender line (.releaseApplied level) ++ grantMade line { r with holder := none } after) := by
  have applies {o : LineOutcome} (code : lineOutcomeOfCode outcome = some o) :=
    release_applies reserve me present hr holder station number few code
  rcases charged with ⟨rfl, rfl⟩ | ⟨rfl, rfl⟩
  · rw [applies rfl, hafter]
    simp [LineRec.released, grantMade]
  · rw [applies rfl, hafter]
    simp [LineRec.released, grantMade]

/-- R63: RUNAWAY takes the line out, and tells this station's claim that waits there. -/
theorem release_runaway (runaway : outcome = 2) :
    t.release reserve me sender line grant drops outcome = (t.setLine line (LineRec.out r),
      .lineEnded line h :: tellIf me sender line (.releaseApplied 0) ++ removedTell me line r) := by
  subst runaway
  rw [release_applies reserve me present hr holder station number few rfl,
    show LineRec.released r drops .runaway = LineRec.out r from rfl, grantChoice_stands (r := LineRec.out r) (.inl rfl),
    grantMade_of_none line (.inr rfl), if_pos rfl, List.append_nil]
  rfl

end

end

/-! ### REFILL, LINE OUT and LINE RETURN (R64 to R66) -/

section
variable (hr : t.line line = some r)
include hr

theorem refill_discarded (out : r.service = .out) : t.refill reserve sender line level = (t, []) := by
  simp [Table.refill, Table.same, hr, out]

theorem lineReturn_discarded (service : r.service = .inService) : t.lineReturn reserve sender line level = (t, []) := by
  simp [Table.lineReturn, Table.same, hr, service]

theorem lineOut_discarded (out : r.service = .out) : t.lineOut me sender line = (t, []) := by
  simp [Table.lineOut, Table.same, hr, out]

section
variable (present : t.isPresent sender = true)
include present

theorem refill_sets {after : LineRec} (fits : level ≤ 16777215) (service : r.service = .inService)
    (hafter : after = LineRec.grantChoice reserve { r with level := level }) :
    t.refill reserve sender line level = (t.setLine line after, grantMade line r after) := by
  simp only [Table.refill, Table.touchLine, present, unequipped_of_line hr, Nat.not_lt_of_le fits, hr, service, hafter]
  rfl

theorem lineReturn_puts {after : LineRec} (fits : level ≤ 16777215) (out : r.service = .out)
    (hafter : after = LineRec.grantChoice reserve { r with service := .inService, level := level }) :
    t.lineReturn reserve sender line level = (t.setLine line after, grantMade line r after) := by
  simp only [Table.lineReturn, Table.touchLine, present, unequipped_of_line hr, Nat.not_lt_of_le fits, hr, out, hafter]
  rfl

section
variable (service : r.service = .inService)
include service

theorem lineOut_free (free : r.holder = none) :
    t.lineOut me sender line = (t.setLine line (LineRec.out r), removedTell me line r) := by
  simp [Table.lineOut, present, unequipped_of_line hr, hr, service, free]

/-- R65, R68: a LINE OUT of a line that is held ends the holding, and tells its holder. -/
theorem lineOut_held {h : Holder} (held : r.holder = some h) : t.lineOut me sender line = (t.setLine line (LineRec.out r),
    .lineEnded line h :: tellIf me h.station line .holdingEnded ++ removedTell me line r) := by
  simp [Table.lineOut, present, unequipped_of_line hr, hr, service, held]

theorem lineOut_takes_out : ∃ es, t.lineOut me sender line = (t.setLine line (LineRec.out r), es) := by
  cases holder : r.holder with
  | none => exact ⟨_, lineOut_free me hr present service holder⟩
  | some h => exact ⟨_, lineOut_held me hr present service holder⟩

end

end

end

end

/-! ### The channel that works a line (R104) -/

section
variable {s : State} {line : Nat}

/-- R68, R104: it is the lowest channel that is not IDLE and has the line. -/
theorem worker_some {k : Nat} (h : s.worker line = some k) : k < s.dcs.length ∧ (s.dc k).state ≠ .idle ∧ (s.dc k).line = line
    ∧ ∀ j, j < k → (s.dc j).state = .idle ∨ (s.dc j).line ≠ line := by
  obtain ⟨lt, here, before⟩ := List.findIdx?_eq_some_iff_getElem.1 h
  have at_k : s.dc k = s.dcs[k] := by rw [State.dc, List.getD_eq_getElem _ _ lt]
  rw [Bool.and_eq_true, bne_iff_ne, beq_iff_eq, ← at_k] at here
  refine ⟨lt, here.1, here.2, fun j earlier => ?_⟩
  have idle := before j earlier
  rw [← List.getD_eq_getElem _ Channel.idle (earlier.trans lt), Bool.and_eq_true, bne_iff_ne, beq_iff_eq, not_and_or,
    not_ne_iff] at idle
  exact idle

theorem worker_none (h : s.worker line = none) (k : Nat) : (s.dc k).state = .idle ∨ (s.dc k).line ≠ line := by
  by_cases lt : k < s.dcs.length
  · have idle := List.findIdx?_eq_none_iff.1 h _ (List.getElem_mem lt)
    rw [← List.getD_eq_getElem _ Channel.idle lt, ← Bool.not_eq_true, Bool.and_eq_true, bne_iff_ne, beq_iff_eq, not_and_or,
      not_ne_iff] at idle
    exact idle
  · rw [State.dc, List.getD_eq_default _ _ (Nat.le_of_not_lt lt)]
    exact .inl rfl

end

/-! ### The effects of a take (R68, R69, R88, R90) -/

theorem ends_iff (e : Effect) : e.ends = true
    ↔ (∃ n h, e = .lineEnded n h) ∨ ∃ m station grant, e = .mixerEnded m station grant := by
  cases e <;> simp [Effect.ends]

theorem applyEffect_mixerGranted_own {s : State} {station : Nat} (own : station = s.me) (m grant time : Nat) :
    s.applyEffect (.mixerGranted m station grant time) =
      State.mixerGranted (s.startTimer (.mixer m) station grant (s.mixerLimit time)) m grant time := if_pos own

theorem applyEffect_mixerGranted_other {s : State} {station : Nat} (other : station ≠ s.me) (m grant time : Nat) :
    s.applyEffect (.mixerGranted m station grant time) = s.startTimer (.mixer m) station grant (s.mixerLimit time) := if_neg other

theorem applyEffect_tellLine_worked {s : State} {line k : Nat} (works : s.worker line = some k) (tell : LineTell) :
    s.applyEffect (.tellLine line tell) = s.lineTell k tell := by
  simp only [State.applyEffect, works]

theorem applyEffect_tellLine_unworked {s : State} {line : Nat} (idle : s.worker line = none) (tell : LineTell) :
    s.applyEffect (.tellLine line tell) = s := by
  simp only [State.applyEffect, idle]

end Sys2Proof.Machine

namespace Sys2Proof

open Machine

/-- Settles O13, by the rules of CLAIM and WITHDRAW and by the reasons of a discard; the effects are read off one by one. -/
theorem claimAndWithdrawTakes : Obligations.ClaimAndWithdrawTakes := by
  refine ⟨fun s sender line shots drops level rush r member present hr => ?_, fun s sender line r member present hr => ?_,
    fun s sender line shots drops level rush take tell member present htake htell => ⟨fun unequipped => ?_, fun r hr => ⟨?_, ?_, ?_⟩⟩,
    fun s sender line take member present htake => ⟨fun unequipped => ?_, fun r hr => ⟨?_, ?_⟩⟩,
    fun me sender line tell book before after => ?_, fun s t es cursor => rfl, ends_iff,
    fun s line m station grant time h tell book => ?_⟩
  · obtain ⟨t, ht, outside, bt⟩ := exec_lineTake_table (c := .claimTaken sender line shots drops level rush) rfl rfl member present
    refine ⟨t, ht, outside, fun ru service holder waits h1 h2 h3 h4 h5 code => ?_, fun discarded => ?_⟩
    · exact bt _ _ (claim_waits _ _ present hr service holder waits ⟨h1, h2, h3, h4, h5⟩ code rfl rfl)
    · obtain ⟨reason, rule⟩ := claim_discarded s.bay.reserve s.me present hr discarded
      exact bt _ _ rule
  · obtain ⟨t, ht, outside, bt⟩ := exec_lineTake_table (c := .withdrawTaken sender line) rfl rfl member present
    exact ⟨t, ht, outside, fun waits => bt _ _ (withdraw_removes _ _ present hr waits rfl),
      fun waits => bt _ _ (withdraw_discarded _ _ present hr waits)⟩
  · subst htake htell
    exact exec_lineTake rfl rfl member present (claim_unequipped _ _ present unequipped)
  · intro ru kept after service holder waits h1 h2 h3 h4 h5 code hkept hafter
    subst htake
    exact exec_lineTake rfl rfl member present
      (claim_waits _ _ present hr service holder waits ⟨h1, h2, h3, h4, h5⟩ code hkept hafter)
  · intro out
    subst htake htell
    exact exec_lineTake rfl rfl member present (claim_lineOut _ _ present hr out)
  · intro service
    subst htake htell
    exact ⟨fun has => exec_lineTake rfl rfl member present (claim_duplicate _ _ present hr service has),
      fun holder waits bad => exec_lineTake rfl rfl member present (claim_badField _ _ present hr service holder waits bad)⟩
  · subst htake
    exact exec_lineTake rfl rfl member present (withdraw_unequipped _ _ present unequipped)
  · intro after waits hafter
    subst htake
    exact exec_lineTake rfl rfl member present (withdraw_removes _ _ present hr waits hafter)
  · intro waits
    subst htake
    exact exec_lineTake rfl rfl member present (withdraw_discarded _ _ present hr waits)
  · refine ⟨?_, fun other => ⟨tellIf_ne other line tell, bookIf_ne other book⟩, fun h => grantMade_of_grant line, grantMade_of_none line⟩
    rintro rfl
    exact ⟨tellIf_self sender line tell, bookIf_self sender book⟩
  · exact ⟨rfl, rfl, rfl, fun own => applyEffect_mixerGranted_own own m grant time,
      fun other => applyEffect_mixerGranted_other other m grant time, fun k works => applyEffect_tellLine_worked works tell,
      fun idle => applyEffect_tellLine_unworked idle tell, rfl, fun k => worker_some, worker_none⟩

/-- Settles O14, by the rule of a RELEASE for each outcome and for each reason of a discard. -/
theorem releaseTakeEndsTheHolding : Obligations.ReleaseTakeEndsTheHolding := by
  refine ⟨fun s sender line grant drops outcome r member present hr => ?_,
    fun s sender line grant drops outcome take tell member present htake htell => ?_⟩
  · obtain ⟨t, ht, outside, bt⟩ := exec_lineTake_table (c := .releaseTaken sender line grant drops outcome) rfl rfl member present
    refine ⟨t, ht, outside, fun h holder station number few => ⟨fun good => ?_, fun short => ?_, fun runaway => ?_⟩,
      fun discarded => ?_⟩
    · exact bt _ _ (release_good_or_short _ _ present hr holder station number few (.inl ⟨good, rfl⟩) rfl)
    · exact bt _ _ (release_good_or_short _ _ present hr holder station number few (.inr ⟨short, rfl⟩) rfl)
    · exact bt _ _ (release_runaway _ _ present hr holder station number few runaway)
    · obtain ⟨tell, rule⟩ := release_discarded s.bay.reserve s.me present hr discarded
      exact bt _ _ rule
  · subst htake htell
    refine ⟨fun unequipped => exec_lineTake rfl rfl member present (release_unequipped _ _ present unequipped), fun r hr =>
      ⟨fun h after level holder station number few charged hafter => exec_lineTake rfl rfl member present ?_,
        fun h holder station number few runaway => exec_lineTake rfl rfl member present ?_,
        fun bad => exec_lineTake rfl rfl member present (release_refused _ _ present hr bad),
        fun few known unmatched => exec_lineTake rfl rfl member present (release_late _ _ present hr few known unmatched)⟩⟩
    · exact release_good_or_short _ _ present hr holder station number few charged hafter
    · exact release_runaway _ _ present hr holder station number few runaway

/-- Settles O15, by the rules of REFILL, LINE OUT and LINE RETURN on an IN and on an OUT line. -/
theorem refillLineOutAndLineReturnTakes : Obligations.RefillLineOutAndLineReturnTakes := by
  refine ⟨fun s sender line level r member present hr fits => ⟨?_, ?_, ?_⟩,
    fun s sender line level r member present hr fits => ⟨fun after service hafter => ?_, fun after out hafter => ?_,
      fun removed service hremoved => ⟨fun free => ?_, fun h held => ?_⟩⟩⟩
  · obtain ⟨t, ht, outside, bt⟩ := exec_lineTake_table (c := .refillTaken sender line level) rfl rfl member present
    exact ⟨t, ht, outside, fun service => bt _ _ (refill_sets _ hr present fits service rfl),
      fun out => bt _ _ (refill_discarded _ hr out)⟩
  · obtain ⟨t, ht, outside, bt⟩ := exec_lineTake_table (c := .lineOutTaken sender line) rfl rfl member present
    refine ⟨t, ht, outside, fun service => ?_, fun out => bt _ _ (lineOut_discarded _ hr out)⟩
    obtain ⟨es, rule⟩ := lineOut_takes_out s.me hr present service
    exact bt _ es rule
  · obtain ⟨t, ht, outside, bt⟩ := exec_lineTake_table (c := .lineReturnTaken sender line level) rfl rfl member present
    exact ⟨t, ht, outside, fun out => bt _ _ (lineReturn_puts _ hr present fits out rfl),
      fun service => bt _ _ (lineReturn_discarded _ hr service)⟩
  · exact exec_lineTake rfl rfl member present (refill_sets _ hr present fits service hafter)
  · exact exec_lineTake rfl rfl member present (lineReturn_puts _ hr present fits out hafter)
  · subst hremoved
    exact exec_lineTake rfl rfl member present (lineOut_free _ hr present service free)
  · subst hremoved
    exact exec_lineTake rfl rfl member present (lineOut_held _ hr present service held)

end Sys2Proof
end

section
/-! Grant choice in the mixer pool (R54, R76 to R78): the best claim, the grants made one by one, and the aging of the claims passed. -/

namespace Sys2Proof.Machine

/-! ### The best claim of the pool (R77 (a)) -/

/-- R51, R77 (a): of the claims that carry a rush it is the earliest that is best. -/
theorem bestPlace_first_of_rush {ranks : List (Option (Rush × Nat))} {i : Nat} {x : Rush × Nat} (h : bestPlace ranks = some i)
    (hx : ranks[i]? = some (some x)) (rush : x.1 ≠ .none) : ∀ j y, ranks[j]? = some (some y) → y.1 = x.1 → i ≤ j := by
  have first (t : Rush) (found : firstPlace (fun z => z.1 == t) ranks = some i) :
      ∀ j y, ranks[j]? = some (some y) → y.1 = x.1 → i ≤ j := by
    obtain ⟨z, hz, ht, first⟩ := firstPlace_some found
    obtain rfl : x = z := by simpa [hx] using hz
    exact fun j y hy same => first j y hy (beq_iff_eq.2 (same.trans (beq_iff_eq.1 ht)))
  have absent (t : Rush) (nowhere : firstPlace (fun z => z.1 == t) ranks = none) : x.1 ≠ t :=
    beq_eq_false_iff_ne.1 (firstPlace_none_iff.1 nowhere x (List.mem_of_getElem? hx))
  rw [bestPlace_eq, Option.or_eq_some_iff, Option.or_eq_some_iff, Option.or_eq_none_iff] at h
  rcases h with (rushA | ⟨-, rushB⟩) | ⟨⟨noA, noB⟩, -⟩
  · exact first .a rushA
  · exact first .b rushB
  · cases carried : x.1 with
    | none => exact absurd carried rush
    | a => exact absurd carried (absent .a noA)
    | b => exact absurd carried (absent .b noB)

/-- A claim's rush and effective level as pool grant choice ranks them: every claim is eligible. -/
def MixClaim.rank (c : MixClaim) : Option (Rush × Nat) := some (c.rush, c.effective)

section
variable {p : Pool}

theorem poolBest_eq (p : Pool) : p.best = bestPlace (p.waiting.map MixClaim.rank) := rfl

theorem poolRank_getElem? {j : Nat} {c : MixClaim} (h : p.waiting[j]? = some c) :
    (p.waiting.map MixClaim.rank)[j]? = some (some (c.rush, c.effective)) := by
  rw [List.getElem?_map, h]
  rfl

theorem poolRank_mem {c : MixClaim} (h : c ∈ p.waiting) : some (c.rush, c.effective) ∈ p.waiting.map MixClaim.rank :=
  List.mem_map.2 ⟨c, h, rfl⟩

/-- R77 (a): what the best claim of the pool is. -/
theorem poolBest_some {i : Nat} (h : p.best = some i) : ∃ c, p.waiting[i]? = some c
    ∧ ((c.rush = .a ∧ ∀ j x, j < i → p.waiting[j]? = some x → x.rush ≠ .a)
      ∨ ((∀ x ∈ p.waiting, x.rush ≠ .a)
        ∧ ((c.rush = .b ∧ ∀ j x, j < i → p.waiting[j]? = some x → x.rush ≠ .b)
          ∨ ((∀ x ∈ p.waiting, x.rush ≠ .b)
            ∧ ∀ j x, p.waiting[j]? = some x → x.effective ≤ c.effective ∧ (x.effective = c.effective → i ≤ j))))) := by
  rw [poolBest_eq] at h
  obtain ⟨_, hx, order⟩ := bestPlace_some h
  obtain ⟨c, hc, rank⟩ := Option.map_eq_some_iff.1 (List.getElem?_map.symm.trans hx)
  obtain rfl := Option.some.inj rank
  have earliest (t : Rush) (rush : t ≠ .none) (carries : c.rush = t) (j : Nat) (x : MixClaim) (earlier : j < i)
      (hx : p.waiting[j]? = some x) : x.rush ≠ t := fun same =>
    Nat.not_le_of_lt earlier (bestPlace_first_of_rush h (poolRank_getElem? hc) (carries ▸ rush) j _ (poolRank_getElem? hx)
      (same.trans carries.symm))
  refine ⟨c, hc, ?_⟩
  rcases order with rushA | ⟨noA, rushB | ⟨noB, top⟩⟩
  · exact .inl ⟨rushA, earliest .a nofun rushA⟩
  · exact .inr ⟨fun x hx => noA _ (poolRank_mem hx), .inl ⟨rushB, earliest .b nofun rushB⟩⟩
  · exact .inr ⟨fun x hx => noA _ (poolRank_mem hx),
      .inr ⟨fun x hx => noB _ (poolRank_mem hx), fun j x hx => top j _ (poolRank_getElem? hx)⟩⟩

theorem poolBest_none_iff : p.best = none ↔ p.waiting = [] := by
  rw [poolBest_eq, bestPlace_none_iff]
  constructor
  · exact fun h => List.eq_nil_iff_forall_not_mem.2 fun c hc => h _ (poolRank_mem hc)
  · intro empty x hx
    rw [empty] at hx
    cases hx

/-! ### The FREE mixer of lowest number (R77 (c)) -/

/-- R77: nothing is left to grant, for want of a claim or of a FREE mixer. -/
def Pool.settled (p : Pool) : Prop := p.waiting = [] ∨ ∀ r ∈ p.recs, r.state ≠ .free

/-- The number of FREE mixers. -/
def Pool.freeMixers (p : Pool) : Nat := p.recs.countP fun r => r.state == .free

/-- R77: the next grant: the best claim in place i, and the FREE mixer of lowest number, m. -/
structure Pool.Grants (p : Pool) (i : Nat) (c : MixClaim) (m : Nat) (r : MixRec) : Prop where
  best : p.best = some i
  claim : p.waiting[i]? = some c
  mixer : p.recs[m]? = some r
  free : r.state = .free
  lowest : ∀ j x, j < m → p.recs[j]? = some x → x.state ≠ .free

theorem lowestFree_some_iff {recs : List MixRec} {m : Nat} : recs.findIdx? (fun r => r.state == .free) = some m
    ↔ ∃ r, recs[m]? = some r ∧ r.state = .free ∧ ∀ j x, j < m → recs[j]? = some x → x.state ≠ .free := by
  simp only [List.findIdx?_eq_some_iff_getElem, beq_iff_eq]
  constructor
  · rintro ⟨lt, free, lower⟩
    refine ⟨_, List.getElem?_eq_getElem lt, free, fun j x earlier hx => ?_⟩
    obtain ⟨_, rfl⟩ := List.getElem?_eq_some_iff.1 hx
    exact lower j earlier
  · rintro ⟨r, hr, free, lower⟩
    obtain ⟨lt, rfl⟩ := List.getElem?_eq_some_iff.1 hr
    exact ⟨lt, free, fun j earlier => lower j _ earlier (List.getElem?_eq_getElem _)⟩

theorem lowestFree_none_iff {recs : List MixRec} : recs.findIdx? (fun r => r.state == .free) = none
    ↔ ∀ r ∈ recs, r.state ≠ .free := by
  simp [List.findIdx?_eq_none_iff]

theorem settled_or_grants (p : Pool) : p.settled ∨ ∃ i c m r, p.Grants i c m r := by
  cases best : p.best with
  | none => exact .inl (.inl (poolBest_none_iff.1 best))
  | some i =>
    cases lowest : p.recs.findIdx? (fun r => r.state == .free) with
    | none => exact .inl (.inr (lowestFree_none_iff.1 lowest))
    | some m =>
      obtain ⟨c, hc, -⟩ := poolBest_some best
      obtain ⟨r, hr, free, lower⟩ := lowestFree_some_iff.1 lowest
      exact .inr ⟨i, c, m, r, best, hc, hr, free, lower⟩

/-! ### Grants one by one (R77) -/

theorem grantUpTo_settled (h : p.settled) (n : Nat) : Pool.grantUpTo n p = (p, []) := by
  cases n with
  | zero => rfl
  | succ n =>
    rcases h with empty | busy
    · simp only [Pool.grantUpTo, poolBest_none_iff.2 empty]
    · rw [Pool.grantUpTo, lowestFree_none_iff.2 busy]
      cases p.best <;> rfl

section
variable {i m : Nat} {c : MixClaim} {r : MixRec} (h : p.Grants i c m r)
include h

theorem grantUpTo_succ (n : Nat) : Pool.grantUpTo (n + 1) p = ((Pool.grantUpTo n (p.grantAt m r i c)).1,
    .mixerGranted m c.station ((r.grant + 1) % 256) c.mixTime :: (Pool.grantUpTo n (p.grantAt m r i c)).2) := by
  simp only [Pool.grantUpTo, h.best, h.claim, h.mixer, lowestFree_some_iff.2 ⟨r, h.mixer, h.free, h.lowest⟩]

/-- Each grant takes one FREE mixer. -/
theorem freeMixers_grantAt : p.freeMixers = (p.grantAt m r i c).freeMixers + 1 := by
  obtain ⟨lt, at_m⟩ := List.getElem?_eq_some_iff.1 h.mixer
  have free : (p.recs[m].state == MixerState.free) = true := beq_iff_eq.2 (at_m ▸ h.free)
  have some_free : 0 < p.recs.countP fun r => r.state == .free := List.countP_pos_iff.2 ⟨_, List.getElem_mem lt, free⟩
  have held : (MixerState.held == MixerState.free) = false := rfl
  simp only [Pool.freeMixers, Pool.grantAt, List.countP_set lt, free, held, if_true, Bool.false_eq_true, if_false]
  omega

end

/-- As many grants as there are FREE mixers leave nothing to grant. -/
theorem grantUpTo_leaves_settled {n : Nat} (enough : p.freeMixers ≤ n) : (Pool.grantUpTo n p).1.settled := by
  induction n generalizing p with
  | zero => exact .inr fun r hr => by simpa using List.countP_eq_zero.1 (Nat.le_zero.1 enough) r hr
  | succ n ih =>
    rcases settled_or_grants p with settled | ⟨i, c, m, r, grants⟩
    · rwa [grantUpTo_settled settled]
    · rw [grantUpTo_succ grants]
      exact ih (by have := freeMixers_grantAt grants; omega)

/-- A bound above the number of FREE mixers leads to no other grants. -/
theorem grantUpTo_succ_of_enough {n : Nat} (enough : p.freeMixers ≤ n) : Pool.grantUpTo (n + 1) p = Pool.grantUpTo n p := by
  induction n generalizing p with
  | zero =>
    have settled : p.settled := grantUpTo_leaves_settled enough
    rw [grantUpTo_settled settled, grantUpTo_settled settled]
  | succ n ih =>
    rcases settled_or_grants p with settled | ⟨i, c, m, r, grants⟩
    · rw [grantUpTo_settled settled, grantUpTo_settled settled]
    · rw [grantUpTo_succ grants, grantUpTo_succ grants, ih (by have := freeMixers_grantAt grants; omega)]

theorem poolGrantChoice_leaves_settled (p : Pool) : p.grantChoice.1.settled := grantUpTo_leaves_settled List.countP_le_length

/-- R77: pool grant choice makes one grant and goes on from there. -/
theorem poolGrantChoice_grants {i m : Nat} {c : MixClaim} {r : MixRec} (h : p.Grants i c m r) :
    p.grantChoice = ((p.grantAt m r i c).grantChoice.1,
      .mixerGranted m c.station ((r.grant + 1) % 256) c.mixTime :: (p.grantAt m r i c).grantChoice.2) := by
  obtain ⟨k, mixers⟩ : ∃ k, p.recs.length = k + 1 :=
    Nat.exists_eq_add_one.2 (Nat.zero_lt_of_lt (List.getElem?_eq_some_iff.1 h.mixer).1)
  have enough : (p.grantAt m r i c).freeMixers ≤ k := by
    have total : p.freeMixers ≤ p.recs.length := List.countP_le_length
    have := freeMixers_grantAt h
    omega
  have rest : (p.grantAt m r i c).grantChoice = Pool.grantUpTo k (p.grantAt m r i c) := by
    rw [Pool.grantChoice, show (p.grantAt m r i c).recs.length = k + 1 from List.length_set.trans mixers,
      grantUpTo_succ_of_enough enough]
  rw [rest, Pool.grantChoice, mixers, grantUpTo_succ h]

end

/-! ### Claims passed (R54, R78) -/

theorem agedPassed_eq (passed : Nat) : agedPassed passed = if passed < 3 then passed + 1 else 0 := by
  unfold agedPassed
  split <;> split <;> omega

theorem agedLevel_eq (passed effective : Nat) :
    agedLevel passed effective = if passed < 3 ∨ 2 ≤ effective then effective else effective + 1 := by
  unfold agedLevel
  split <;> split <;> omega

theorem claimAged_rush {c : Claim} (rush : c.rush ≠ .none) : Claim.aged c = c := if_neg rush

theorem mixClaimAged_rush {c : MixClaim} (rush : c.rush ≠ .none) : MixClaim.aged c = c := if_neg rush

theorem claimAged_plain {c : Claim} (plain : c.rush = .none) :
    Claim.aged c = { c with passed := agedPassed c.passed, effective := agedLevel c.passed c.effective } := if_pos plain

theorem mixClaimAged_plain {c : MixClaim} (plain : c.rush = .none) :
    MixClaim.aged c = { c with passed := agedPassed c.passed, effective := agedLevel c.passed c.effective } := if_pos plain

end Sys2Proof.Machine

namespace Sys2Proof

open Machine

/-- Settles O21: the best claim by `bestPlace`, the grants by the number of FREE mixers left, and the aging by the pass counted. -/
theorem poolGrantChoiceAndAging : Obligations.PoolGrantChoiceAndAging := by
  refine ⟨fun p => ⟨fun i => poolBest_some, poolBest_none_iff⟩, fun p => ⟨poolGrantChoice_leaves_settled p,
    fun settled => grantUpTo_settled settled _, fun i m c r best claim mixer free lowest => ?_⟩, fun c m => ?_⟩
  · have grants := poolGrantChoice_grants ⟨best, claim, mixer, free, lowest⟩
    exact ⟨by rw [grants]; rfl, by rw [grants]; rfl⟩
  · refine ⟨claimAged_rush, fun plain few => ?_, fun plain third low => ?_, fun plain third top => ?_,
      mixClaimAged_rush, fun plain few => ?_, fun plain third low => ?_, fun plain third top => ?_⟩
    · simp [claimAged_plain plain, agedPassed_eq, agedLevel_eq, few]
    · simp [claimAged_plain plain, agedPassed_eq, agedLevel_eq, third, Nat.not_le_of_lt low]
    · simp [claimAged_plain plain, agedPassed_eq, agedLevel_eq, third, top]
    · simp [mixClaimAged_plain plain, agedPassed_eq, agedLevel_eq, few]
    · simp [mixClaimAged_plain plain, agedPassed_eq, agedLevel_eq, third, Nat.not_le_of_lt low]
    · simp [mixClaimAged_plain plain, agedPassed_eq, agedLevel_eq, third, top]

end Sys2Proof
end

section
/-! The takes on the rush tokens and the mixer pool (R55, R72, R73, R79 to R82): what each leaves of the table and brings about. -/

namespace Sys2Proof.Machine

/-! ### A take on a token or the pool at a station that stands in the bay -/

section
variable {c : Instr} {s : State} {sender : Nat} {n : Notice}

/-- R10, R14: what a station makes of a notice about a token or the pool, given the table's rule for the notice. -/
theorem exec_poolTake {u : Table} {es : List Effect} (hc : c.taken = some (sender, n))
    (kind : inRange 12 17 (noticeKind n) = true) (member : s.member = true) (present : s.bt.isPresent sender = true)
    (rule : s.bt.takeOther s.bay.reserve s.bay.mixersEquipped s.me sender n = (u, es)) :
    exec c s = .next (s.takenBy sender n u es) := by
  obtain ⟨hears, att, here⟩ := s.member_iff.1 member
  have leave : n ≠ .leave := by rintro rfl; cases kind
  obtain ⟨low, high⟩ := (inRange_iff _ _ _).1 kind
  have stays : (s.bt.takeOther s.bay.reserve s.bay.mixersEquipped s.me sender n).1.isPresent s.me = true := by
    rwa [Table.isPresent, Table.rosterAt, takeOther_roster _ _ _ _ _ _ leave (by omega)]
  rw [exec_of_taken c s sender n hc, take_eq_takenBy s sender n hears att (Table.not_absent_of_isPresent present) (by omega)
    (fun own => leave own.2) stays, rule]

/-- Such a take leaves the table of its rule, counted, and everything outside it. -/
theorem exec_poolTake_table (hc : c.taken = some (sender, n)) (kind : inRange 12 17 (noticeKind n) = true)
    (member : s.member = true) (present : s.bt.isPresent sender = true) : ∃ t, exec c s = .next t ∧ s.sameOutside t
      ∧ ∀ u es, s.bt.takeOther s.bay.reserve s.bay.mixersEquipped s.me sender n = (u, es) → t.bt = u.counted := by
  obtain ⟨setup, ssl, bt, pins, pending⟩ := takenWith_table s sender n _ _ id KeepsTable.refl
  exact ⟨_, exec_poolTake hc kind member present Prod.mk.eta.symm, ⟨setup, ssl, pins, pending⟩,
    fun u es rule => bt.trans (by rw [rule])⟩

end

theorem inRange_eq_false_iff (lo hi n : Nat) : inRange lo hi n = false ↔ n < lo ∨ hi < n := by
  rw [← Bool.not_eq_true, inRange_iff]
  omega

/-! ### RUSH TAKE (R72) -/

section
variable {t : Table} {tk : Tokens} {sender tag : Nat} (me : Nat)

theorem heldFor_iff : tk.heldFor sender tag = true
    ↔ tk.a = some { station := sender, tag := tag } ∨ tk.b = some { station := sender, tag := tag } := by
  simp [Tokens.heldFor]

section
variable (present : t.isPresent sender = true) (tokens : t.tokens = some tk)
include present tokens

theorem rushTake_badField (bad : tag = 0 ∨ 65535 < tag) :
    t.rushTake me sender tag = (t, bookIf me sender (.tokenRefused .badField)) := by
  have outside : inRange 1 65535 tag = false := (inRange_eq_false_iff _ _ _).2 (by omega)
  simp [Table.rushTake, present, tokens, outside]

section
variable (low : 1 ≤ tag) (high : tag ≤ 65535)
include low high

theorem rushTake_tagHolds
    (holds : tk.a = some { station := sender, tag := tag } ∨ tk.b = some { station := sender, tag := tag }) :
    t.rushTake me sender tag = (t, bookIf me sender (.tokenRefused .tagHolds)) := by
  simp [Table.rushTake, present, tokens, (inRange_iff _ _ _).2 ⟨low, high⟩, heldFor_iff.2 holds]

section
variable (notA : tk.a ≠ some { station := sender, tag := tag }) (notB : tk.b ≠ some { station := sender, tag := tag })
include notA notB

/-- R72: a valid RUSH TAKE of a tag that holds no token goes by which tokens are free. -/
theorem rushTake_valid : t.rushTake me sender tag =
    if tk.a = none then
      ({ t with tokens := some { tk with a := some { station := sender, tag := tag } } }, bookIf me sender (.tokenTaken .a))
    else if tk.b = none then
      ({ t with tokens := some { tk with b := some { station := sender, tag := tag } } }, bookIf me sender (.tokenTaken .b))
    else (t, bookIf me sender (.tokenRefused .noneFree)) := by
  have free : tk.heldFor sender tag = false := by
    rw [← Bool.not_eq_true, heldFor_iff]
    exact fun holds => holds.elim notA notB
  simp [Table.rushTake, present, tokens, (inRange_iff _ _ _).2 ⟨low, high⟩, free]

theorem rushTake_takesA (freeA : tk.a = none) : t.rushTake me sender tag =
    ({ t with tokens := some { tk with a := some { station := sender, tag := tag } } }, bookIf me sender (.tokenTaken .a)) := by
  rw [rushTake_valid me present tokens low high notA notB, if_pos freeA]

theorem rushTake_takesB (heldA : tk.a ≠ none) (freeB : tk.b = none) : t.rushTake me sender tag =
    ({ t with tokens := some { tk with b := some { station := sender, tag := tag } } }, bookIf me sender (.tokenTaken .b)) := by
  rw [rushTake_valid me present tokens low high notA notB, if_neg heldA, if_pos freeB]

theorem rushTake_noneFree (heldA : tk.a ≠ none) (heldB : tk.b ≠ none) :
    t.rushTake me sender tag = (t, bookIf me sender (.tokenRefused .noneFree)) := by
  rw [rushTake_valid me present tokens low high notA notB, if_neg heldA, if_neg heldB]

end

end

end

/-- R72 (c), (f): a RUSH TAKE that is refused whatever is free. -/
theorem rushTake_refused (present : t.isPresent sender = true) (tokens : t.tokens = some tk)
    (h : tag = 0 ∨ 65535 < tag ∨ tk.a = some { station := sender, tag := tag } ∨ tk.b = some { station := sender, tag := tag }) :
    ∃ reason, t.rushTake me sender tag = (t, bookIf me sender (.tokenRefused reason)) := by
  by_cases bad : tag = 0 ∨ 65535 < tag
  · exact ⟨_, rushTake_badField me present tokens bad⟩
  · push Not at bad
    exact ⟨_, rushTake_tagHolds me present tokens (by omega) bad.2 ((h.resolve_left bad.1).resolve_left (by omega))⟩

end

/-! ### A freed token and the claims that carried it (R55) -/

/-- R55: the line once a freed token is taken from its waiting claims. -/
def LineRec.freed (ru : Rush) (r : LineRec) : LineRec :=
  { r with waiting := r.waiting.map fun c => if c.rush = ru then { c with rush := .none } else c }

/-- R55: the pool once a freed token is taken from its waiting claims. -/
def Pool.freed (ru : Rush) (p : Pool) : Pool :=
  { p with waiting := p.waiting.map fun c => if c.rush = ru then { c with rush := .none } else c }

theorem freeToken_lines_length (t : Table) (ru : Rush) : (t.freeToken ru).lines.length = t.lines.length := List.length_map _

section
variable {ru : Rush} (token : ru ≠ .none)
include token

/-- R55: a claim whose rush is the freed token is one that carries a rush. -/
theorem carries_token_iff (rush : Rush) : (rush ≠ .none ∧ (rush == ru) = true) ↔ rush = ru := by
  rw [beq_iff_eq]
  exact ⟨And.right, fun carries => ⟨carries ▸ token, carries⟩⟩

theorem freeToken_line (t : Table) (n : Nat) : (t.freeToken ru).line n = (t.line n).map (LineRec.freed ru) := by
  have claims (r : LineRec) : { r with waiting := r.waiting.map fun c => { c with rush := loseRush (· == ru) c.rush } }
      = LineRec.freed ru r := by
    simp only [LineRec.freed, loseRush_claim, carries_token_iff token]
  unfold Table.freeToken Table.line
  simp only [claims, List.getElem?_map]
  rcases t.lines[n]? with _ | _ | r <;> rfl

theorem freeToken_pool (t : Table) : (t.freeToken ru).pool = t.pool.map (Pool.freed ru) := by
  unfold Table.freeToken
  simp only [loseRush_mixClaim, carries_token_iff token]
  rfl

/-- R55: the loss of the token changes a list of claims, of a line or of the pool, exactly when one of them carries it. -/
theorem map_freed_eq_self_iff {α : Type} (rush : α → Rush) (clear : α → α) (cleared : ∀ c, rush (clear c) = .none) (l : List α) :
    l.map (fun c => if rush c = ru then clear c else c) = l ↔ (l.any fun c => rush c == ru) = false := by
  have claim (c : α) : (if rush c = ru then clear c else c) = id c ↔ rush c ≠ ru := by
    refine ⟨fun same carries => token ?_, fun other => if_neg other⟩
    rw [if_pos carries] at same
    rw [← carries, ← cleared c, same, id]
  calc l.map (fun c => if rush c = ru then clear c else c) = l
    _ ↔ l.map (fun c => if rush c = ru then clear c else c) = l.map id := by rw [List.map_id]
    _ ↔ ∀ c ∈ l, rush c ≠ ru := by rw [List.map_inj_left]; simp only [claim]
    _ ↔ (l.any fun c => rush c == ru) = false := by simp

theorem lineFreed_eq_self_iff (r : LineRec) : LineRec.freed ru r = r ↔ (r.waiting.any fun c => c.rush == ru) = false := by
  rw [← map_freed_eq_self_iff token Claim.rush (fun c => { c with rush := .none }) fun _ => rfl]
  exact ⟨fun same => congrArg LineRec.waiting same, fun same => by rw [LineRec.freed, same]⟩

theorem poolFreed_eq_self_iff (p : Pool) : Pool.freed ru p = p ↔ (p.waiting.any fun c => c.rush == ru) = false := by
  rw [← map_freed_eq_self_iff token MixClaim.rush (fun c => { c with rush := .none }) fun _ => rfl]
  exact ⟨fun same => congrArg Pool.waiting same, fun same => by rw [Pool.freed, same]⟩

end

/-! ### The grants that follow (R49, R76) -/

theorem mem_grantMade_iff {line : Nat} {before after : LineRec} {e : Effect} : e ∈ grantMade line before after
    ↔ before.holder = none ∧ ∃ h, after.holder = some h ∧ e = .lineGranted line h := by
  cases free : before.holder with
  | some h => simp [grantMade_of_none line (.inl (by rw [free]; nofun))]
  | none =>
    cases held : after.holder with
    | none => simp [grantMade_of_none line (.inr held)]
    | some h => simp [grantMade_of_grant line free held]

/-- R98 (h): the grants are those of the lines that the take touched. -/
theorem mem_regrantLines_iff (reserve : Nat) {olds rs : List (Option LineRec)} (n : Nat) (e : Effect)
    (h : olds.length = rs.length) : e ∈ (regrantLines reserve n olds rs).2
      ↔ ∃ i r, rs[i]? = some (some r) ∧ olds[i]? ≠ some (some r) ∧ e ∈ grantMade (n + i) r (LineRec.grantChoice reserve r) := by
  induction olds generalizing rs n with
  | nil => rw [List.eq_nil_of_length_eq_zero h.symm]; simp [regrantLines]
  | cons old olds ih =>
    cases rs with
    | nil => cases h
    | cons r rs =>
      have tail := ih (n + 1) (Nat.succ.inj h)
      simp only [Nat.add_assoc, Nat.add_comm 1] at tail
      rw [← Nat.or_exists_add_one]
      simp only [List.getElem?_cons_zero, List.getElem?_cons_succ, ← tail]
      cases r with
      | none => simp [regrantLines]
      | some r =>
        by_cases same : old = some r <;> simp [regrantLines, same]

theorem regrant_effects (reserve : Nat) (before t : Table) : (Table.regrant reserve before t).2 =
    (regrantLines reserve 0 before.lines t.lines).2 ++ t.pool.elim [] fun p => if before.pool = some p then [] else p.grantChoice.2 := by
  unfold Table.regrant
  cases t.pool with
  | none => simp
  | some p => by_cases same : before.pool = some p <;> simp [same]

/-- The lines granted are those free before grant choice and held after it. -/
theorem mem_regrant_lines_iff (reserve : Nat) {before t : Table} (h : before.lines.length = t.lines.length) (e : Effect) :
    e ∈ (regrantLines reserve 0 before.lines t.lines).2 ↔ ∃ n r after h, t.line n = some r
      ∧ (Table.regrant reserve before t).1.line n = some after ∧ r.holder = none ∧ after.holder = some h
      ∧ e = .lineGranted n h := by
  rw [mem_regrantLines_iff reserve 0 e h]
  simp only [Nat.zero_add, mem_grantMade_iff, ← line_eq_some_iff, ne_eq]
  constructor
  · rintro ⟨n, r, hr, touched, free, h', held, rfl⟩
    refine ⟨n, r, _, h', hr, ?_, free, held, rfl⟩
    rw [regrant_line reserve before t h, hr, Option.map_some, if_neg touched]
  · rintro ⟨n, r, after, h', hr, granted, free, held, rfl⟩
    rw [regrant_line reserve before t h, hr, Option.map_some, Option.some.injEq] at granted
    split at granted
    · rw [← granted, free] at held
      cases held
    · next touched => exact ⟨n, r, hr, touched, free, h', granted ▸ held, rfl⟩

/-! ### RUSH DROP (R73) -/

/-- The token field of a RUSH DROP names a token. -/
theorem tokenOfCode_ne_none {token : Nat} {ru : Rush} (code : tokenOfCode token = some ru) : ru ≠ .none := by
  rintro rfl
  rcases token with _ | _ | n <;> cases code

section
variable {t : Table} {sender token : Nat} (reserve me : Nat) (present : t.isPresent sender = true)
include present

theorem rushDrop_discarded
    (h : tokenOfCode token = none ∨ ∃ ru, tokenOfCode token = some ru ∧ t.holdsToken sender ru = false) :
    t.rushDrop reserve me sender token = (t, bookIf me sender .dropDiscarded) := by
  rcases h with unknown | ⟨ru, code, lacks⟩
  · simp [Table.rushDrop, present, unknown]
  · simp [Table.rushDrop, present, code, lacks]

theorem rushDrop_frees {ru : Rush} (code : tokenOfCode token = some ru) (holds : t.holdsToken sender ru = true) :
    t.rushDrop reserve me sender token = ((Table.regrant reserve t (t.freeToken ru)).1,
    bookIf me sender .tokenDropped ++ (Table.regrant reserve t (t.freeToken ru)).2) := by
  simp [Table.rushDrop, present, code, holds]

end

section
variable {t : Table} (reserve : Nat) {ru : Rush} (token : ru ≠ .none)
include token

/-- R71, R73: the tokens once one is freed. -/
theorem dropped_tokens {tk : Tokens} (tokens : t.tokens = some tk) :
    (Table.regrant reserve t (t.freeToken ru)).1.tokens = some (if ru = .a then { tk with a := none } else { tk with b := none }) := by
  obtain ⟨kept, -, -⟩ := regrant_rest reserve t (t.freeToken ru)
  rw [kept, Table.freeToken, tokens]
  cases ru with
  | none => exact absurd rfl token
  | a => rfl
  | b => rfl

/-- R73: a line after a drop: grant choice runs where a claim that waits there carried the token. -/
theorem dropped_line {n : Nat} {r : LineRec} (hr : t.line n = some r) : (Table.regrant reserve t (t.freeToken ru)).1.line n =
    some (if r.waiting.any (fun c => c.rush == ru) then LineRec.grantChoice reserve (LineRec.freed ru r) else r) := by
  rw [regrant_line reserve t _ (freeToken_lines_length t ru).symm, freeToken_line token, hr]
  cases carries : r.waiting.any fun c => c.rush == ru <;>
    simp [eq_comm (a := r), lineFreed_eq_self_iff token, carries]

/-- R73: the pool after a drop: pool grant choice runs where a claim that waits there carried the token. -/
theorem dropped_pool {p : Pool} (hp : t.pool = some p) : (Table.regrant reserve t (t.freeToken ru)).1.pool =
    some (if p.waiting.any (fun c => c.rush == ru) then (Pool.grantChoice (Pool.freed ru p)).1 else p) := by
  rw [regrant_pool, freeToken_pool token, hp]
  cases carries : p.waiting.any fun c => c.rush == ru <;>
    simp [eq_comm (a := p), poolFreed_eq_self_iff token, carries]

/-- R73, R84: the mixers granted at a drop. -/
theorem dropped_poolGrants {p : Pool} (hp : t.pool = some p) :
    ((t.freeToken ru).pool.elim [] fun q => if t.pool = some q then [] else q.grantChoice.2) =
      if p.waiting.any (fun c => c.rush == ru) then (Pool.grantChoice (Pool.freed ru p)).2 else [] := by
  rw [freeToken_pool token, hp]
  cases carries : p.waiting.any fun c => c.rush == ru <;>
    simp [eq_comm (a := p), poolFreed_eq_self_iff token, carries]

/-- R73, R84: the lines granted at a drop are those free before it and held after it. -/
theorem mem_dropped_lines_iff (e : Effect) : e ∈ (regrantLines reserve 0 t.lines (t.freeToken ru).lines).2
    ↔ ∃ n r after h, t.line n = some r ∧ (Table.regrant reserve t (t.freeToken ru)).1.line n = some after
      ∧ r.holder = none ∧ after.holder = some h ∧ e = .lineGranted n h := by
  rw [mem_regrant_lines_iff reserve (freeToken_lines_length t ru).symm]
  simp only [freeToken_line token, Option.map_eq_some_iff]
  constructor
  · rintro ⟨n, _, after, h, ⟨r, hr, rfl⟩, granted, free, held, rfl⟩
    exact ⟨n, r, after, h, hr, granted, free, held, rfl⟩
  · rintro ⟨n, r, after, h, hr, granted, free, held, rfl⟩
    exact ⟨n, _, after, h, ⟨r, hr, rfl⟩, granted, free, held, rfl⟩

end

/-! ### MIX CLAIM and MIX WITHDRAW (R79, R80) -/

section
variable {t : Table} {p : Pool} {sender time level rush : Nat} (me : Nat)
  (present : t.isPresent sender = true) (pool : t.pool = some p)

theorem waits_iff (p : Pool) (sender : Nat) : (p.waiting.any fun c => c.station == sender) = true
    ↔ ∃ c ∈ p.waiting, c.station = sender := by
  simp

theorem waits_eq_false_iff (p : Pool) (sender : Nat) : (p.waiting.any fun c => c.station == sender) = false
    ↔ ∀ c ∈ p.waiting, c.station ≠ sender := by
  simp

include present pool

theorem mixClaim_duplicate (waits : ∃ c ∈ p.waiting, c.station = sender) :
    t.mixClaim me sender time level rush = (t, bookIf me sender (.mixClaimDiscarded .duplicate)) := by
  simp only [Table.mixClaim, present, pool, (waits_iff p sender).2 waits]
  rfl

theorem mixClaim_badField (waits : ∀ c ∈ p.waiting, c.station ≠ sender)
    (bad : time < 10 ∨ 300 < time ∨ 2 < level ∨ rushOfCode rush = none) :
    t.mixClaim me sender time level rush = (t, bookIf me sender (.mixClaimDiscarded .badField)) := by
  have invalid : (inRange 10 300 time && level ≤ 2 && (rushOfCode rush).isSome) = false := by
    rw [Bool.and_eq_false_iff, Bool.and_eq_false_iff, inRange_eq_false_iff, decide_eq_false_iff_not, Nat.not_le,
      Option.isSome_eq_false_iff, Option.isNone_iff_eq_none]
    simpa [or_assoc] using bad
  simp only [Table.mixClaim, present, pool, (waits_eq_false_iff p sender).2 waits, invalid]
  rfl

/-- R79: a MIX CLAIM discarded, for either reason. -/
theorem mixClaim_discarded (h : (∃ c ∈ p.waiting, c.station = sender) ∨ time < 10 ∨ 300 < time ∨ 2 < level
      ∨ rushOfCode rush = none) :
    ∃ reason, t.mixClaim me sender time level rush = (t, bookIf me sender (.mixClaimDiscarded reason)) := by
  by_cases waits : ∃ c ∈ p.waiting, c.station = sender
  · exact ⟨_, mixClaim_duplicate me present pool waits⟩
  · exact ⟨_, mixClaim_badField me present pool (fun c hc own => waits ⟨c, hc, own⟩) (h.resolve_left waits)⟩

/-- R79: a valid MIX CLAIM is appended with the rush as kept, and pool grant choice runs; the tell comes before the grants. -/
theorem mixClaim_waits {ru kept : Rush} {g : Pool × List Effect} (waits : ∀ c ∈ p.waiting, c.station ≠ sender)
    (fields : 10 ≤ time ∧ time ≤ 300 ∧ level ≤ 2) (code : rushOfCode rush = some ru)
    (hkept : kept = (if t.holdsToken sender ru then ru else .none))
    (hg : g = Pool.grantChoice { p with waiting := p.waiting ++
      [{ station := sender, mixTime := time, requested := level, effective := level, passed := 0, rush := kept }] }) :
    t.mixClaim me sender time level rush = ({ t with pool := some g.1 }, bookIf me sender (.mixClaimWaits kept) ++ g.2) := by
  obtain ⟨short, long, low⟩ := fields
  have rushKept : t.keptRush sender ru = kept := hkept.symm
  simp only [Table.mixClaim, Table.touchPool, present, pool, (waits_eq_false_iff p sender).2 waits,
    (inRange_iff _ _ _).2 ⟨short, long⟩, low, code, rushKept, Option.getD_some, hg]
  rfl

theorem mixWithdraw_removes {g : Pool × List Effect} (waits : ∃ c ∈ p.waiting, c.station = sender)
    (hg : g = Pool.grantChoice { p with waiting := p.waiting.filter fun c => c.station != sender }) :
    t.mixWithdraw me sender = ({ t with pool := some g.1 }, bookIf me sender .mixClaimWithdrawn ++ g.2) := by
  simp only [Table.mixWithdraw, Table.touchPool, present, pool, (waits_iff p sender).2 waits, hg]
  rfl

theorem mixWithdraw_discarded (waits : ∀ c ∈ p.waiting, c.station ≠ sender) :
    t.mixWithdraw me sender = (t, bookIf me sender .mixWithdrawDiscarded) := by
  simp only [Table.mixWithdraw, present, pool, (waits_eq_false_iff p sender).2 waits]
  rfl

end

/-! ### MIX RELEASE and MIXER RETURN (R81, R82) -/

theorem mixOutcomeOfCode_eq_none_iff (outcome : Nat) : mixOutcomeOfCode outcome = none ↔ 2 < outcome := by
  rcases outcome with _ | _ | _ | n <;> simp [mixOutcomeOfCode]

/-- R81: the state that the outcome of a MIX RELEASE gives the mixer. -/
theorem mixOutcome_of_le {outcome : Nat} (known : outcome ≤ 2) : ∃ o, mixOutcomeOfCode outcome = some o
    ∧ mixerAfter o = if outcome = 0 then .free else .out := by
  rcases outcome with _ | _ | _ | n
  · exact ⟨.done, rfl, rfl⟩
  · exact ⟨.fault, rfl, rfl⟩
  · exact ⟨.blocked, rfl, rfl⟩
  · omega

section
variable {t : Table} {p : Pool} {sender mixer grant outcome : Nat} (me : Nat)
  (present : t.isPresent sender = true) (pool : t.pool = some p)
include present pool

theorem mixRelease_unequipped (unequipped : p.recs[mixer]? = none) :
    t.mixRelease me sender mixer grant outcome = (t, bookIf me sender (.mixReleaseRefused .notEquipped)) := by
  simp [Table.mixRelease, present, pool, unequipped]

section
variable {r : MixRec} (hr : p.recs[mixer]? = some r)
include hr

theorem mixRelease_badField (bad : 2 < outcome) :
    t.mixRelease me sender mixer grant outcome = (t, bookIf me sender (.mixReleaseRefused .badField)) := by
  simp [Table.mixRelease, present, pool, hr, (mixOutcomeOfCode_eq_none_iff outcome).2 bad]

theorem mixRelease_late (known : outcome ≤ 2) (unmatched : r.state ≠ .held ∨ r.holder ≠ some sender ∨ r.grant ≠ grant) :
    t.mixRelease me sender mixer grant outcome = (t, bookIf me sender .mixReleaseLate) := by
  obtain ⟨o, code, -⟩ := mixOutcome_of_le known
  have differs : mixerMatches sender grant r = false := by
    rw [← Bool.not_eq_true, mixerMatches_iff]
    tauto
  simp [Table.mixRelease, present, pool, hr, code, differs]

/-- R81: a MIX RELEASE that matches no holding, or has an outcome outside its range, is discarded. -/
theorem mixRelease_discarded (h : r.state ≠ .held ∨ r.holder ≠ some sender ∨ r.grant ≠ grant ∨ 2 < outcome) :
    ∃ tell, t.mixRelease me sender mixer grant outcome = (t, bookIf me sender tell) := by
  by_cases bad : 2 < outcome
  · exact ⟨_, mixRelease_badField me present pool hr bad⟩
  · exact ⟨_, mixRelease_late me present pool hr (Nat.le_of_not_lt bad) (by tauto)⟩

/-- R81: a MIX RELEASE that matches ends the holding; pool grant choice runs, and its grants come after the tell. -/
theorem mixRelease_applies {st : MixerState} {g : Pool × List Effect} (known : outcome ≤ 2) (held : r.state = .held)
    (holder : r.holder = some sender) (number : r.grant = grant) (hst : st = if outcome = 0 then .free else .out)
    (hg : g = Pool.grantChoice
      { p with recs := p.recs.set mixer { state := st, holder := none, grant := r.grant, mixTime := none } }) :
    t.mixRelease me sender mixer grant outcome = ({ t with pool := some g.1 },
      .mixerEnded mixer sender grant :: bookIf me sender (.mixReleaseApplied st) ++ g.2) := by
  obtain ⟨o, code, gives⟩ := mixOutcome_of_le known
  have matched : mixerMatches sender grant r = true := (mixerMatches_iff sender grant r).2 ⟨held, holder, number⟩
  simp only [Table.mixRelease, Table.touchPool, present, pool, hr, code, matched, gives.trans hst.symm, hg]
  rfl

theorem mixerReturn_frees {g : Pool × List Effect} (out : r.state = .out)
    (hg : g = Pool.grantChoice { p with recs := p.recs.set mixer { r with state := .free } }) :
    t.mixerReturn sender mixer = ({ t with pool := some g.1 }, g.2) := by
  simp [Table.mixerReturn, Table.touchPool, present, pool, hr, out, hg]

theorem mixerReturn_discarded (notOut : r.state ≠ .out) : t.mixerReturn sender mixer = (t, []) := by
  simp [Table.mixerReturn, Table.same, present, pool, hr, notOut]

end

end

end Sys2Proof.Machine

namespace Sys2Proof

open Machine

/-- Settles O18: a RUSH TAKE by which tokens are free, and a RUSH DROP by what the freed token leaves of each record. -/
theorem rushTokensAreTakenAndDropped : Obligations.RushTokensAreTakenAndDropped := by
  refine ⟨fun s sender tag tk member present tokens => ?_, fun s sender token tk member present tokens => ?_,
    fun s sender tag tk take tell member present tokens htake htell => ?_,
    fun s sender token take tell member present htake htell => ?_⟩
  · obtain ⟨t, ht, outside, bt⟩ := exec_poolTake_table (c := .rushTakeTaken sender tag) rfl rfl member present
    refine ⟨t, ht, outside, fun low high notA notB => ⟨fun freeA => ?_, fun heldA freeB => ?_, fun heldA heldB => ?_⟩,
      fun refused => ?_⟩
    · exact bt _ _ (rushTake_takesA _ present tokens low high notA notB freeA)
    · exact bt _ _ (rushTake_takesB _ present tokens low high notA notB heldA freeB)
    · exact bt _ _ (rushTake_noneFree _ present tokens low high notA notB heldA heldB)
    · obtain ⟨reason, rule⟩ := rushTake_refused s.me present tokens refused
      exact bt _ _ rule
  · obtain ⟨t, ht, outside, bt⟩ := exec_poolTake_table (c := .rushDropTaken sender token) rfl rfl member present
    refine ⟨t, ht, outside, ?_, fun ru code holds => ?_, fun h => bt _ _ (rushDrop_discarded _ _ present h)⟩
    · rw [bt _ _ Prod.mk.eta.symm]
      exact takeOther_roster _ _ _ _ _ _ nofun nofun
    · have names := tokenOfCode_ne_none code
      rw [bt _ _ (rushDrop_frees _ _ present code holds)]
      exact ⟨dropped_tokens _ names tokens, fun n r hr => dropped_line _ names hr, fun p hp => dropped_pool _ names hp⟩
  · subst htake htell
    refine ⟨fun bad => exec_poolTake rfl rfl member present (rushTake_badField _ present tokens bad), fun low high =>
      ⟨fun holds => exec_poolTake rfl rfl member present (rushTake_tagHolds _ present tokens low high holds),
        fun notA notB => ⟨fun freeA => ?_, fun heldA freeB => ?_, fun heldA heldB => ?_⟩⟩⟩
    · exact exec_poolTake rfl rfl member present (rushTake_takesA _ present tokens low high notA notB freeA)
    · exact exec_poolTake rfl rfl member present (rushTake_takesB _ present tokens low high notA notB heldA freeB)
    · exact exec_poolTake rfl rfl member present (rushTake_noneFree _ present tokens low high notA notB heldA heldB)
  · subst htake htell
    refine ⟨fun h => exec_poolTake rfl rfl member present (rushDrop_discarded _ _ present h), fun ru code holds =>
      ⟨_, _, _, exec_poolTake rfl rfl member present ?_, mem_dropped_lines_iff s.bay.reserve (tokenOfCode_ne_none code),
        fun hp => ?_, fun p => dropped_poolGrants (tokenOfCode_ne_none code)⟩⟩
    · exact (rushDrop_frees _ _ present code holds).trans (by rw [regrant_effects])
    · rw [freeToken_pool (tokenOfCode_ne_none code), hp]
      rfl

/-- Settles O19, by the rules of MIX CLAIM and MIX WITHDRAW and by the reasons of a discard. -/
theorem mixClaimAndMixWithdrawTakes : Obligations.MixClaimAndMixWithdrawTakes := by
  refine ⟨fun s sender time level rush p member present pool => ⟨?_, ?_⟩,
    fun s sender time level rush p take tell member present pool htake htell =>
      ⟨fun ru kept g waits short long low code hkept hg => ?_, fun waits => ?_, fun waits bad => ?_⟩,
    fun s sender p take tell member present pool htake htell => ⟨fun g waits hg => ?_, fun waits => ?_⟩⟩
  · obtain ⟨t, ht, outside, bt⟩ :=
      exec_poolTake_table (c := .mixClaimTaken sender time level rush) rfl rfl member present
    refine ⟨t, ht, outside, fun ru waits short long low code => ?_, fun discarded => ?_⟩
    · exact bt _ _ (mixClaim_waits _ present pool waits ⟨short, long, low⟩ code rfl rfl)
    · obtain ⟨reason, rule⟩ := mixClaim_discarded s.me present pool discarded
      exact bt _ _ rule
  · obtain ⟨t, ht, outside, bt⟩ := exec_poolTake_table (c := .mixWithdrawTaken sender) rfl rfl member present
    exact ⟨t, ht, outside, fun waits => bt _ _ (mixWithdraw_removes _ present pool waits rfl),
      fun waits => bt _ _ (mixWithdraw_discarded _ present pool waits)⟩
  all_goals subst htake htell
  · exact exec_poolTake rfl rfl member present (mixClaim_waits _ present pool waits ⟨short, long, low⟩ code hkept hg)
  · exact exec_poolTake rfl rfl member present (mixClaim_duplicate _ present pool waits)
  · exact exec_poolTake rfl rfl member present (mixClaim_badField _ present pool waits bad)
  · exact exec_poolTake rfl rfl member present (mixWithdraw_removes _ present pool waits hg)
  · exact exec_poolTake rfl rfl member present (mixWithdraw_discarded _ present pool waits)

/-- Settles O20, by the rule of a MIX RELEASE for each outcome and each refusal, and by the state of the mixer returned. -/
theorem mixReleaseAndMixerReturnTakes : Obligations.MixReleaseAndMixerReturnTakes := by
  refine ⟨fun s sender mixer grant outcome p r member present pool hr => ⟨?_, ?_⟩,
    fun s sender mixer grant outcome p take tell member present pool htake htell =>
      ⟨fun unequipped => ?_, fun r hr => ⟨fun bad => ?_, fun known unmatched => ?_,
        fun st g known held holder number hst hg => ?_, fun g out hg => ?_⟩⟩⟩
  · obtain ⟨t, ht, outside, bt⟩ :=
      exec_poolTake_table (c := .mixReleaseTaken sender mixer grant outcome) rfl rfl member present
    refine ⟨t, ht, outside, fun held holder number known => ?_, fun discarded => ?_⟩
    · exact bt _ _ (mixRelease_applies _ present pool hr known held holder number rfl rfl)
    · obtain ⟨tell, rule⟩ := mixRelease_discarded s.me present pool hr discarded
      exact bt _ _ rule
  · obtain ⟨t, ht, outside, bt⟩ := exec_poolTake_table (c := .mixerReturnTaken sender mixer) rfl rfl member present
    exact ⟨t, ht, outside, fun out => bt _ _ (mixerReturn_frees present pool hr out rfl),
      fun notOut => bt _ _ (mixerReturn_discarded present pool hr notOut)⟩
  all_goals subst htake htell
  · exact exec_poolTake rfl rfl member present (mixRelease_unequipped _ present pool unequipped)
  · exact exec_poolTake rfl rfl member present (mixRelease_badField _ present pool hr bad)
  · exact exec_poolTake rfl rfl member present (mixRelease_late _ present pool hr known unmatched)
  · exact exec_poolTake rfl rfl member present (mixRelease_applies _ present pool hr known held holder number hst hg)
  · exact exec_poolTake rfl rfl member present (mixerReturn_frees present pool hr out hg)

end Sys2Proof
end

section
/-! The hold timers (R88, R90 to R94, R117, R148): what starts, stops and expires one, and what a take leaves of each. -/

namespace Sys2Proof.Machine

/-! ### A timer that starts, stops or expires -/

/-- The own timer, of a holder that is this station. -/
theorem holdingTimer_own {s : State} {holder : Nat} (own : holder = s.me) (grant limit : Nat) :
    s.holdingTimer holder grant limit =
      { state := .running, role := .own, holder := holder, grant := grant, runTime := limit } := by
  simp [State.holdingTimer, own]

/-- R88: the timer started for a holding, by whether the holder is this station. -/
theorem timer_startTimer_by_role {s : State} {key : HoldKey} (holder grant limit : Nat) (h : timerIndex key < s.htb.length) :
    (s.startTimer key holder grant limit).timer (timerIndex key) =
      if holder = s.me then { state := .running, role := .own, holder := holder, grant := grant, runTime := limit }
      else { state := .running, role := .watch, holder := holder, grant := grant,
             runTime := limit + 1000 * s.bay.grace + 100 * s.me } := by
  rw [timer_startTimer_self holder grant limit h]
  split
  · next own => exact holdingTimer_own own grant limit
  · next other => exact holdingTimer_watch other grant limit

/-- A timer that runs is one of the bank's. -/
theorem timer_lt_of_running {s : State} {i : Nat} (runs : (s.timer i).state = .running) : i < s.htb.length := by
  by_contra beyond
  rw [State.timer, List.getD_eq_default _ _ (Nat.le_of_not_lt beyond)] at runs
  cases runs

theorem State.timer_of_htb {s t : State} (h : t.htb = s.htb) (i : Nat) : t.timer i = s.timer i := by
  rw [State.timer, State.timer, h]

theorem timer_endHolding_self {s : State} {key : HoldKey} (holder grant : Nat) (h : timerIndex key < s.htb.length) :
    (s.endHolding key holder grant).timer (timerIndex key) = { s.timer (timerIndex key) with state := .stopped } :=
  s.timer_modTimer_self _ _ h

theorem timer_endHolding_ne {s : State} {key : HoldKey} (holder grant : Nat) {i : Nat} (h : i ≠ timerIndex key) :
    (s.endHolding key holder grant).timer i = s.timer i := s.timer_modTimer_ne _ _ _ h.symm

theorem isRevokeOf_iff (key : HoldKey) (holder grant : Nat) (e : Entry) :
    isRevokeOf key holder grant e = true ↔ e.notice = .revoke key holder grant := beq_iff_eq

theorem timer_expireTimer {s : State} {key : HoldKey} (runs : (s.timer (timerIndex key)).state = .running) :
    (s.expireTimer key).timer (timerIndex key) = { s.timer (timerIndex key) with state := .expired } :=
  s.timer_modTimer_self _ _ (timer_lt_of_running runs)

/-! ### The holding that a timer watches (R93) -/

theorem shows_line_iff (t : Table) (n holder grant : Nat) : t.shows (.line n) holder grant = true
    ↔ ∃ r h, t.line n = some r ∧ r.holder = some h ∧ h.station = holder ∧ h.grant = grant := by
  simp [Table.shows, Option.any_eq_true, releaseMatches_iff]

theorem shows_mixer_iff (t : Table) (m holder grant : Nat) : t.shows (.mixer m) holder grant = true
    ↔ ∃ p r, t.pool = some p ∧ p.recs[m]? = some r ∧ r.state = .held ∧ r.holder = some holder ∧ r.grant = grant := by
  simp [Table.shows, Option.any_eq_true, mixerMatches_iff]

/-! ### The expiries (R91 to R93) -/

section
variable {s : State}

theorem canExpire_of_running {key : HoldKey} {role : TimerRole} (runs : (s.timer (timerIndex key)).state = .running)
    (has : (s.timer (timerIndex key)).role = role) : s.canExpire key role = true := by
  simp [State.canExpire, runs, has]

theorem watchTimerExpiry_shown {key : HoldKey} (can : s.canExpire key .watch = true)
    (shown : s.bt.shows key (s.timer (timerIndex key)).holder (s.timer (timerIndex key)).grant = true) :
    s.watchTimerExpiry key = (s.expireTimer key).offer
      (.revoke key (s.timer (timerIndex key)).holder (s.timer (timerIndex key)).grant) .holdTimers := by
  simp only [State.watchTimerExpiry, can, shown, if_true]

theorem watchTimerExpiry_gone {key : HoldKey} (can : s.canExpire key .watch = true)
    (gone : s.bt.shows key (s.timer (timerIndex key)).holder (s.timer (timerIndex key)).grant = false) :
    s.watchTimerExpiry key = s.expireTimer key := by
  simp [State.watchTimerExpiry, can, gone]

theorem ownLineTimerExpiry_worked {line k : Nat} (can : s.canExpire (.line line) .own = true) (works : s.worker line = some k) :
    s.ownLineTimerExpiry line = ((s.expireTimer (.line line)).ownLimit k).settle := by
  simp only [State.ownLineTimerExpiry, can, works, if_true]

theorem ownMixerTimerExpiry_mixing {m slot : Nat} (can : s.canExpire (.mixer m) .own = true) (mixing : s.mixingOn m = some slot) :
    s.ownMixerTimerExpiry m =
      (((s.expireTimer (.mixer m)).dropRunOf slot m).endMix slot m .fault .mixIncomplete .mixerFault).settle := by
  simp only [State.ownMixerTimerExpiry, can, mixing, if_true]

end

/-! ### The own limit of a SHOOTING channel (R117) -/

theorem ownLimit_shooting {s : State} {k : Nat} (st : (s.dc k).state = .shooting) (cause : (s.dc k).stopCause = .none) :
    s.ownLimit k = (s.modMp k (Pair.cut false)).modDc k fun c => { c with stopCause := .ownLimit } := by
  simp only [State.ownLimit, st, cause]

/-- R131: the pair of a SHOOTING channel drains once it is cut, its pump request standing. -/
theorem cut_of_coupled_shooting {c : Channel} {p : Pair} (agree : coupled c p = true) (st : c.state = .shooting) :
    p.cut false = { p with valve := false, valveTimer := none, phase := .drain } := by
  simp only [coupled, st, Bool.or_eq_true, beq_iff_eq] at agree
  rcases agree with (opened | closed) | drains
  · simp [Pair.cut, opened]
  · simp [Pair.cut, closed]
  · simp [Pair.cut, drains]

/-- R117: a SHOOTING channel takes the own limit as its stop cause and its pair drains; nothing else is touched. -/
theorem ownLimit_drains {s : State} {k : Nat} (channels : k < s.dcs.length) (pairs : k < s.mps.length)
    (agree : coupled (s.dc k) (s.mp k) = true) (st : (s.dc k).state = .shooting)
    (cause : (s.dc k).stopCause = .none) :
    (s.ownLimit k).dc k = { s.dc k with stopCause := .ownLimit }
      ∧ (s.ownLimit k).mp k = { s.mp k with valve := false, valveTimer := none, phase := .drain }
      ∧ (∀ j, j ≠ k → (s.ownLimit k).dc j = s.dc j ∧ (s.ownLimit k).mp j = s.mp j)
      ∧ (s.ownLimit k).obu = s.obu ∧ (s.ownLimit k).blu = s.blu ∧ (s.ownLimit k).pdu = s.pdu
      ∧ (s.ownLimit k).tlu = s.tlu := by
  rw [ownLimit_shooting st cause, ← cut_of_coupled_shooting agree st]
  exact ⟨(s.modMp k _).dc_modDc_self k _ channels, s.mp_modMp_self k _ pairs, fun j ne =>
    ⟨(s.modMp k _).dc_modDc_ne k j _ ne.symm, s.mp_modMp_ne k j _ ne.symm⟩, rfl, rfl, rfl, rfl⟩

theorem coupled_at_of_dosingLawful {s : State} {k : Nat} (lawful : s.dosingLawful = true) (hk : k < 4) :
    k < s.dcs.length ∧ k < s.mps.length ∧ coupled (s.dc k) (s.mp k) = true := by
  simp only [State.dosingLawful, Bool.and_eq_true, beq_iff_eq, List.all_eq_true, List.mem_range] at lawful
  obtain ⟨⟨channels, pairs⟩, agree⟩ := lawful
  exact ⟨channels ▸ hk, pairs ▸ hk, (agree k hk).1⟩

/-! ### An order whose mixer timer runs out (R148) -/

section
variable {s : State} {slot m : Nat} {o : Order}

theorem dropRunOf_raised (ho : s.order slot = some o) (raised : o.runRaised = true) : s.dropRunOf slot m = s.dropRun m := by
  simp [State.dropRunOf, ho, raised]

theorem dropRunOf_unraised (ho : s.order slot = some o) (unraised : o.runRaised = false) : s.dropRunOf slot m = s := by
  simp [State.dropRunOf, ho, unraised]

theorem dropRunOf_obu (s : State) (slot m : Nat) : (s.dropRunOf slot m).obu = s.obu := by
  unfold State.dropRunOf
  split
  · exact State.dropRun_obu s m
  · rfl

theorem dropRunOf_blu (s : State) (slot m : Nat) : (s.dropRunOf slot m).blu = s.blu := by
  unfold State.dropRunOf
  split
  · exact State.dropRun_blu s m
  · rfl

theorem endMix_pdu (s : State) (slot m : Nat) (out : MixOutcome) (outcome : OrderOutcome) (reason : OrderReason) :
    (s.endMix slot m out outcome reason).pdu = s.pdu := by
  rw [State.endMix, State.finish, dropToken_eq]
  rfl

theorem endMix_run (s : State) (slot m j : Nat) (out : MixOutcome) (outcome : OrderOutcome) (reason : OrderReason) :
    (s.endMix slot m out outcome reason).run j = s.run j := by
  rw [State.run, endMix_pdu, ← State.run]

/-- R148, R150: the order that gives its holding back ends, its MIX RELEASE offered before the token it may hold. -/
theorem endMix_ordersEnd (ho : s.order slot = some o) (out : MixOutcome) (outcome : OrderOutcome) (reason : OrderReason) :
    s.ordersEnd (s.endMix slot m out outcome reason)
      (s.blu.offer (.mixRelease m ((o.mixGrant.map MixGrant.number).getD 0) (mixOutcomeCode out)) .book).1
      slot o outcome reason := by
  have ended := finish_ordersEnd (s.offerMixRelease .book m ((o.mixGrant.map MixGrant.number).getD 0) out) slot o outcome reason ho
  rw [State.endMix, ho]
  exact ended

end

/-! ### The timers through a take -/

/-- R88, R90: the holding whose timer an effect of a take starts or stops. -/
def Effect.holding : Effect → Option HoldKey
  | .lineEnded line _ | .lineGranted line _ => some (.line line)
  | .mixerEnded m _ _ | .mixerGranted m _ _ _ => some (.mixer m)
  | .tellLine _ _ | .tellBook _ => none

/-- An effect leaves the timer of every holding but its own. -/
theorem applyEffect_timer_ne {s : State} {e : Effect} {i : Nat} (other : ∀ key, e.holding = some key → timerIndex key ≠ i) :
    (s.applyEffect e).timer i = s.timer i := by
  have started (key : HoldKey) (holder grant limit : Nat) (ne : timerIndex key ≠ i) :=
    timer_startTimer_ne (s := s) holder grant limit ne
  cases e with
  | lineEnded line h => exact timer_endHolding_ne _ _ (other _ rfl).symm
  | mixerEnded m station grant => exact timer_endHolding_ne _ _ (other _ rfl).symm
  | lineGranted line h =>
    refine Eq.trans ?_ (started (.line line) h.station h.grant (s.lineLimit line) (other _ rfl))
    simp only [State.applyEffect, State.lineGranted]
    repeat' split
    · exact State.timer_of_htb (sameBay_grantTell _ _ _).htb i
    · rfl
    · rfl
  | mixerGranted m station grant time =>
    refine Eq.trans ?_ (started (.mixer m) station grant (s.mixerLimit time) (other _ rfl))
    simp only [State.applyEffect]
    split
    · exact State.timer_of_htb (sameBay_mixerGranted _ _ _ _).htb i
    · rfl
  | tellLine line tell =>
    simp only [State.applyEffect]
    split
    · exact State.timer_of_htb (sameBay_lineTell s _ _).htb i
    · rfl
  | tellBook tell => exact State.timer_of_htb (sameBay_bookTell s tell).htb i

theorem applyEffects_timer_ne {s : State} {es : List Effect} {i : Nat}
    (other : ∀ e ∈ es, ∀ key, e.holding = some key → timerIndex key ≠ i) : (s.applyEffects es).timer i = s.timer i := by
  induction es generalizing s with
  | nil => rfl
  | cons e es ih =>
    exact (ih fun e' he' => other e' (List.mem_cons_of_mem e he')).trans (applyEffect_timer_ne (other e List.mem_cons_self))

theorem cursorBegin_htb (s : State) : s.cursorBegin.htb = s.htb := by
  unfold State.cursorBegin State.cursorOffer
  repeat' split
  all_goals rfl

theorem cursorDrop_htb (s : State) (station : Nat) : (s.cursorDrop station).htb = s.htb := by
  simp only [State.cursorDrop]
  split
  · exact cursorBegin_htb _
  · rfl

theorem dropAbsent_htb (t : Table) (s : State) (l : List Joiner) : (dropAbsent t s l).htb = s.htb := by
  induction l generalizing s with
  | nil => rfl
  | cons j l ih =>
    refine (ih _).trans ?_
    simp only
    split
    · exact cursorDrop_htb s _
    · rfl

/-- R90: the timers once the holdings that a take ends are ended. -/
theorem pruned_timer (s : State) (t : Table) (es : List Effect) (i : Nat) :
    (s.pruned t es).timer i = ((s.modBt fun _ => t).applyEffects (es.filter Effect.ends)).timer i :=
  State.timer_of_htb (dropAbsent_htb _ _ _) i

/-- R88, R90: a take acts on a timer that none of its grants starts only as the holdings that it ends do. -/
theorem takenBy_timer {s : State} {sender : Nat} {n : Notice} {t : Table} {es : List Effect} {i : Nat}
    (other : ∀ e ∈ es, e.ends = false → ∀ key, e.holding = some key → timerIndex key ≠ i) :
    (s.takenBy sender n t es).timer i
      = (((s.bookTake sender n).modBt fun _ => t).applyEffects (es.filter Effect.ends)).timer i := by
  have untouched : ∀ e ∈ es.filter (fun e => !e.ends), ∀ key, e.holding = some key → timerIndex key ≠ i := fun e he => by
    obtain ⟨mem, goes_on⟩ := List.mem_filter.1 he
    exact other e mem (by simpa using goes_on)
  calc (s.takenBy sender n t es).timer i
    _ = ((s.bookTake sender n).takeEffects t es id).timer i := State.timer_of_htb (sameBay_settle _).htb i
    _ = ((s.bookTake sender n).pruned t es).timer i := applyEffects_timer_ne untouched
    _ = _ := pruned_timer _ t es i

/-- R90: a take that ends one line's holding, and grants none, stops that line's timer and no other. -/
theorem takenBy_timer_of_ended {s : State} (sender : Nat) (n : Notice) (t : Table) {line : Nat} (h : Holder)
    {tells : List Effect} (told : ∀ e ∈ tells, e.ends = false ∧ e.holding = none) (lt : line < s.htb.length) :
    (s.takenBy sender n t (.lineEnded line h :: tells)).timer line = { s.timer line with state := .stopped }
      ∧ ∀ i, i ≠ line → (s.takenBy sender n t (.lineEnded line h :: tells)).timer i = s.timer i := by
  have htb := bookTake_htb s sender n
  have booked (i : Nat) : ((s.bookTake sender n).modBt fun _ => t).timer i = s.timer i := State.timer_of_htb htb i
  have ending : (Effect.lineEnded line h :: tells).filter Effect.ends = [.lineEnded line h] := by
    rw [List.filter_cons_of_pos rfl, List.filter_eq_nil_iff.2 fun e he => by simp [(told e he).1]]
  have ended (i : Nat) : (s.takenBy sender n t (.lineEnded line h :: tells)).timer i =
      (((s.bookTake sender n).modBt fun _ => t).endHolding (.line line) h.station h.grant).timer i := by
    rw [takenBy_timer, ending]
    · rfl
    · intro e mem goes_on key named
      rcases List.mem_cons.1 mem with rfl | tell
      · cases goes_on
      · rw [(told e tell).2] at named
        cases named
  refine ⟨?_, fun i ne => ?_⟩
  · rw [ended, ← booked line]
    exact timer_endHolding_self (key := .line line) _ _ (by rwa [State.modBt_htb, htb])
  · rw [ended, ← booked i]
    exact timer_endHolding_ne (key := .line line) _ _ ne

/-- R52, R61: a GOOD RELEASE of a line that no claim waits for ends the holding and grants nothing. -/
theorem release_good_unclaimed {t : Table} {sender line drops : Nat} {r : LineRec} {h : Holder} (reserve me : Nat)
    (present : t.isPresent sender = true) (hr : t.line line = some r) (holder : r.holder = some h)
    (station : h.station = sender) (few : drops ≤ 16383) (unclaimed : r.waiting = []) :
    t.release reserve me sender line h.grant drops 0 = (t.setLine line { r with holder := none, level := r.level - drops },
      .lineEnded line h :: tellIf me sender line (.releaseApplied (r.level - drops))) := by
  have stands : LineRec.grantChoice reserve { r with holder := none, level := r.level - drops }
      = { r with holder := none, level := r.level - drops } :=
    grantChoice_stands (.inr (.inr (best_none_iff.2 (by simp [unclaimed]))))
  rw [release_good_or_short reserve me present hr holder station rfl few (.inl ⟨rfl, rfl⟩) stands.symm,
    grantMade_of_none line (.inr rfl), List.append_nil]

theorem mem_tellIf {me station line : Nat} {tell : LineTell} {e : Effect} (h : e ∈ tellIf me station line tell) :
    e = .tellLine line tell := by
  unfold tellIf at h
  split at h
  · exact List.mem_singleton.1 h
  · cases h

end Sys2Proof.Machine

namespace Sys2Proof

open Machine

/-- Settles O32: the timers by the operation that starts, stops or expires each, a RELEASE by the rule of its take, and the two
own expiries by the channel or the order they find. -/
theorem holdTimersRunAndExpire : Obligations.HoldTimersRunAndExpire := by
  refine ⟨fun s n m holder grant mixTime hn hm bank => ?_, fun s key runs watch => ?_,
    fun t n m holder grant => ⟨shows_line_iff t n holder grant, shows_mixer_iff t m holder grant⟩,
    fun s key holder grant lt => ⟨timer_endHolding_self holder grant lt, fun i ne => timer_endHolding_ne holder grant ne, rfl,
      isRevokeOf_iff key holder grant⟩,
    fun s sender line drops r h member present hr holder station unclaimed few lt => ?_,
    fun s line k hk lawful runs own works st cause => ?_, fun s m slot o _ runs own mixing ho raises => ?_⟩
  · refine ⟨?_, ?_, fun i ne => timer_startTimer_ne (key := .line n) _ _ _ ne.symm,
      fun i ne => timer_startTimer_ne (key := .mixer m) _ _ _ ne.symm⟩
    · exact timer_startTimer_by_role (key := .line n) holder grant _ (by rw [timerIndex, bank]; omega)
    · exact timer_startTimer_by_role (key := .mixer m) holder grant _ (by rw [timerIndex, bank]; omega)
  · have can := canExpire_of_running runs watch
    have expired := timer_expireTimer runs
    refine ⟨s.watchTimerExpiry key, rfl, ?_⟩
    cases shown : s.bt.shows key (s.timer (timerIndex key)).holder (s.timer (timerIndex key)).grant with
    | true =>
      rw [watchTimerExpiry_shown can shown]
      exact ⟨expired, rfl, rfl, rfl, rfl, rfl, rfl, rfl, fun _ => rfl, nofun⟩
    | false =>
      rw [watchTimerExpiry_gone can shown]
      exact ⟨expired, rfl, rfl, rfl, rfl, rfl, rfl, rfl, nofun, fun _ => rfl⟩
  · have rule := release_good_unclaimed s.bay.reserve s.me present hr holder station few unclaimed
    refine ⟨_, exec_lineTake (c := .releaseTaken sender line h.grant drops 0) rfl rfl member present rule,
      takenBy_timer_of_ended sender _ _ h (fun e he => ?_) lt⟩
    rw [mem_tellIf he]
    exact ⟨rfl, rfl⟩
  · obtain ⟨channels, pairs, agree⟩ := coupled_at_of_dosingLawful lawful hk
    have can := canExpire_of_running (key := .line line) runs own
    have bay := (sameBay_ownLimit (s.expireTimer (.line line)) k).trans (sameBay_settle _)
    obtain ⟨dc, mp, others, obu, blu, pdu, tlu⟩ :=
      ownLimit_drains (s := s.expireTimer (.line line)) channels pairs agree st cause
    refine ⟨_, (s.expireTimer (.line line)).ownLimit k, congrArg Host.Outcome.next (ownLineTimerExpiry_worked can works), rfl, ?_,
      by rw [mp], by rw [mp], by rw [mp]; rfl, by rw [dc]; exact st, by rw [dc], others, obu, blu, pdu, tlu,
      bay.setup, bay.ssl, bay.bt, bay.pins⟩
    rw [State.timer_of_htb bay.htb]
    exact congrArg HoldTimer.state (timer_expireTimer (key := .line line) runs)
  · have can := canExpire_of_running (key := .mixer m) runs own
    have expired : (s.expireTimer (.mixer m)).order slot = some o := ho
    have dropped : ((s.expireTimer (.mixer m)).dropRunOf slot m).order slot = some o := by
      rwa [State.order, dropRunOf_obu]
    have bay := ((sameBay_dropRunOf (s.expireTimer (.mixer m)) slot m).trans
      (sameBay_endMix _ slot m .fault .mixIncomplete .mixerFault)).trans (sameBay_settle _)
    obtain ⟨order, -, -, -, -, -, blu, -⟩ := endMix_ordersEnd (m := m) dropped .fault .mixIncomplete .mixerFault
    refine ⟨_, _, congrArg Host.Outcome.next (ownMixerTimerExpiry_mixing can mixing), rfl, ?_,
      fun raised => ?_, fun unraised => ?_, ⟨_, order, rfl, rfl, rfl⟩, fun absent => ?_, bay.ssl, bay.bt, bay.pins⟩
    · rw [State.timer_of_htb bay.htb]
      exact congrArg HoldTimer.state (timer_expireTimer (key := .mixer m) runs)
    · rw [endMix_run, dropRunOf_raised expired raised, run_dropRun, if_pos ⟨rfl, (raises raised).2⟩]
      rfl
    · rw [endMix_pdu, dropRunOf_unraised expired unraised]
      rfl
    · rw [blu, dropRunOf_obu, dropRunOf_blu, show (s.expireTimer (.mixer m)).obu.request = .absent from absent]
      rfl

end Sys2Proof
end

section
/-! SUPPORT. One channel with its pair: what each operation of chapters 6 and 7 leaves of the two, said as one record of each set in
its place. -/

namespace Sys2Proof.Machine

/-- The station with channel `k` and its pair as given. -/
def State.setChannel (s : State) (k : Nat) (c : Channel) (p : Pair) : State :=
  { s with dcs := s.dcs.set k c, mps := s.mps.set k p }

section
variable (s : State) (k : Nat) (c : Channel) (p : Pair)

@[simp] theorem setChannel_setup : (s.setChannel k c p).setup = s.setup := rfl
@[simp] theorem setChannel_ssl : (s.setChannel k c p).ssl = s.ssl := rfl
@[simp] theorem setChannel_blu : (s.setChannel k c p).blu = s.blu := rfl
@[simp] theorem setChannel_obu : (s.setChannel k c p).obu = s.obu := rfl
@[simp] theorem setChannel_pdu : (s.setChannel k c p).pdu = s.pdu := rfl
@[simp] theorem setChannel_tlu : (s.setChannel k c p).tlu = s.tlu := rfl
@[simp] theorem setChannel_htb : (s.setChannel k c p).htb = s.htb := rfl
@[simp] theorem setChannel_lineConst (n : Nat) : (s.setChannel k c p).lineConst n = s.lineConst n := rfl
@[simp] theorem setChannel_lineCal (n : Nat) : (s.setChannel k c p).lineCal n = s.lineCal n := rfl
@[simp] theorem setChannel_dcs_length : (s.setChannel k c p).dcs.length = s.dcs.length := List.length_set
@[simp] theorem setChannel_mps_length : (s.setChannel k c p).mps.length = s.mps.length := List.length_set

@[simp] theorem setChannel_setChannel (c' : Channel) (p' : Pair) :
    (s.setChannel k c p).setChannel k c' p' = s.setChannel k c' p' := by
  simp [State.setChannel]

variable {s k}

theorem dc_setChannel_self (channels : k < s.dcs.length) : (s.setChannel k c p).dc k = c := by
  simp [State.dc, State.setChannel, List.getD_eq_getElem?_getD, channels]

theorem mp_setChannel_self (pairs : k < s.mps.length) : (s.setChannel k c p).mp k = p := by
  simp [State.mp, State.setChannel, List.getD_eq_getElem?_getD, pairs]

variable {j : Nat} (ne : j ≠ k)
include ne

theorem dc_setChannel_ne : (s.setChannel k c p).dc j = s.dc j := by
  simp [State.dc, State.setChannel, List.getD_eq_getElem?_getD, List.getElem?_set_ne ne.symm]

theorem mp_setChannel_ne : (s.setChannel k c p).mp j = s.mp j := by
  simp [State.mp, State.setChannel, List.getD_eq_getElem?_getD, List.getElem?_set_ne ne.symm]

end

/-- Setting an element as it stands changes nothing. -/
theorem set_getD_self {α : Type} (l : List α) (k : Nat) (d : α) : l.set k (l.getD k d) = l := by
  by_cases lt : k < l.length
  · rw [List.getD_eq_getElem _ _ lt, List.set_getElem_self]
  · exact List.set_eq_of_length_le (Nat.le_of_not_lt lt)

section
variable {s : State} {k : Nat} (channels : k < s.dcs.length) (pairs : k < s.mps.length)

theorem modDc_eq_setChannel (f : Channel → Channel) (channels : k < s.dcs.length) :
    s.modDc k f = s.setChannel k (f (s.dc k)) (s.mp k) := by
  rw [State.modDc_eq_set s k f channels, State.setChannel, State.mp, set_getD_self]

theorem modMp_eq_setChannel (f : Pair → Pair) (pairs : k < s.mps.length) :
    s.modMp k f = s.setChannel k (s.dc k) (f (s.mp k)) := by
  rw [State.modMp_eq_set s k f pairs, State.setChannel, State.dc, set_getD_self]

include channels pairs

theorem setChannel_modDc (c : Channel) (p : Pair) (f : Channel → Channel) :
    (s.setChannel k c p).modDc k f = s.setChannel k (f c) p := by
  rw [modDc_eq_setChannel f (by simpa using channels), dc_setChannel_self c p channels, mp_setChannel_self c p pairs,
    setChannel_setChannel]

theorem setChannel_modMp (c : Channel) (p : Pair) (f : Pair → Pair) :
    (s.setChannel k c p).modMp k f = s.setChannel k c (f p) := by
  rw [modMp_eq_setChannel f (by simpa using pairs), dc_setChannel_self c p channels, mp_setChannel_self c p pairs,
    setChannel_setChannel]

theorem modMp_modDc (f : Pair → Pair) (g : Channel → Channel) :
    (s.modMp k f).modDc k g = s.setChannel k (g (s.dc k)) (f (s.mp k)) := by
  rw [modMp_eq_setChannel f pairs, setChannel_modDc channels pairs]

/-! ### Widths and period starts (R110, R127, R128) -/

/-- R110: the planned drops of the trim shot as the channel holds them once the width of the shot after `next` shots is written. -/
def Channel.trimFor (c : Channel) (size next : Nat) : Nat :=
  if c.plan.isTrim next then correctedTrim c.plan.trim c.balance size else c.trimNow

/-- R110: the drops that the width of the shot after `next` shots of the grant stands for. -/
def Channel.dropsFor (c : Channel) (size next : Nat) : Nat :=
  if c.plan.isTrim next then correctedTrim c.plan.trim c.balance size else size

theorem writeWidth_eq (next : Nat) : s.writeWidth k next =
    s.setChannel k { s.dc k with trimNow := (s.dc k).trimFor (s.lineConst (s.dc k).line).shotSize next }
      { s.mp k with
        nextWidth := widthOf (s.lineCal (s.dc k).line).shotWidth
          ((s.dc k).dropsFor (s.lineConst (s.dc k).line).shotSize next) (s.lineConst (s.dc k).line).shotSize } := by
  unfold State.writeWidth Channel.trimFor Channel.dropsFor Channel.plannedDrops
  simp only [modDc_eq_setChannel _ channels, setChannel_modMp channels pairs]
  by_cases trim : (s.dc k).plan.isTrim next
  · simp only [trim, if_true]
  · simp only [trim, Bool.false_eq_true, if_false]

theorem periodStart_last (last : (s.dc k).grant.askedShots ≤ (s.dc k).grant.shotsDone + 1) :
    s.periodStart k = s.setChannel k { s.dc k with state := .shooting }
      ((s.mp k).periodStart (s.lineCal (s.dc k).line).shotPeriod) := by
  unfold State.periodStart
  simp only [modMp_modDc channels pairs]
  rw [if_neg (Nat.not_lt.2 last)]

theorem periodStart_more (more : (s.dc k).grant.shotsDone + 1 < (s.dc k).grant.askedShots) :
    s.periodStart k = State.writeWidth (s.setChannel k { s.dc k with state := .shooting }
      ((s.mp k).periodStart (s.lineCal (s.dc k).line).shotPeriod)) k ((s.dc k).grant.shotsDone + 1) := by
  unfold State.periodStart
  simp only [modMp_modDc channels pairs]
  rw [if_pos more]

/-- R127, R128: what a period start leaves of channel and pair, with the width that it writes ahead or finds written. -/
theorem periodStart_eq : ∃ trim width, s.periodStart k =
      s.setChannel k { s.dc k with state := .shooting, trimNow := trim }
        { (s.mp k).periodStart (s.lineCal (s.dc k).line).shotPeriod with nextWidth := width }
    ∧ ((s.dc k).grant.askedShots ≤ (s.dc k).grant.shotsDone + 1 → width = (s.mp k).nextWidth)
    ∧ ((s.dc k).grant.shotsDone + 1 < (s.dc k).grant.askedShots → width = widthOf (s.lineCal (s.dc k).line).shotWidth
        ((s.dc k).dropsFor (s.lineConst (s.dc k).line).shotSize ((s.dc k).grant.shotsDone + 1))
        (s.lineConst (s.dc k).line).shotSize) := by
  by_cases more : (s.dc k).grant.shotsDone + 1 < (s.dc k).grant.askedShots
  · refine ⟨(s.dc k).trimFor (s.lineConst (s.dc k).line).shotSize ((s.dc k).grant.shotsDone + 1), _, ?_,
      fun last => absurd more (Nat.not_lt.2 last), fun _ => rfl⟩
    rw [periodStart_more channels pairs more, writeWidth_eq (by simpa using channels) (by simpa using pairs),
      dc_setChannel_self _ _ channels, mp_setChannel_self _ _ pairs, setChannel_setChannel]
    rfl
  · exact ⟨(s.dc k).trimNow, _, periodStart_last channels pairs (Nat.le_of_not_lt more), fun _ => rfl, fun lt => absurd lt more⟩

/-! ### Grants (R109, R119, R126) -/

/-- R109: the channel as a grant begins its dose, its trim as the width of the first shot leaves it. -/
def Channel.begun (c : Channel) (size grant shots drops : Nat) : Channel :=
  { c with
    state := .settling
    balance := 0
    trimNow := if c.plan.isTrim 0 then correctedTrim c.plan.trim 0 size else c.trimNow
    grant := { number := grant, askedShots := shots, askedDrops := drops, shotsDone := 0, drops := 0,
               final := shots == c.plan.planned } }

/-- R109, R110: the pair with the width of the grant's first shot written. -/
def State.firstWidth (s : State) (k : Nat) : Pair :=
  { s.mp k with
    nextWidth := widthOf (s.lineCal (s.dc k).line).shotWidth
      (if (s.dc k).plan.isTrim 0 then
        correctedTrim (s.dc k).plan.trim 0 (s.lineConst (s.dc k).line).shotSize
      else (s.lineConst (s.dc k).line).shotSize)
      (s.lineConst (s.dc k).line).shotSize }

theorem beginDose_eq (grant shots drops : Nat) : s.beginDose k grant shots drops =
    if (s.lineConst (s.dc k).line).settleDelay = 0 then
      (s.setChannel k ((s.dc k).begun (s.lineConst (s.dc k).line).shotSize grant shots drops) (s.firstWidth k)).periodStart k
    else
      s.setChannel k ((s.dc k).begun (s.lineConst (s.dc k).line).shotSize grant shots drops)
        ((s.firstWidth k).settleStart (s.lineConst (s.dc k).line).settleDelay) := by
  unfold State.beginDose
  rw [modDc_eq_setChannel _ channels, writeWidth_eq (by simpa using channels) (by simpa using pairs),
    dc_setChannel_self _ _ channels, mp_setChannel_self _ _ pairs, setChannel_setChannel]
  simp only [setChannel_modMp channels pairs]
  rfl

omit channels pairs

theorem grantTell_begins (works : (s.dc k).state = .claiming ∨ (s.dc k).state = .waiting)
    (wanted : (s.dc k).withdrawPending = false) (h : Holder) :
    s.grantTell k h = s.beginDose k h.grant h.askedShots h.askedDrops := by
  unfold State.grantTell
  rcases works with st | st <;> simp [st, wanted]

theorem grantTell_refuses (unwanted : (s.dc k).state = .withdrawing
      ∨ (((s.dc k).state = .claiming ∨ (s.dc k).state = .waiting) ∧ (s.dc k).withdrawPending = true)) (h : Holder) :
    s.grantTell k h = s.refuseGrant k h.grant := by
  unfold State.grantTell
  rcases unwanted with st | ⟨st | st, flag⟩
  · simp [st]
  · simp [st, flag]
  · simp [st, flag]

theorem grantTell_stays (st : (s.dc k).state = .idle ∨ (s.dc k).state = .settling ∨ (s.dc k).state = .shooting
      ∨ (s.dc k).state = .releasing) (h : Holder) : s.grantTell k h = s := by
  unfold State.grantTell
  rcases st with st | st | st | st <;> rw [st]

theorem modDc_offer_modDc (f g : Channel → Channel) (n : Notice) (o : Owner) :
    ((s.modDc k f).offer n o).modDc k g = (s.offer n o).modDc k (g ∘ f) := by
  simp only [State.modDc, State.offer, List.modify_modify_eq]

theorem refuseGrant_eq (channels : k < s.dcs.length) (grant : Nat) : s.refuseGrant k grant =
    (s.offer (.release (s.dc k).line grant 0 (lineOutcomeCode .good)) (.channel k)).setChannel k
      { s.dc k with grant := { (s.dc k).grant with number := grant }, result := .failed .stopped, state := .releasing }
      (s.mp k) := by
  unfold State.refuseGrant State.releaseNotice
  simp only [State.dc_modDc_self s k _ channels]
  rw [modDc_offer_modDc, modDc_eq_setChannel _ (by exact channels)]
  rfl

/-! ### Reports and grants given back (R104, R112, R124) -/

/-- R104: the station with the result of channel `k`'s entry written. -/
def State.withResult (s : State) (k : Nat) (out : EntryOutcome) : State :=
  s.modOrder (s.dc k).slot fun o =>
    { o with results := o.results.set (s.dc k).entry { outcome := out, delivered := (s.dc k).delivered } }

theorem writeReport_eq (channels : k < s.dcs.length) (pairs : k < s.mps.length) (out : EntryOutcome) :
    s.writeReport k out = (s.withResult k out).setChannel k Channel.idle (s.mp k).standDown.unbind := by
  have written : s.writeReport k out =
      ((s.withResult k out).modDc k fun _ => Channel.idle).modMp k fun p => (Pair.standDown p).unbind := rfl
  rw [written, modDc_eq_setChannel _ (by exact channels), setChannel_modMp (by exact channels) (by exact pairs)]
  rfl

/-- A report stands the pair down in any case. -/
theorem standDown_writeReport (s : State) (k : Nat) (out : EntryOutcome) :
    (s.modMp k Pair.standDown).writeReport k out = s.writeReport k out := by
  simp only [State.writeReport, State.modMp, State.modDc, State.modOrder, List.modify_modify_eq]
  rfl

theorem standDown_report (s : State) (k : Nat) (out : EntryOutcome) :
    (s.modMp k Pair.standDown).report k out = s.report k out := by
  unfold State.report
  simp only [standDown_writeReport]
  rfl

/-- R112: the channel in RELEASING behind its RELEASE, its pair at rest. -/
def State.releasedBack (s : State) (k drops : Nat) (o : LineOutcome) : State :=
  (s.offer (s.releaseNotice k drops o) (.channel k)).setChannel k { s.dc k with state := .releasing, stopCause := .none }
    (s.mp k).standDown

theorem giveBack_eq (channels : k < s.dcs.length) (pairs : k < s.mps.length) (drops : Nat) (o : LineOutcome) :
    s.giveBack k drops o =
      if (s.dc k).result = .goOn then (s.releasedBack k drops o).offerClaim k .releasing else s.releasedBack k drops o := by
  unfold State.giveBack
  simp only [modMp_modDc (s := s.offer _ _) (k := k) (by exact channels) (by exact pairs)]
  rfl

/-! ### After a shot (R111 to R113, R115 to R118, R120, R121) -/

/-- R112, R117: the channel once its grant is over: tested at its end, and going on before it. -/
def Channel.ending (c : Channel) : Channel := if c.atEnd then c.endTest else { c with result := .goOn }

/-- R115: the channel after a SHORT shot: it goes on while drops remain. -/
def Channel.afterShort (c : Channel) : Channel := if c.ordered ≤ c.delivered then c.endTest else { c with result := .goOn }

section
variable {m p : Nat} {overflow : Bool}

theorem afterShot_lineOut (cause : (s.dc k).stopCause = .lineOut) :
    s.afterShot k m p overflow = (s.modMp k Pair.standDown).report k (.failed .lineOut) := by
  simp only [State.afterShot, cause]

theorem afterShot_detached (cause : (s.dc k).stopCause = .detached) :
    s.afterShot k m p overflow = (s.modMp k Pair.standDown).report k (.failed .detached) := by
  simp only [State.afterShot, cause]

theorem afterShot_runaway (inBay : (s.dc k).stopCause ≠ .lineOut ∧ (s.dc k).stopCause ≠ .detached)
    (runaway : isRunaway m p overflow = true) : s.afterShot k m p overflow =
      (s.modDc k fun c => { c with result := .failed .runaway }).giveBack k (s.dc k).grant.drops .runaway := by
  obtain ⟨lineOut, detached⟩ := inBay
  unfold State.afterShot
  cases cause : (s.dc k).stopCause with
  | lineOut => exact absurd cause lineOut
  | detached => exact absurd cause detached
  | none | ownLimit | stopped => simp only [runaway, if_true]

variable (good : isRunaway m p overflow = false)
include good

theorem afterShot_ownLimit (cause : (s.dc k).stopCause = .ownLimit) :
    s.afterShot k m p overflow = (s.modDc k Channel.ending).giveBack k (s.dc k).grant.drops .good := by
  simp only [State.afterShot, cause, good, Bool.false_eq_true, if_false]
  rfl

theorem afterShot_stopped (cause : (s.dc k).stopCause = .stopped) : s.afterShot k m p overflow =
    (s.modDc k fun c => { c with result := .failed .stopped }).giveBack k (s.dc k).grant.drops .good := by
  simp only [State.afterShot, cause, good, Bool.false_eq_true, if_false]

variable (cause : (s.dc k).stopCause = .none)
include cause

theorem afterShot_short (short : 2 * m < p) :
    s.afterShot k m p overflow = (s.modDc k Channel.afterShort).giveBack k (s.dc k).grant.drops .short := by
  simp only [State.afterShot, cause, good, Bool.false_eq_true, if_false, if_pos short]
  rfl

variable (long : p ≤ 2 * m)
include long

theorem afterShot_ends (ends : (s.dc k).atEnd = true ∨ (s.dc k).grant.askedShots ≤ (s.dc k).grant.shotsDone) :
    s.afterShot k m p overflow = (s.modDc k Channel.ending).giveBack k (s.dc k).grant.drops .good := by
  simp only [State.afterShot, cause, good, Bool.false_eq_true, if_false, if_neg (Nat.not_lt.2 long), Bool.or_eq_true,
    decide_eq_true_eq, if_pos ends]
  rfl

theorem afterShot_goesOn (early : (s.dc k).atEnd = false) (left : (s.dc k).grant.shotsDone < (s.dc k).grant.askedShots) :
    s.afterShot k m p overflow = s.periodStart k := by
  simp only [State.afterShot, cause, good, Bool.false_eq_true, if_false, if_neg (Nat.not_lt.2 long), Bool.or_eq_true,
    decide_eq_true_eq, early, false_or, if_neg (Nat.not_le.2 left)]

end

end

end Sys2Proof.Machine
end

section
/-! SUPPORT. What the drives, the order book, the cursor and the hold timers leave of channels and pairs: all of them. -/

namespace Sys2Proof.Machine

section
variable (s : State)

/-! ### Updates -/

@[simp] theorem dosing_modBlu (f) : (s.modBlu f).dosing = s.dosing := rfl
@[simp] theorem dosing_modBt (f) : (s.modBt f).dosing = s.dosing := rfl
@[simp] theorem dosing_modSsl (f) : (s.modSsl f).dosing = s.dosing := rfl
@[simp] theorem dosing_modRun (m f) : (s.modRun m f).dosing = s.dosing := rfl
@[simp] theorem dosing_modTimer (i f) : (s.modTimer i f).dosing = s.dosing := rfl
@[simp] theorem dosing_modPusher (p f) : (s.modPusher p f).dosing = s.dosing := by cases p <;> rfl
@[simp] theorem dosing_offer (n o) : (s.offer n o).dosing = s.dosing := rfl
@[simp] theorem dosing_strike (p) : (s.strike p).dosing = s.dosing := rfl
@[simp] theorem dosing_enter (st) : (s.enter st).dosing = s.dosing := by unfold State.enter; split <;> rfl

/-! ### The order book (chapter 8) -/

@[simp] theorem dosing_claimMixer : s.claimMixer.dosing = s.dosing := by
  unfold State.claimMixer
  repeat' split
  all_goals rfl

@[simp] theorem dosing_requestRush : s.requestRush.dosing = s.dosing := by
  unfold State.requestRush
  repeat' split
  all_goals rfl

@[simp] theorem dosing_openGate : s.openGate.dosing = s.dosing := by
  unfold State.openGate
  repeat' split
  all_goals rfl

@[simp] theorem dosing_raiseRun (m t) : (s.raiseRun m t).dosing = s.dosing := by unfold State.raiseRun; split <;> rfl

@[simp] theorem dosing_rushTell (token) : (s.rushTell token).dosing = s.dosing := by
  unfold State.rushTell State.rushSettled State.rushUnwanted
  repeat' split
  all_goals rfl

@[simp] theorem dosing_offerMixRelease (owner m g o) : (s.offerMixRelease owner m g o).dosing = s.dosing := rfl

@[simp] theorem dosing_enterMixing (slot m g t) : (s.enterMixing slot m g t).dosing = s.dosing := by simp [State.enterMixing]

@[simp] theorem dosing_mixerGranted (m g t) : (s.mixerGranted m g t).dosing = s.dosing := by
  unfold State.mixerGranted
  simp only
  repeat' split
  all_goals simp

@[simp] theorem dosing_bookTell (t) : (s.bookTell t).dosing = s.dosing := by
  unfold State.bookTell
  repeat' split
  all_goals simp

@[simp] theorem dosing_baseDone (d) : (s.baseDone d).dosing = s.dosing := by unfold State.baseDone; split <;> simp
@[simp] theorem dosing_baseFaulted (d f) : (s.baseFaulted d f).dosing = s.dosing := by unfold State.baseFaulted; split <;> simp
@[simp] theorem dosing_lidHome : s.lidHome.dosing = s.dosing := by unfold State.lidHome; split <;> simp
@[simp] theorem dosing_lidFaulted : s.lidFaulted.dosing = s.dosing := by unfold State.lidFaulted; split <;> simp

@[simp] theorem dosing_outfeedReached : s.outfeedReached.dosing = s.dosing := by
  unfold State.outfeedReached
  simp only
  repeat' split
  all_goals simp

@[simp] theorem dosing_mixerReached (m) : (s.mixerReached m).dosing = s.dosing := by unfold State.mixerReached; split <;> simp

@[simp] theorem dosing_endMix (slot m o oc r) : (s.endMix slot m o oc r).dosing = s.dosing := by simp [State.endMix]

@[simp] theorem dosing_transferConfirmed (p) : (s.transferConfirmed p).dosing = s.dosing := by
  unfold State.transferConfirmed
  repeat' split
  all_goals simp

@[simp] theorem dosing_transferFailed (p) : (s.transferFailed p).dosing = s.dosing := by
  unfold State.transferFailed
  repeat' split
  all_goals simp

@[simp] theorem dosing_mixerDone (m) : (s.mixerDone m).dosing = s.dosing := by unfold State.mixerDone; split <;> simp

@[simp] theorem dosing_outfeedEmptied : s.outfeedEmptied.dosing = s.dosing := by
  unfold State.outfeedEmptied
  simp only
  repeat' split
  all_goals simp

@[simp] theorem dosing_stopFill (slot) : (s.stopFill slot).dosing = s.dosing := by unfold State.stopFill; split <;> rfl

@[simp] theorem dosing_confirmBySensor (p) : (s.confirmBySensor p).dosing = s.dosing := by
  unfold State.confirmBySensor
  split <;> simp

@[simp] theorem dosing_dropRunOf (slot m) : (s.dropRunOf slot m).dosing = s.dosing := by unfold State.dropRunOf; split <;> simp

/-! ### The image cursor (R18) -/

@[simp] theorem dosing_setJoiners (js) : (s.setJoiners js).dosing = s.dosing := rfl
@[simp] theorem dosing_cursorOffer (x) : (s.cursorOffer x).dosing = s.dosing := by unfold State.cursorOffer; split <;> rfl

@[simp] theorem dosing_cursorBegin : s.cursorBegin.dosing = s.dosing := by
  unfold State.cursorBegin
  split
  · rfl
  · exact dosing_cursorOffer s _

@[simp] theorem dosing_cursorDrop (st) : (s.cursorDrop st).dosing = s.dosing := by
  unfold State.cursorDrop
  simp only
  split <;> simp

@[simp] theorem dosing_cursorAdd (st a) : (s.cursorAdd st a).dosing = s.dosing := by
  unfold State.cursorAdd
  simp only
  repeat' split
  all_goals simp

@[simp] theorem dosing_cursorAdvance : s.cursorAdvance.dosing = s.dosing := by unfold State.cursorAdvance; split <;> simp

@[simp] theorem dosing_giveImage (j g a) : (s.giveImage j g a).dosing = s.dosing := by unfold State.giveImage; split <;> simp

@[simp] theorem dosing_cursorPrune : s.cursorPrune.dosing = s.dosing := by
  rw [cursorPrune_eq, dropAbsent]
  generalize s.blu.cursor.joiners = l
  generalize s.bt = t
  induction l generalizing s with
  | nil => rfl
  | cons j l ih =>
    refine (ih _).trans ?_
    simp only
    split <;> simp

/-! ### Forming and joining (R24 to R36) -/

@[simp] theorem dosing_withTable (t : Table) : ({ s with bt := t } : State).dosing = s.dosing := rfl

theorem dosing_onlyTimers {s t : State} (h : OnlyTimers s t) : t.dosing = s.dosing := by rw [h.rest]; rfl

@[simp] theorem dosing_refuse : s.refuse.dosing = s.dosing := by simp only [State.refuse, dosing_enter, dosing_modSsl]; rfl
@[simp] theorem dosing_setLateMark : s.setLateMark.dosing = s.dosing := by simp [State.setLateMark]
@[simp] theorem dosing_lateJoinSelf : s.lateJoinSelf.dosing = s.dosing := by simp [State.lateJoinSelf]
@[simp] theorem dosing_imageHere (sender img) : (s.imageHere sender img).dosing = s.dosing := by simp [State.imageHere]

@[simp] theorem dosing_restartImageTimer (joiner) : (s.restartImageTimer joiner).dosing = s.dosing := by
  unfold State.restartImageTimer
  split <;> simp

@[simp] theorem dosing_accepted (count) : (s.accepted count).dosing = s.dosing := by
  unfold State.accepted
  rw [dosing_onlyTimers (onlyTimers_watchAll _)]
  simp

@[simp] theorem dosing_formedForming : s.formedForming.dosing = s.dosing := by
  unfold State.formedForming
  simp only
  repeat' split
  · rfl
  · rfl
  · exact dosing_enter _ _
  · exact dosing_refuse _
  · exact dosing_setLateMark _
  · rfl

@[simp] theorem dosing_joinForming (sender digest own) : (s.joinForming sender digest own).dosing = s.dosing := by
  unfold State.joinForming State.formationJoin
  repeat' split
  all_goals simp

theorem dosing_takeForming (sender n) : (s.takeForming sender n).dosing = s.dosing := by
  unfold State.takeForming State.otherForming State.imageForming
  repeat' split
  all_goals simp

theorem dosing_takeJoining (sender n) : (s.takeJoining sender n).dosing = s.dosing := by
  unfold State.takeJoining State.imageJoining State.imageEndJoining
  repeat' split
  all_goals simp

end

end Sys2Proof.Machine
end

section
/-! The law of channels and pairs (R103, R121, R123, R134) through every operation and every command. -/

namespace Sys2Proof.Machine

/-- Channels and pairs agree, every pair is as its phase says, and out of the bay each channel is IDLE or drains after a detach. -/
structure State.Sound (s : State) : Prop where
  coupled : s.Coupled
  parted : s.isAttached = false → ∀ k, k < 4 → parted (s.dc k) (s.mp k) = true

theorem sound_iff (s : State) : s.Sound ↔ s.dosingLawful = true ∧ ∀ p ∈ s.mps, p.lawful = true := by
  constructor
  · rintro ⟨⟨channels, pairs, agree, lawful⟩, away⟩
    refine ⟨?_, fun p hp => ?_⟩
    · simp only [State.dosingLawful, channels, pairs, Bool.and_eq_true, List.all_eq_true, List.mem_range, Bool.or_eq_true]
      refine ⟨⟨rfl, rfl⟩, fun k hk => ⟨agree k hk, ?_⟩⟩
      cases att : s.isAttached with
      | true => exact .inl rfl
      | false => exact .inr (away att k hk)
    · obtain ⟨k, lt, rfl⟩ := List.getElem_of_mem hp
      have := lawful k (pairs ▸ lt)
      rwa [State.mp, List.getD_eq_getElem _ _ lt] at this
  · rintro ⟨law, lawful⟩
    have pairsLawful : ∀ k, k < 4 → (s.mp k).lawful = true := fun k hk => by
      have lt := (coupled_at_of_dosingLawful law hk).2.1
      rw [State.mp, List.getD_eq_getElem _ _ lt]
      exact lawful _ (List.getElem_mem lt)
    refine ⟨coupled_of_dosingLawful law pairsLawful, fun out k hk => ?_⟩
    simp only [State.dosingLawful, Bool.and_eq_true, List.all_eq_true, List.mem_range, out, Bool.false_or] at law
    exact (law.2 k hk).2

/-! ### What the law says of one channel -/

/-- A channel that is not IDLE is one of the four. -/
theorem State.Coupled.lt_of_busy {s : State} {k : Nat} (h : s.Coupled) (busy : (s.dc k).state ≠ .idle) : k < 4 := by
  by_contra beyond
  refine busy ?_
  rw [State.dc, List.getD_eq_default _ _ (by rw [h.channels]; omega)]
  rfl

/-- A pair that is not at rest is one of the four. -/
theorem State.Coupled.lt_of_phase {s : State} {k : Nat} (h : s.Coupled) (moves : (s.mp k).phase ≠ .stopped) : k < 4 := by
  by_contra beyond
  refine moves ?_
  rw [State.mp, List.getD_eq_default _ _ (by rw [h.pairs]; omega)]
  rfl

/-- R121: only a channel that drains after a detach is busy outside the bay. -/
theorem State.Sound.attached_of_busy {s : State} {k : Nat} (h : s.Sound) (busy : (s.dc k).state ≠ .idle)
    (stays : (s.dc k).state = .shooting → (s.dc k).stopCause ≠ .detached) : s.isAttached = true := by
  by_contra out
  have away := h.parted (by simpa using out) k (h.coupled.lt_of_busy busy)
  simp only [Machine.parted, Bool.or_eq_true, Bool.and_eq_true, beq_iff_eq] at away
  rcases away with idle | ⟨⟨shooting, detached⟩, -⟩
  · exact busy idle
  · exact stays shooting detached

/-- R131: the pair of a SHOOTING channel drains once it is cut. -/
theorem cut_drains {c : Channel} {p : Pair} (lineOut : Bool) (agree : coupled c p = true) (lawful : p.lawful = true)
    (st : c.state = .shooting) : (p.cut lineOut).phase = .drain ∧ (p.cut lineOut).lawful = true := by
  simp only [coupled, st, Bool.or_eq_true, beq_iff_eq] at agree
  rcases agree with (opened | closed) | drains
  · simp_all [Pair.cut, Pair.lawful]
  · simp_all [Pair.cut, Pair.lawful]
  · simp_all [Pair.cut, Pair.lawful]

/-! The entry end test and what follows a shot judge the result alone. -/

section
variable (c : Channel)

theorem endTest_keeps : c.endTest.state = c.state ∧ c.endTest.stopCause = c.stopCause := by
  unfold Channel.endTest
  repeat' split
  all_goals exact ⟨rfl, rfl⟩

theorem ending_keeps : c.ending.state = c.state ∧ c.ending.stopCause = c.stopCause := by
  unfold Channel.ending
  split
  · exact endTest_keeps c
  · exact ⟨rfl, rfl⟩

theorem afterShort_keeps : c.afterShort.state = c.state ∧ c.afterShort.stopCause = c.stopCause := by
  unfold Channel.afterShort
  split
  · exact endTest_keeps c
  · exact ⟨rfl, rfl⟩

end

section
variable {s : State} (h : s.Sound)
include h

/-! ### Updates -/

theorem State.Sound.same {t : State} (state : t.ssl.state = s.ssl.state) (dosing : t.dosing = s.dosing) : t.Sound where
  coupled := h.coupled.of_dosing dosing
  parted out k hk := by
    rw [dc_of_dosing dosing, mp_of_dosing dosing]
    refine h.parted ?_ k hk
    rwa [State.isAttached, ← state]

theorem State.Sound.of {t : State} (bay : SameBay s t) (dosing : t.dosing = s.dosing) : t.Sound :=
  h.same (congrArg Ssl.state bay.ssl) dosing

/-- Outside the bay the state of the station is of no matter: the law asks the more of its channels there. -/
theorem State.Sound.outside {t : State} (out : s.isAttached = false) (dosing : t.dosing = s.dosing) : t.Sound where
  coupled := h.coupled.of_dosing dosing
  parted _ k hk := by
    rw [dc_of_dosing dosing, mp_of_dosing dosing]
    exact h.parted out k hk

theorem State.Sound.offer (n : Notice) (o : Owner) : (s.offer n o).Sound := h.same rfl rfl
theorem State.Sound.strike (p : Entry → Bool) : (s.strike p).Sound := h.same rfl rfl
theorem State.Sound.modTlu (f : Tlu → Tlu) : (s.modTlu f).Sound := h.same rfl rfl

theorem State.Sound.foldl {α : Type} {f : State → α → State} (step : ∀ (u : State) (a : α), u.Sound → (f u a).Sound)
    (l : List α) : (l.foldl f s).Sound := by
  induction l generalizing s with
  | nil => exact h
  | cons a l ih => exact ih (step s a h)

theorem State.Sound.setChannel {k : Nat} {c : Channel} {p : Pair} (agree : Machine.coupled c p = true) (lawful : p.lawful = true)
    (away : s.isAttached = false → Machine.parted c p = true) : (s.setChannel k c p).Sound := by
  obtain ⟨⟨channels, pairs, agrees, lawfuls⟩, aways⟩ := h
  have each : ∀ j, j < 4 → (s.setChannel k c p).dc j = c ∧ (s.setChannel k c p).mp j = p
      ∨ (s.setChannel k c p).dc j = s.dc j ∧ (s.setChannel k c p).mp j = s.mp j := fun j hj => by
    by_cases e : j = k
    · subst e
      exact .inl ⟨dc_setChannel_self c p (channels ▸ hj), mp_setChannel_self c p (pairs ▸ hj)⟩
    · exact .inr ⟨dc_setChannel_ne c p e, mp_setChannel_ne c p e⟩
  refine ⟨⟨by simpa using channels, by simpa using pairs, fun j hj => ?_, fun j hj => ?_⟩, fun out j hj => ?_⟩
  all_goals rcases each j hj with ⟨dc, mp⟩ | ⟨dc, mp⟩
  · rw [dc, mp]; exact agree
  · rw [dc, mp]; exact agrees j hj
  · rw [mp]; exact lawful
  · rw [mp]; exact lawfuls j hj
  · rw [dc, mp]; exact away out
  · rw [dc, mp]; exact aways out j hj

variable {k : Nat} (hk : k < 4)
include hk

theorem State.Sound.channels : k < s.dcs.length := h.coupled.channels ▸ hk
theorem State.Sound.pairs : k < s.mps.length := h.coupled.pairs ▸ hk

/-- A channel changed and its pair with it. -/
theorem State.Sound.modBoth (f : Pair → Pair) (g : Channel → Channel) (agree : Machine.coupled (g (s.dc k)) (f (s.mp k)) = true)
    (lawful : (f (s.mp k)).lawful = true) (away : s.isAttached = false → Machine.parted (g (s.dc k)) (f (s.mp k)) = true) :
    ((s.modMp k f).modDc k g).Sound := by
  rw [modMp_modDc (h.channels hk) (h.pairs hk)]
  exact h.setChannel agree lawful away

theorem State.Sound.modDc (g : Channel → Channel) (agree : Machine.coupled (g (s.dc k)) (s.mp k) = true)
    (away : s.isAttached = false → Machine.parted (g (s.dc k)) (s.mp k) = true) : (s.modDc k g).Sound := by
  rw [modDc_eq_setChannel g (h.channels hk)]
  exact h.setChannel agree (h.coupled.lawful k hk) away

/-- What the law says of a channel is in its state and its stop cause. -/
theorem State.Sound.relabel (g : Channel → Channel) (state : (g (s.dc k)).state = (s.dc k).state)
    (cause : (g (s.dc k)).stopCause = (s.dc k).stopCause) : (s.modDc k g).Sound := by
  refine h.modDc hk g ?_ fun out => ?_
  · rw [Machine.coupled, state]
    exact h.coupled.agree k hk
  · rw [Machine.parted, state, cause]
    exact h.parted out k hk

/-! ### Reports and stops (R104, R118, R144) -/

theorem State.Sound.writeReport (out : EntryOutcome) : (s.writeReport k out).Sound := by
  have written : (s.withResult k out).Sound := h.same rfl rfl
  rw [writeReport_eq (h.channels hk) (h.pairs hk)]
  exact written.setChannel rfl rfl fun _ => rfl

omit hk

theorem State.Sound.stopChannel (k : Nat) : (s.stopChannel k).Sound := by
  have busy (ne : (s.dc k).state ≠ .idle) : k < 4 := h.coupled.lt_of_busy ne
  unfold State.stopChannel
  split
  · exact h
  · exact h
  · next st =>
    have hk := busy (by rw [st]; nofun)
    split
    · exact (h.strike _).relabel hk _ rfl rfl
    · exact (h.strike _).writeReport hk _
  · next st =>
    have hk := busy (by rw [st]; nofun)
    have att := h.attached_of_busy (k := k) (by rw [st]; nofun) (by rw [st]; nofun)
    have agree := h.coupled.agree k hk
    simp only [Machine.coupled, st] at agree
    exact (h.offer _ _).modDc hk _ agree fun out => absurd (att.symm.trans out) nofun
  · next st =>
    have hk := busy (by rw [st]; nofun)
    exact (h.offer _ _).modBoth hk _ _ rfl rfl fun out =>
      absurd ((h.attached_of_busy (k := k) (by rw [st]; nofun) (by rw [st]; nofun)).symm.trans out) nofun
  · next st =>
    have hk := busy (by rw [st]; nofun)
    obtain ⟨drain, lawful⟩ := cut_drains false (h.coupled.agree k hk) (h.coupled.lawful k hk) st
    split
    · next cause =>
      exact h.modBoth hk _ _ (by simp [Machine.coupled, st, drain]) lawful fun out =>
        absurd ((h.attached_of_busy (k := k) (by rw [st]; nofun) (by rw [cause]; nofun)).symm.trans out) nofun
    · next cause =>
      exact h.modDc hk _ (h.coupled.agree k hk) fun out =>
        absurd ((h.attached_of_busy (k := k) (by rw [st]; nofun) (by rw [cause]; nofun)).symm.trans out) nofun
    all_goals exact h
  · next st =>
    split
    · exact (h.strike _).relabel (busy (by rw [st]; nofun)) _ rfl rfl
    all_goals exact h

theorem State.Sound.stopThose (slot : Nat) (pick) : (s.stopThose slot pick).Sound := by
  refine h.foldl (fun u k hu => ?_) _
  split
  · exact hu.stopChannel k
  · exact hu

theorem State.Sound.stopChannels (slot : Nat) : (s.stopChannels slot).Sound :=
  (h.stopThose slot _).stopThose slot _

theorem State.Sound.stopOrder (slot : Nat) (reason : OrderReason) : (s.stopOrder slot reason).Sound := by
  have stopping : (s.modOrder slot fun o => { o with stopping := some reason }).Sound := h.same rfl rfl
  unfold State.stopOrder
  repeat' split
  · exact h
  · exact h
  · exact stopping.stopChannels slot

include hk

theorem State.Sound.report (out : EntryOutcome) : (s.report k out).Sound := by
  have written := h.writeReport hk out
  unfold State.report
  repeat' split
  · exact written.stopOrder _ _
  all_goals exact written

/-! ### Claims and grants (R105, R107, R109, R112, R119) -/

section
variable (att : s.isAttached = true)
include att

theorem State.Sound.offerClaim {st : ChannelState} (rest : (s.mp k).phase = .stopped)
    (claims : st = .claiming ∨ st = .releasing) : (s.offerClaim k st).Sound := by
  have replanned := h.relabel hk (Channel.replan (s.lineConst (s.dc k).line).shotSize) rfl rfl
  unfold State.offerClaim
  simp only
  split
  · exact replanned.report hk _
  · next b _ _ _ =>
    have offered : State.Sound { s.modDc k (Channel.replan (s.lineConst (s.dc k).line).shotSize) with blu := b } :=
      replanned.same rfl rfl
    refine offered.modDc hk _ ?_ fun out => absurd (att.symm.trans out) nofun
    have still : ((s.modDc k (Channel.replan (s.lineConst (s.dc k).line).shotSize)).mp k).phase = .stopped := rest
    rcases claims with rfl | rfl <;> exact beq_iff_eq.2 still

theorem State.Sound.handOver (idle : (s.dc k).state = .idle) (slot entry : Nat) (e : DoseEntry) :
    (s.handOver k slot entry e).Sound := by
  have rest : (s.mp k).phase = .stopped := by simpa [Machine.coupled, idle] using h.coupled.agree k hk
  unfold State.handOver
  rw [modDc_eq_setChannel _ (h.channels hk), setChannel_modMp (h.channels hk) (h.pairs hk)]
  have bound : (s.setChannel k
      { Channel.idle with line := e.line, slot := slot, entry := entry, ordered := e.drops, mode := e.mode }
      (Pair.bind e.line (s.mp k))).Sound :=
    h.setChannel (beq_iff_eq.2 rest) (h.coupled.lawful k hk) fun _ => rfl
  exact bound.offerClaim hk att (by rw [mp_setChannel_self _ _ (h.pairs hk)]; exact rest) (.inl rfl)

theorem State.Sound.giveBack (drops : Nat) (o : LineOutcome) : (s.giveBack k drops o).Sound := by
  have back : (s.releasedBack k drops o).Sound :=
    (h.offer _ _).setChannel rfl rfl fun out => absurd (att.symm.trans out) nofun
  rw [giveBack_eq (h.channels hk) (h.pairs hk)]
  split
  · refine back.offerClaim hk att ?_ (.inr rfl)
    rw [State.releasedBack, mp_setChannel_self _ _ (by exact h.pairs hk)]
    rfl
  · exact back

theorem State.Sound.periodStart : (s.periodStart k).Sound := by
  obtain ⟨trim, width, e, -⟩ := periodStart_eq (h.channels hk) (h.pairs hk)
  rw [e]
  exact h.setChannel rfl rfl fun out => absurd (att.symm.trans out) nofun

theorem State.Sound.beginDose (grant shots drops : Nat) : (s.beginDose k grant shots drops).Sound := by
  have away {c p} (out : s.isAttached = false) : Machine.parted c p = true := absurd (att.symm.trans out) nofun
  rw [beginDose_eq (h.channels hk) (h.pairs hk)]
  split
  · obtain ⟨trim, width, e, -⟩ := periodStart_eq (k := k)
      (s := s.setChannel k ((s.dc k).begun (s.lineConst (s.dc k).line).shotSize grant shots drops) (s.firstWidth k))
      (by simpa using h.channels hk) (by simpa using h.pairs hk)
    rw [e, setChannel_setChannel]
    exact h.setChannel rfl rfl away
  · exact h.setChannel rfl rfl away

theorem State.Sound.refuseGrant (rest : (s.mp k).phase = .stopped) (grant : Nat) : (s.refuseGrant k grant).Sound := by
  rw [refuseGrant_eq (h.channels hk)]
  exact (h.offer _ _).setChannel (beq_iff_eq.2 rest) (h.coupled.lawful k hk) fun out => absurd (att.symm.trans out) nofun

end

omit hk

theorem State.Sound.grantTell (k : Nat) (g : Holder) : (s.grantTell k g).Sound := by
  by_cases stays : (s.dc k).state = .idle ∨ (s.dc k).state = .settling ∨ (s.dc k).state = .shooting ∨ (s.dc k).state = .releasing
  · rw [grantTell_stays stays]
    exact h
  · simp only [not_or] at stays
    obtain ⟨busy, settling, shooting, releasing⟩ := stays
    have hk := h.coupled.lt_of_busy busy
    have att := h.attached_of_busy busy fun e => absurd e shooting
    have rest : (s.mp k).phase = .stopped := by
      have agree := h.coupled.agree k hk
      cases st : (s.dc k).state <;> simp_all [Machine.coupled]
    unfold State.grantTell
    repeat' split
    · exact h.refuseGrant hk att rest _
    · exact h.beginDose hk att _ _ _
    · exact h.refuseGrant hk att rest _
    · exact h.beginDose hk att _ _ _
    · exact h.refuseGrant hk att rest _
    all_goals exact h

/-! ### Tells about a line (R108, R114, R120) -/

theorem State.Sound.released (k : Nat) : (s.released k).Sound := by
  unfold State.released
  split
  · next st =>
    have busy : (s.dc k).state ≠ .idle := by rw [st]; nofun
    have hk := h.coupled.lt_of_busy busy
    split
    · exact h
    · refine h.modDc hk _ ?_ fun out => absurd ((h.attached_of_busy busy (by rw [st]; nofun)).symm.trans out) nofun
      simpa [Machine.coupled, st] using h.coupled.agree k hk
    · exact h.report hk _
    · exact h.report hk _
  · exact h

theorem State.Sound.lineTell (att : s.isAttached = true) (k : Nat) (tell : LineTell) : (s.lineTell k tell).Sound := by
  have hk (ne : (s.dc k).state ≠ .idle) : k < 4 := h.coupled.lt_of_busy ne
  have reported (ne : (s.dc k).state ≠ .idle) out : (s.report k out).Sound := h.report (hk ne) out
  unfold State.lineTell
  split
  · next st =>
    have ne : (s.dc k).state ≠ .idle := by rw [st]; nofun
    have agree := h.coupled.agree k (hk ne)
    simp only [Machine.coupled, st] at agree
    repeat' split
    · exact h.modDc (hk ne) _ agree fun out => absurd (att.symm.trans out) nofun
    · exact h
    · exact (h.offer _ _).modDc (hk ne) _ agree fun out => absurd (att.symm.trans out) nofun
  · next st => exact reported (by rw [st]; nofun) _
  · next st => exact reported (by rw [st]; nofun) _
  · next st => exact reported (by rw [st]; nofun) _
  · exact h.released k
  · exact h.released k
  · exact h.released k
  · next st =>
    rw [standDown_report]
    exact reported (by rw [st]; nofun) _
  · next st =>
    have ne : (s.dc k).state ≠ .idle := by rw [st]; nofun
    obtain ⟨drain, lawful⟩ := cut_drains true (h.coupled.agree k (hk ne)) (h.coupled.lawful k (hk ne)) st
    exact h.modBoth (hk ne) _ _ (by simp [Machine.coupled, st, drain]) lawful fun out => absurd (att.symm.trans out) nofun
  · next st => exact reported (by rw [st]; nofun) _
  · next st => exact reported (by rw [st]; nofun) _
  · exact h

/-! ### Captures and the own limit (R111, R117, R130) -/

theorem State.Sound.afterShot {k : Nat} (st : (s.dc k).state = .shooting) (m p : Nat) (overflow : Bool) :
    (s.afterShot k m p overflow).Sound := by
  have busy : (s.dc k).state ≠ .idle := by rw [st]; nofun
  have hk := h.coupled.lt_of_busy busy
  have reported out : ((s.modMp k Pair.standDown).report k out).Sound := standDown_report s k out ▸ h.report hk out
  have back (ne : (s.dc k).stopCause ≠ .detached) (g : Channel → Channel) (state : (g (s.dc k)).state = (s.dc k).state)
      (cause : (g (s.dc k)).stopCause = (s.dc k).stopCause) (drops : Nat) (o : LineOutcome) :
      ((s.modDc k g).giveBack k drops o).Sound :=
    (h.relabel hk g state cause).giveBack hk (h.attached_of_busy busy fun _ => ne) drops o
  by_cases lineOut : (s.dc k).stopCause = .lineOut
  · rw [afterShot_lineOut lineOut]
    exact reported _
  by_cases detached : (s.dc k).stopCause = .detached
  · rw [afterShot_detached detached]
    exact reported _
  cases run : isRunaway m p overflow with
  | true =>
    rw [afterShot_runaway ⟨lineOut, detached⟩ run]
    exact back detached (fun c => { c with result := .failed .runaway }) rfl rfl _ _
  | false =>
    cases cause : (s.dc k).stopCause with
    | lineOut => exact absurd cause lineOut
    | detached => exact absurd cause detached
    | ownLimit =>
      rw [afterShot_ownLimit run cause]
      exact back detached _ (ending_keeps _).1 (ending_keeps _).2 _ _
    | stopped =>
      rw [afterShot_stopped run cause]
      exact back detached (fun c => { c with result := .failed .stopped }) rfl rfl _ _
    | none =>
      by_cases short : 2 * m < p
      · rw [afterShot_short run cause short]
        exact back detached _ (afterShort_keeps _).1 (afterShort_keeps _).2 _ _
      · by_cases ends : (s.dc k).atEnd = true ∨ (s.dc k).grant.askedShots ≤ (s.dc k).grant.shotsDone
        · rw [afterShot_ends run cause (Nat.le_of_not_lt short) ends]
          exact back detached _ (ending_keeps _).1 (ending_keeps _).2 _ _
        · simp only [not_or, Bool.not_eq_true, Nat.not_le] at ends
          rw [afterShot_goesOn run cause (Nat.le_of_not_lt short) ends.1 ends.2]
          exact h.periodStart hk (h.attached_of_busy busy fun _ => detached)

theorem State.Sound.capture (k : Nat) (shot : (s.mp k).phase = .closed ∨ (s.mp k).phase = .drain) : (s.captureShot k).Sound := by
  have hk := h.coupled.lt_of_phase (k := k) (by rcases shot with e | e <;> rw [e] <;> nofun)
  have st : (s.dc k).state = .shooting := by
    have agree := h.coupled.agree k hk
    cases st : (s.dc k).state <;> rcases shot with e | e <;> simp_all [Machine.coupled]
  have counted m p : ((s.modMp k Pair.capture).modDc k fun c => c.count m p).Sound :=
    h.modBoth hk _ _ (h.coupled.agree k hk) (h.coupled.lawful k hk) fun out => h.parted out k hk
  refine State.Sound.afterShot (counted _ _) ?_ _ _ _
  rw [modMp_modDc (h.channels hk) (h.pairs hk), dc_setChannel_self _ _ (h.channels hk)]
  exact st

theorem State.Sound.ownLimit (k : Nat) : (s.ownLimit k).Sound := by
  unfold State.ownLimit
  split
  · next st =>
    have busy : (s.dc k).state ≠ .idle := by rw [st]; nofun
    have hk := h.coupled.lt_of_busy busy
    exact (h.relabel hk (fun c => { c with result := .goOn }) rfl rfl).giveBack hk (h.attached_of_busy busy (by rw [st]; nofun)) 0 .good
  · next st cause =>
    have busy : (s.dc k).state ≠ .idle := by rw [st]; nofun
    have hk := h.coupled.lt_of_busy busy
    obtain ⟨drain, lawful⟩ := cut_drains false (h.coupled.agree k hk) (h.coupled.lawful k hk) st
    exact h.modBoth hk _ _ (by simp [Machine.coupled, st, drain]) lawful fun out =>
      absurd ((h.attached_of_busy busy (by rw [cause]; nofun)).symm.trans out) nofun
  · exact h

/-! ### Hand-overs and what is made at the end of an event (R143, R144) -/

theorem State.Sound.handNext (slot : Nat) : (s.handNext slot).Sound := by
  have handed : (s.modOrder slot fun o => { o with handed := o.handed + 1 }).Sound := h.same rfl rfl
  unfold State.handNext
  split
  · next o k _ free =>
    split
    · next ready =>
      split
      · obtain ⟨lt, idle, -⟩ := List.findIdx?_eq_some_iff_getElem.1 free
        have hk : k < 4 := h.coupled.channels ▸ lt
        refine handed.handOver hk ready.2.2 ?_ _ _ _
        show (s.dc k).state = .idle
        rw [State.dc, List.getD_eq_getElem _ _ lt]
        exact beq_iff_eq.1 idle
      · exact h
    · exact h
  · exact h

theorem State.Sound.dose : s.dose.Sound := by
  unfold State.dose
  split
  · exact h
  · exact State.Sound.of ((((h.handNext _).handNext _).handNext _).handNext _) (sameBay_endTint _ _) (dosing_endTint _ _)

theorem State.Sound.settle : s.settle.Sound := by
  have chosen : s.claimMixer.chooseCradle.Sound :=
    State.Sound.of (h.of (sameBay_claimMixer s) (dosing_claimMixer s)) (sameBay_chooseCradle _) (dosing_chooseCradle _)
  have gated : s.claimMixer.chooseCradle.requestRush.openGate.Sound :=
    State.Sound.of (chosen.of (sameBay_requestRush _) (dosing_requestRush _)) (sameBay_openGate _) (dosing_openGate _)
  exact State.Sound.of (gated.dose.of (sameBay_callOutfeed _) (dosing_callOutfeed _)) (sameBay_queueTickets 8 _)
    (dosing_queueTickets 8 _)

theorem State.Sound.cancelOrder {t : State} {slot : Nat} (cancelled : s.cancelOrder slot = some t) : t.Sound := by
  have bay := sameBay_cancelOrder s t slot cancelled
  unfold State.cancelOrder at cancelled
  split at cancelled
  · cases cancelled
    exact h.of bay (dosing_finish _ _ _ _)
  · cases cancelled
    exact h.of bay ((dosing_finish _ _ _ _).trans (dosing_modPdu _ _))
  · cases cancelled
    exact h.of bay ((dosing_reject _ _ _).trans (dosing_stopFill _ _))
  · cases cancelled
    exact h.stopOrder _ _
  · cases cancelled

end

/-! ### Leaving the bay (R38, R40, R121) -/

/-- R121: every channel is IDLE or drains after a detach. -/
structure State.Apart (s : State) : Prop where
  coupled : s.Coupled
  parted : ∀ k, k < 4 → parted (s.dc k) (s.mp k) = true

theorem State.Apart.sound {s t : State} (h : s.Apart) (same : t.dosing = s.dosing) : t.Sound where
  coupled := h.coupled.of_dosing same
  parted _ k hk := by
    rw [dc_of_dosing same, mp_of_dosing same]
    exact h.parted k hk

theorem leaveChannel_parted {s : State} (h : s.Coupled) {k : Nat} (hk : k < 4) :
    parted ((s.leaveChannel k).dc k) ((s.leaveChannel k).mp k) = true := by
  cases st : (s.dc k).state
  case shooting =>
    have one := oneChannel_leaveChannel_shooting h hk st
    rw [one.dc_self h hk, one.mp_self h hk]
    simp [parted, st, (cut_drains false (h.agree k hk) (h.lawful k hk) st).1]
  case settling =>
    rw [(oneChannel_leaveChannel_settling h hk st).dc_self h hk]
    rfl
  case idle =>
    have stays : s.leaveChannel k = s := by unfold State.leaveChannel; rw [st]
    simp [stays, parted, st]
  all_goals
    have e : s.leaveChannel k = s.writeReport k (.failed .detached) := by unfold State.leaveChannel; rw [st]; rfl
    rw [e, (oneChannel_writeReport h hk _).dc_self h hk]
    rfl

theorem leaveChannels_parted {s : State} (h : s.Coupled) : ∀ n, n ≤ 4 →
    ∀ k, k < n → parted ((s.leaveChannels n).dc k) ((s.leaveChannels n).mp k) = true
  | 0, _, _, hk => absurd hk (Nat.not_lt_zero _)
  | n + 1, hn, k, hk => by
    have step : s.leaveChannels (n + 1) = (s.leaveChannels n).leaveChannel n := by
      simp [State.leaveChannels, List.range_succ]
    have coupled := (leaveChannels_left h n (Nat.le_of_succ_le hn)).1
    rw [step]
    rcases Nat.lt_succ_iff_lt_or_eq.1 hk with hk | rfl
    · obtain ⟨c, p, one, -⟩ := leaveChannel_leaves coupled hn
      rw [one.dc_ne (Nat.ne_of_gt hk), one.mp_ne (Nat.ne_of_gt hk)]
      exact leaveChannels_parted h n (Nat.le_of_succ_le hn) k hk
    · exact leaveChannel_parted coupled hn

theorem leaveBay_apart {s : State} (h : s.Coupled) (listen : Listen) : (s.leaveBay listen).Apart := by
  have cleared : (s.bayCleared listen).Coupled := ⟨h.channels, h.pairs, h.agree, h.lawful⟩
  have left := cleared.of_dosing (dosing_leaveBook _)
  rw [leaveBay_eq]
  exact ⟨(leaveChannels_left left 4 (Nat.le_refl 4)).1, leaveChannels_parted left 4 (Nat.le_refl 4)⟩

section
variable {s : State} (h : s.Sound)
include h

theorem State.Sound.detach (reason : DetachReason) : (s.detach reason).Sound :=
  (leaveBay_apart h.coupled _).sound ((dosing_enter _ _).trans (dosing_modSsl _ _))

theorem State.Sound.ownLeave : s.ownLeave.Sound :=
  (leaveBay_apart h.coupled _).sound ((dosing_enter _ _).trans (dosing_modSsl _ _))

/-! ### The takes (R10) -/

theorem State.Sound.backToWaiting (refill : Bool) : (s.backToWaiting refill).Sound := by
  have back : State.Sound { s with blu := s.blu.backToWaiting refill } := h.same rfl rfl
  unfold State.backToWaiting State.struckTell
  repeat' split
  · exact h
  · next k _ _ claims =>
    have claiming : (s.dc k).state = .claiming := by
      simp only [Bool.and_eq_true, beq_iff_eq] at claims
      exact claims.1.2
    exact back.report (h.coupled.lt_of_busy (by rw [claiming]; nofun)) _
  · exact back
  · exact back

theorem State.Sound.bookTake (sender : Nat) (n : Notice) : (s.bookTake sender n).Sound := by
  unfold State.bookTake
  split
  · exact h.same rfl rfl
  · exact (h.backToWaiting false).same rfl rfl

section
variable (att : s.isAttached = true)
include att

theorem State.Sound.applyEffect (e : Effect) : (s.applyEffect e).Sound := by
  have started key holder grant limit : (s.startTimer key holder grant limit).Sound := h.same rfl rfl
  unfold State.applyEffect
  cases e with
  | lineEnded line holder => exact h.same rfl rfl
  | mixerEnded m station grant => exact h.same rfl rfl
  | lineGranted line holder =>
    simp only [State.lineGranted]
    repeat' split
    · exact (started _ _ _ _).grantTell _ _
    · exact (started _ _ _ _).offer _ _
    · exact started _ _ _ _
  | mixerGranted m station grant time =>
    simp only
    split
    · exact (started _ _ _ _).of (sameBay_mixerGranted _ _ _ _) (dosing_mixerGranted _ _ _ _)
    · exact started _ _ _ _
  | tellLine line tell =>
    simp only
    split
    · exact h.lineTell att _ _
    · exact h
  | tellBook tell => exact h.of (sameBay_bookTell s tell) (dosing_bookTell s tell)

theorem State.Sound.applyEffects (es : List Effect) : (s.applyEffects es).Sound := by
  induction es generalizing s with
  | nil => exact h
  | cons e es ih =>
    refine ih (h.applyEffect att e) ?_
    rw [State.isAttached, (keepsTable_applyEffect s e).ssl]
    exact att

theorem State.Sound.takeEffects (t : Table) (es : List Effect) {cursor : State → State}
    (keeps : ∀ u, KeepsTable u (cursor u)) (dosing : ∀ u, (cursor u).dosing = u.dosing) : (s.takeEffects t es cursor).Sound := by
  have table : State.Sound { s with bt := t } := h.same rfl rfl
  have ended := table.applyEffects att (es.filter Effect.ends)
  have moved : (cursor (State.applyEffects { s with bt := t } (es.filter Effect.ends)).cursorPrune).Sound :=
    State.Sound.same (ended.same (congrArg Ssl.state (keepsTable_cursorPrune _).ssl) (dosing_cursorPrune _))
      (congrArg Ssl.state (keeps _).ssl) (dosing _)
  refine moved.applyEffects ?_ _
  have kept := (((keepsTable_applyEffects { s with bt := t } (es.filter Effect.ends)).trans (keepsTable_cursorPrune _)).trans (keeps _)).ssl
  rw [State.isAttached, kept]
  exact att

theorem State.Sound.applyTake (sender : Nat) (n : Notice) : (s.applyTake sender n).Sound := by
  unfold State.applyTake
  split
  · exact h.takeEffects att _ _ (fun u => keepsTable_giveImage u _ _ _) fun u => dosing_giveImage u _ _ _
  · unfold State.formedAttached
    split
    · exact h.takeEffects att _ _ KeepsTable.refl fun _ => rfl
    · exact h.takeEffects att _ _ (fun u => keepsTable_giveImage u _ _ _) fun u => dosing_giveImage u _ _ _
  · refine h.takeEffects att _ _ (fun u => ?_) fun u => ?_
    all_goals split
    · exact keepsTable_cursorAdvance u
    · exact .refl u
    · exact dosing_cursorAdvance u
    · rfl
  · refine h.takeEffects att _ _ (fun u => ?_) fun u => ?_
    all_goals split
    · exact keepsTable_cursorDrop u _
    · exact .refl u
    · exact dosing_cursorDrop u _
    · rfl
  · exact h.takeEffects att _ _ KeepsTable.refl fun _ => rfl

theorem State.Sound.takeAttached (sender : Nat) (n : Notice) : (s.takeAttached sender n).Sound := by
  have counted : ((s.applyTake sender n).modBt Table.counted).Sound := (h.applyTake att sender n).same rfl rfl
  unfold State.takeAttached
  repeat' split
  · exact h.detach _
  · exact h.ownLeave
  · exact (leaveBay_apart h.coupled _).sound (dosing_lateJoinSelf _)
  · unfold State.afterTake
    simp only
    split
    · exact counted
    · exact counted.detach _

end

theorem State.Sound.take (sender : Nat) (n : Notice) : (s.take sender n).Sound := by
  have booked := h.bookTake sender n
  unfold State.take State.deliver
  split
  · refine State.Sound.settle ?_
    split
    · next st => exact booked.outside (by simp [State.isAttached, st]) (dosing_takeForming _ _ _)
    · next st => exact booked.outside (by simp [State.isAttached, st]) (dosing_takeJoining _ _ _)
    · next st => exact booked.takeAttached (by simp [State.isAttached, st]) _ _
    all_goals exact booked
  · exact h

theorem State.Sound.void (heard : Bits) : (s.void heard).Sound := by
  have own : s.ownVoid.Sound := by
    have counted : ((s.backToWaiting true).modBlu fun b => { b with voids := b.voids + 1 }).Sound :=
      (h.backToWaiting true).same rfl rfl
    unfold State.ownVoid
    simp only
    split
    · exact counted.detach _
    · exact counted
  have other : (s.otherVoid heard).Sound := by
    have counted : ((s.backToWaiting false).modBlu fun b => { b with objections := b.objections + 1 }).Sound :=
      (h.backToWaiting false).same rfl rfl
    unfold State.otherVoid
    simp only
    repeat' split
    · exact counted.detach _
    · exact counted
    · exact h.backToWaiting _
  unfold State.void
  split
  · refine State.Sound.settle ?_
    split
    · exact own
    · exact other
  · exact h

/-! ### The station timers and the hold timers -/

theorem State.Sound.firstListenExpiry : s.firstListenExpiry.Sound := by
  unfold State.firstListenExpiry
  split
  · exact h.same rfl rfl
  · exact h

theorem State.Sound.formationWindowExpiry : s.formationWindowExpiry.Sound := by
  unfold State.formationWindowExpiry
  simp only
  repeat' split
  · exact h.same rfl rfl
  · exact h.same rfl rfl
  · exact h

theorem State.Sound.imageTimerExpiry : s.imageTimerExpiry.Sound := by
  unfold State.imageTimerExpiry
  split
  · next running =>
    have out : s.isAttached = false := by simp [State.isAttached, running.1]
    split
    · exact h.outside out (dosing_enter _ _)
    · exact h.outside out rfl
  · exact h

theorem State.Sound.rejoinTimerExpiry : s.rejoinTimerExpiry.Sound := by
  unfold State.rejoinTimerExpiry
  split
  · next running =>
    have out : s.isAttached = false := by simp [State.isAttached, running.1]
    split
    · exact h.outside out (dosing_enter _ _)
    · exact h.outside out (dosing_enter _ _)
  · exact h

theorem State.Sound.ownLineTimerExpiry (line : Nat) : (s.ownLineTimerExpiry line).Sound := by
  have expired : (s.expireTimer (.line line)).Sound := h.same rfl rfl
  unfold State.ownLineTimerExpiry
  repeat' split
  · exact (expired.ownLimit _).settle
  · exact expired
  · exact h

theorem State.Sound.ownMixerTimerExpiry (m : Nat) : (s.ownMixerTimerExpiry m).Sound := by
  have expired : (s.expireTimer (.mixer m)).Sound := h.same rfl rfl
  unfold State.ownMixerTimerExpiry
  repeat' split
  · exact State.Sound.settle ((expired.of (sameBay_dropRunOf _ _ m) (dosing_dropRunOf _ _ m)).of (sameBay_endMix _ _ _ _ _ _)
      (dosing_endMix _ _ _ _ _ _))
  · exact expired
  · exact h

theorem State.Sound.watchTimerExpiry (key : HoldKey) : (s.watchTimerExpiry key).Sound := by
  unfold State.watchTimerExpiry
  simp only
  repeat' split
  · exact h.same rfl rfl
  · exact h.same rfl rfl
  · exact h

/-! ### The metering pairs (chapter 7) -/

theorem State.Sound.settleExpiry (k : Nat) : (s.settleExpiry k).Sound := by
  unfold State.settleExpiry
  split
  · next settling =>
    have hk := h.coupled.lt_of_phase (k := k) (by rw [settling.1]; nofun)
    have agree := h.coupled.agree k hk
    have st : (s.dc k).state = .settling := by
      cases st : (s.dc k).state <;> simp_all [Machine.coupled]
    exact h.periodStart hk (h.attached_of_busy (k := k) (by rw [st]; nofun) (by rw [st]; nofun))
  · exact h

theorem State.Sound.valveExpiry (k : Nat) : (s.valveExpiry k).Sound := by
  unfold State.valveExpiry
  split
  · next opened =>
    have hk := h.coupled.lt_of_phase (k := k) (by rw [opened.1]; nofun)
    have agree := h.coupled.agree k hk
    have lawful := h.coupled.lawful k hk
    have st : (s.dc k).state = .shooting := by
      cases st : (s.dc k).state <;> simp_all [Machine.coupled]
    have closed : (s.mp k).valveClose.lawful = true := by
      simp_all [Pair.lawful, Pair.valveClose]
    rw [modMp_eq_setChannel _ (h.pairs hk)]
    refine h.setChannel (by simp [Machine.coupled, st, Pair.valveClose]) closed fun out => ?_
    simpa [Machine.parted, st, opened.1] using h.parted out k hk
  · exact h

theorem State.Sound.captureExpiry (k : Nat) : (s.capture k).Sound := by
  unfold State.capture
  split
  · next shot => exact (h.capture k shot.1).settle
  · exact h

theorem State.Sound.tapMeterPulse (line : Nat) : (s.tapMeterPulse line).Sound := by
  have each k (hk : k < 4) : (s.tapMeterPulse line).mp k = if (s.mp k).bound = some line then (s.mp k).pulse else s.mp k := by
    have lt : k < s.mps.length := h.pairs hk
    simp [State.mp, State.tapMeterPulse, List.getD_eq_getElem?_getD, lt]
  have pulsed (p : Pair) : p.pulse.phase = p.phase ∧ p.pulse.lawful = p.lawful := by
    unfold Pair.pulse
    split <;> exact ⟨rfl, rfl⟩
  have phase k (hk : k < 4) : ((s.tapMeterPulse line).mp k).phase = (s.mp k).phase := by
    rw [each k hk]
    split
    · exact (pulsed _).1
    · rfl
  refine ⟨⟨h.coupled.channels, ?_, fun k hk => ?_, fun k hk => ?_⟩, fun out k hk => ?_⟩
  · exact List.length_map _ |>.trans h.coupled.pairs
  · rw [Machine.coupled, phase k hk]
    exact h.coupled.agree k hk
  · rw [each k hk]
    split
    · rw [(pulsed _).2]
      exact h.coupled.lawful k hk
    · exact h.coupled.lawful k hk
  · rw [Machine.parted, phase k hk]
    exact h.parted out k hk

/-! ### The plant (chapter 9) -/

theorem State.Sound.seatingTimerExpiry (code : Nat) : (s.seatingTimerExpiry code).Sound := by
  have arrived : (s.modPdu fun p => { p with seatingTimer := none, arrived := some code }).Sound := h.same rfl rfl
  unfold State.seatingTimerExpiry
  simp only
  split
  · refine State.Sound.settle ?_
    split
    · exact arrived.of (sameBay_judgeTin _ _ _) (dosing_judgeTin _ _ _)
    · exact arrived
  · exact h

theorem State.Sound.tinRemoved : s.tinRemoved.Sound := by
  have cancelled : ∀ slot, ((s.cancelOrder slot).getD s).Sound := fun slot => by
    cases e : s.cancelOrder slot with
    | none => exact h
    | some t => exact h.cancelOrder e
  unfold State.tinRemoved
  repeat' split
  · exact h
  · exact h.same rfl rfl
  · exact cancelled _
  · exact cancelled _
  · exact h

theorem State.Sound.tinPresentRise : s.tinPresentRise.Sound := by
  unfold State.tinPresentRise
  split
  · exact h
  · exact h.same rfl rfl

theorem State.Sound.tinPresentFall : s.tinPresentFall.Sound := by
  have away : State.Sound { s with
      pins := { s.pins with tinPresent := false }, pdu := { s.pdu with seatingTimer := none, arrived := none } } := h.same rfl rfl
  unfold State.tinPresentFall
  simp only
  repeat' split
  · exact h
  · exact away.tinRemoved.settle
  · exact away

theorem State.Sound.fillLimitExpiry : s.fillLimitExpiry.Sound := by
  have rested : (s.modFill Fill.rest).Sound := h.same rfl rfl
  unfold State.fillLimitExpiry
  split
  · exact (rested.of (sameBay_baseFaulted _ _ _) (dosing_baseFaulted _ _ _)).settle
  · exact h

theorem State.Sound.runOnExpiry : s.runOnExpiry.Sound := by
  have rested : (s.modFill Fill.rest).Sound := h.same rfl rfl
  unfold State.runOnExpiry
  split
  · refine State.Sound.settle ?_
    split
    · exact rested.of (sameBay_baseFaulted _ _ _) (dosing_baseFaulted _ _ _)
    · exact rested.of (sameBay_baseDone _ _) (dosing_baseDone _ _)
  · exact h

theorem State.Sound.pressTimerExpiry : s.pressTimerExpiry.Sound := by
  have lifted : (s.modPress Press.lift).Sound := h.same rfl rfl
  unfold State.pressTimerExpiry
  repeat' split
  · exact (lifted.of (sameBay_lidHome _) (dosing_lidHome _)).settle
  · exact h.same rfl rfl
  · exact (lifted.of (sameBay_lidFaulted _) (dosing_lidFaulted _)).settle
  · exact h

theorem State.Sound.modPusher (p : Pusher) (f : OpRec → OpRec) : (s.modPusher p f).Sound :=
  h.of (sameBay_modPusher s p f) (dosing_modPusher s p f)

theorem State.Sound.pusherPulseExpiry (p : Pusher) : (s.pusherPulseExpiry p).Sound := by
  unfold State.pusherPulseExpiry
  repeat' split
  · exact ((h.modPusher p _).of (sameBay_transferConfirmed _ p) (dosing_transferConfirmed _ p)).settle
  · exact h.modPusher p _
  · exact h

theorem State.Sound.confirmTimerExpiry (p : Pusher) : (s.confirmTimerExpiry p).Sound := by
  unfold State.confirmTimerExpiry
  split
  · exact ((h.modPusher p _).of (sameBay_transferFailed _ p) (dosing_transferFailed _ p)).settle
  · exact h

theorem State.Sound.withPins (p : Pins) : (s.withPins p).Sound := h.same rfl rfl

theorem State.Sound.confirmBySensor (p : Pusher) : (s.confirmBySensor p).Sound :=
  h.same (congrArg Ssl.state (framed_confirmBySensor s p).ssl) (dosing_confirmBySensor s p)

theorem State.Sound.outfeedSensorChange (on : Bool) : (s.outfeedSensorChange on).Sound := by
  have sensed p : ((s.withPins { s.pins with outfeed := on }).confirmBySensor p).Sound := (h.withPins _).confirmBySensor p
  unfold State.outfeedSensorChange
  simp only
  repeat' split
  · exact h
  · exact (sensed .toOutfeed).settle
  · exact ((sensed .toShelf).of (sameBay_outfeedEmptied _) (dosing_outfeedEmptied _)).settle

theorem State.Sound.occupiedInputChange (m : Nat) (on : Bool) : (s.occupiedInputChange m on).Sound := by
  unfold State.occupiedInputChange
  split
  · exact h
  · exact ((h.withPins { s.pins with occupied := s.pins.occupied.set m on }).confirmBySensor (.toMixer m)).settle

theorem State.Sound.chutePulseEnded : s.chutePulseEnded.Sound := by
  have rested : (s.modPdu fun p => { p with chute := p.chute.rest }).Sound := h.same rfl rfl
  unfold State.chutePulseEnded
  simp only
  split
  · refine State.Sound.settle ?_
    split
    · exact rested.of (sameBay_finish _ _ _ _) (dosing_finish _ _ _ _)
    · exact rested
  · exact h

theorem State.Sound.doneInputRise (m : Nat) : (s.doneInputRise m).Sound := by
  have raised : (s.setDoneInput m true).Sound := h.same rfl rfl
  have rested : ((s.setDoneInput m true).modRun m fun _ => RunRec.rest).Sound := h.same rfl rfl
  unfold State.doneInputRise
  repeat' split
  · exact h
  · exact (rested.of (sameBay_mixerDone _ m) (dosing_mixerDone _ m)).settle
  · exact raised

theorem State.Sound.doneInputFall (m : Nat) : (s.doneInputFall m).Sound := by
  unfold State.doneInputFall
  repeat' split
  · exact h
  · exact h.same rfl rfl
  · exact h.same rfl rfl

/-! ### The terminal (chapter 10) -/

theorem State.Sound.command (kind : Nat) {act : State → Answer} (acted : (act s).state.Sound) : (s.command kind act).Sound := by
  unfold State.command
  split
  · exact h.modTlu _
  · exact acted.modTlu _

theorem State.Sound.setupAnswer (block : SetupBlock) : (s.setupAnswer block).state.Sound := by
  unfold State.setupAnswer
  split
  · next st =>
    have out : s.isAttached = false := by rcases st with e | e | e <;> simp [State.isAttached, e]
    repeat' split
    · exact h
    · exact h.outside out (dosing_enter _ _)
    · exact h
  · exact h

theorem State.Sound.startAnswer : s.startAnswer.state.Sound := by
  unfold State.startAnswer
  split
  · next st => exact h.outside (by simp [State.isAttached, st]) (dosing_enter _ _)
  · exact h

theorem State.Sound.leaveAnswer : s.leaveAnswer.state.Sound := by
  unfold State.leaveAnswer State.queueTerminal
  repeat' split
  · exact h.same rfl rfl
  all_goals exact h

theorem State.Sound.askBay (equipped levelOk : Bool) (n : Notice) : (s.askBay equipped levelOk n).state.Sound := by
  unfold State.askBay State.queueTerminal
  repeat' split
  · exact h
  · exact h
  · exact h
  · exact h.same rfl rfl
  · exact h

theorem State.Sound.orderAnswer (f : OrderFields) : (s.orderAnswer f).state.Sound := by
  unfold State.orderAnswer
  split
  · exact h
  · exact State.Sound.settle (h.same rfl rfl)

theorem State.Sound.cancelAnswer (tag : Nat) : (s.cancelAnswer tag).state.Sound := by
  unfold State.cancelAnswer
  repeat' split
  · exact h
  · exact h
  · next cancelled => exact (h.cancelOrder cancelled).settle
  · exact h

theorem State.Sound.priorityAnswer (tag level : Nat) : (s.priorityAnswer tag level).state.Sound := by
  have changed slot f : (s.modOrder slot f).Sound := h.same rfl rfl
  unfold State.priorityAnswer
  repeat' split
  · exact h
  · exact h
  · exact h
  · exact h
  · exact (changed _ _).settle
  · exact h

theorem State.Sound.readTicketAnswer : s.readTicketAnswer.state.Sound := by
  unfold State.readTicketAnswer
  split
  · exact h
  · exact (h.modTlu _).settle

end

/-! ### Every command -/

/-- Whatever command comes, the law of channels and pairs stands. -/
theorem exec_sound (c : Instr) {s : State} (h : s.Sound) : ∃ t, exec c s = .next t ∧ t.Sound := by
  have ite {p : Prop} [Decidable p] {t : State} (ht : t.Sound) : (if p then t else s).Sound := by
    split
    · exact ht
    · exact h
  cases c with
  | hardwareReset =>
    refine ⟨_, rfl, ?_⟩
    have reset : State.reset.Sound := (sound_iff _).2 ⟨lawsHoldAtReset.1, lawsHoldAtReset.2.1⟩
    exact reset.same rfl rfl
  | idleWait => exact ⟨_, rfl, ite (h.same rfl rfl)⟩
  | beginNotice rival =>
    refine ⟨_, rfl, ?_⟩
    unfold State.beginNotice
    repeat' split
    · exact h
    · exact h.same rfl rfl
    · exact h
  | turnSpentIdleClear => exact ⟨_, rfl, ite (h.same rfl rfl)⟩
  | void heard => exact ⟨_, rfl, h.void heard⟩
  | joinTaken | formedTaken | imageTaken | imageEndTaken | leaveTaken | claimTaken | withdrawTaken | releaseTaken | refillTaken
  | lineOutTaken | lineReturnTaken | rushTakeTaken | rushDropTaken | mixClaimTaken | mixWithdrawTaken | mixReleaseTaken
  | mixerReturnTaken | revokeTaken => exact ⟨_, rfl, h.take _ _⟩
  | setup block => exact ⟨_, rfl, h.command 1 (h.setupAnswer block)⟩
  | start => exact ⟨_, rfl, h.command 2 h.startAnswer⟩
  | leave => exact ⟨_, rfl, h.command 3 h.leaveAnswer⟩
  | order fields => exact ⟨_, rfl, h.command 4 (h.orderAnswer fields)⟩
  | cancel tag => exact ⟨_, rfl, h.command 5 (h.cancelAnswer tag)⟩
  | priority tag level => exact ⟨_, rfl, h.command 6 (h.priorityAnswer tag level)⟩
  | refill line level => exact ⟨_, rfl, h.command 7 (h.askBay _ _ _)⟩
  | lineReturn line level => exact ⟨_, rfl, h.command 8 (h.askBay _ _ _)⟩
  | lineOut line => exact ⟨_, rfl, h.command 9 (h.askBay _ _ _)⟩
  | mixerReturn mixer => exact ⟨_, rfl, h.command 10 (h.askBay _ _ _)⟩
  | queryStation => exact ⟨_, rfl, h.command 11 (h.modTlu _)⟩
  | queryOrder tag =>
    refine ⟨_, rfl, h.command 12 ?_⟩
    unfold State.queryOrderAnswer
    repeat' split
    all_goals exact h
  | queryLine line =>
    refine ⟨_, rfl, h.command 13 ?_⟩
    unfold State.queryLineAnswer
    repeat' split
    all_goals exact h
  | queryMixers => exact ⟨_, rfl, h.command 14 h⟩
  | readTicket => exact ⟨_, rfl, h.command 15 h.readTicketAnswer⟩
  | unknownCommandKind kind payload =>
    refine ⟨_, rfl, ?_⟩
    split
    · exact h
    · exact h.command kind h
  | commandWhileSending => exact ⟨_, rfl, ite (h.modTlu _)⟩
  | replySent => exact ⟨_, rfl, ite (h.modTlu _)⟩
  | frameDropped => exact ⟨_, rfl, h.modTlu _⟩
  | interByteTimeout => exact ⟨_, rfl, h.modTlu _⟩
  | firstListenExpiry => exact ⟨_, rfl, h.firstListenExpiry⟩
  | formationWindowExpiry => exact ⟨_, rfl, h.formationWindowExpiry⟩
  | imageTimerExpiry => exact ⟨_, rfl, h.imageTimerExpiry⟩
  | rejoinTimerExpiry => exact ⟨_, rfl, h.rejoinTimerExpiry⟩
  | ownLineTimerExpiry line => exact ⟨_, rfl, h.ownLineTimerExpiry line⟩
  | ownMixerTimerExpiry mixer => exact ⟨_, rfl, h.ownMixerTimerExpiry mixer⟩
  | watchTimerExpiry subject => exact ⟨_, rfl, h.watchTimerExpiry subject⟩
  | settleExpiry pair => exact ⟨_, rfl, h.settleExpiry pair⟩
  | valveExpiry pair => exact ⟨_, rfl, h.valveExpiry pair⟩
  | capture pair => exact ⟨_, rfl, h.captureExpiry pair⟩
  | tapMeterPulse line => exact ⟨_, rfl, h.tapMeterPulse line⟩
  | tinPresentRise => exact ⟨_, rfl, h.tinPresentRise⟩
  | seatingTimerExpiry code => exact ⟨_, rfl, h.seatingTimerExpiry code⟩
  | tinPresentFall => exact ⟨_, rfl, h.tinPresentFall⟩
  | baseMeterPulse => exact ⟨_, rfl, h.same rfl rfl⟩
  | basePeriodExpiry => exact ⟨_, rfl, ite (h.same rfl rfl)⟩
  | dutyTimerExpiry => exact ⟨_, rfl, ite (h.same rfl rfl)⟩
  | fillLimitExpiry => exact ⟨_, rfl, h.fillLimitExpiry⟩
  | runOnExpiry => exact ⟨_, rfl, h.runOnExpiry⟩
  | seatTimerExpiry => exact ⟨_, rfl, ite (h.same rfl rfl)⟩
  | lidHomeOn => exact ⟨_, rfl, ite (h.same rfl rfl)⟩
  | pressTimerExpiry => exact ⟨_, rfl, h.pressTimerExpiry⟩
  | pusherPulseExpiry pusher => exact ⟨_, rfl, h.pusherPulseExpiry pusher⟩
  | confirmTimerExpiry pusher => exact ⟨_, rfl, h.confirmTimerExpiry pusher⟩
  | outfeedSensorChange on => exact ⟨_, rfl, h.outfeedSensorChange on⟩
  | occupiedInputChange mixer on => exact ⟨_, rfl, h.occupiedInputChange mixer on⟩
  | chutePulseEnded => exact ⟨_, rfl, h.chutePulseEnded⟩
  | runTimerExpiry mixer => exact ⟨_, rfl, ite (h.same rfl rfl)⟩
  | doneInputRise mixer => exact ⟨_, rfl, h.doneInputRise mixer⟩
  | doneInputFall mixer => exact ⟨_, rfl, h.doneInputFall mixer⟩

theorem step_sound {s t : State} (h : s.Sound) (stepped : step s = .next t) : t.Sound := by
  unfold step at stepped
  split at stepped
  · cases stepped
    exact h
  · next c rest _ =>
    have front : State.Sound { s with pending := rest } := h.same rfl rfl
    obtain ⟨u, hu, sound⟩ := exec_sound c front
    rw [hu] at stepped
    cases stepped
    exact sound

/-- R134: an open tap valve belongs to a pair in OPEN, whose channel is SHOOTING in a bay. -/
theorem State.Sound.tapValve {s : State} (h : s.Sound) {n : Nat} (opened : s.tapValve n = true) : s.ssl.state = .attached
    ∧ ∃ k, k < 4 ∧ (s.mp k).bound = some n ∧ (s.mp k).phase = .opened ∧ (s.dc k).state = .shooting := by
  obtain ⟨p, hp, bound⟩ := List.any_eq_true.1 opened
  simp only [Bool.and_eq_true, beq_iff_eq] at bound
  obtain ⟨bound, valve⟩ := bound
  obtain ⟨k, lt, rfl⟩ := List.getElem_of_mem hp
  have hk : k < 4 := h.coupled.pairs ▸ lt
  have at_k : s.mp k = s.mps[k] := List.getD_eq_getElem _ _ lt
  rw [← at_k] at bound valve
  have phase : (s.mp k).phase = .opened := by
    have lawful := h.coupled.lawful k hk
    cases e : (s.mp k).phase <;> simp_all [Pair.lawful]
  have st : (s.dc k).state = .shooting := by
    have agree := h.coupled.agree k hk
    cases e : (s.dc k).state <;> simp_all [Machine.coupled]
  refine ⟨?_, k, hk, bound, phase, st⟩
  have att : s.isAttached = true := by
    by_contra out
    simpa [Machine.parted, st, phase] using h.parted (by simpa using out) k hk
  simpa [State.isAttached] using att

end Sys2Proof.Machine

namespace Sys2Proof

open Machine

/-- Settles O53: the law holds through every operation and so through every step, and it says where a tap valve may be open. -/
theorem dosingLawKept : Obligations.DosingLawKept := fun s t law lawful stepped =>
  have sound := step_sound ((sound_iff s).2 ⟨law, lawful⟩) stepped
  have kept := (sound_iff t).1 sound
  ⟨kept.1, kept.2, fun _ opened => sound.tapValve opened⟩

end Sys2Proof
end

section
/-! Plans, asked drops, widths and the tests of a shot and of an entry (R106, R110, R111, R113, R127, R128). -/

namespace Sys2Proof.Machine

/-! ### Plans and asked drops (R106) -/

theorem isTrim_iff (p : Plan) (done : Nat) : p.isTrim done = true ↔ p.trim ≠ 0 ∧ done + 1 = p.planned := by
  simp [Plan.isTrim]

/-- R106 (d): the planned drops of the shot after `done` shots, before any correction. -/
def Plan.dropsAt (p : Plan) (size done : Nat) : Nat := if p.isTrim done then p.trim else size

/-- Before the trim shot every shot is a full one. -/
theorem sum_dropsAt_full (p : Plan) (size : Nat) : ∀ asked, p.trim = 0 ∨ asked < p.planned →
    ((List.range asked).map (p.dropsAt size)).sum = asked * size
  | 0, _ => by simp
  | asked + 1, early => by
    have full : p.isTrim asked = false := by
      rw [← Bool.not_eq_true, isTrim_iff]
      rintro ⟨trim, last⟩
      rcases early with none | lt
      · exact trim none
      · exact absurd last (Nat.ne_of_lt lt)
    have before := sum_dropsAt_full p size asked (early.imp_right Nat.lt_of_succ_lt)
    simp [List.range_succ, before, Plan.dropsAt, full, Nat.succ_mul]

section
variable (remaining size : Nat)

theorem planned_of_trim (trim : remaining % size ≠ 0) : (planOf remaining size).planned = remaining / size + 1 := by
  simp [planOf, trim]

/-- R106 (e): the asked drops are the planned drops of the shots asked for. -/
theorem askedDropsOf_eq_sum {asked : Nat} (fits : asked ≤ (planOf remaining size).planned) :
    askedDropsOf size asked (planOf remaining size) = ((List.range asked).map ((planOf remaining size).dropsAt size)).sum := by
  unfold askedDropsOf
  by_cases whole : (planOf remaining size).trim ≠ 0 ∧ asked = (planOf remaining size).planned
  · obtain ⟨trim, rfl⟩ := whole
    have planned := planned_of_trim remaining size trim
    have last : (planOf remaining size).isTrim (remaining / size) = true := (isTrim_iff _ _).2 ⟨trim, planned.symm⟩
    rw [if_pos ⟨trim, rfl⟩, planned, List.range_succ, List.map_append, List.sum_append,
      sum_dropsAt_full _ _ _ (.inr (planned ▸ Nat.lt_succ_self _))]
    simp only [List.map_cons, List.map_nil, List.sum_singleton, Plan.dropsAt, last, if_true]
    rfl
  · rw [if_neg whole, sum_dropsAt_full]
    exact (not_and_or.1 whole).imp not_not.1 fun ne => Nat.lt_of_le_of_ne fits ne

/-- R106: the whole plan doses what remains. -/
theorem askedDropsOf_planned : askedDropsOf size (planOf remaining size).planned (planOf remaining size) = remaining := by
  have split := Nat.div_add_mod' remaining size
  unfold askedDropsOf
  by_cases trim : remaining % size = 0
  · have full : (planOf remaining size).planned = remaining / size := by simp [planOf, trim]
    rw [if_neg fun h => h.1 trim, full]
    omega
  · rw [if_pos ⟨trim, rfl⟩]
    exact split

end

/-! ### Widths (R110) -/

section
variable {full planned size : Nat}

theorem one_le_widthOf : 1 ≤ widthOf full planned size := Nat.le_max_left _ _

/-- R110: a width is no more than half a tick too narrow. -/
theorem lt_widthOf_bound (pos : 0 < size) : 2 * full * planned < (2 * widthOf full planned size + 1) * size := by
  have quotient : (2 * full * planned + size) / (2 * size) ≤ widthOf full planned size := Nat.le_max_right _ _
  have above := Nat.lt_div_mul_add (a := 2 * full * planned + size) (b := 2 * size) (by omega)
  have wider := Nat.mul_le_mul_right (2 * size) quotient
  have expand : (2 * widthOf full planned size + 1) * size = widthOf full planned size * (2 * size) + size := by ring
  omega

/-- R110: a width above 1 is no more than half a tick too wide. -/
theorem widthOf_bound_le (wide : 1 < widthOf full planned size) :
    (2 * widthOf full planned size - 1) * size ≤ 2 * full * planned := by
  have quotient : widthOf full planned size = (2 * full * planned + size) / (2 * size) := by
    unfold widthOf at wide ⊢
    omega
  have below := Nat.div_mul_le_self (2 * full * planned + size) (2 * size)
  rw [← quotient] at below
  have expand : widthOf full planned size * (2 * size) = 2 * widthOf full planned size * size := by ring
  rw [Nat.sub_mul, ← expand]
  omega

theorem widthOf_full (pos : 0 < size) (width : 1 ≤ full) : widthOf full size size = full := by
  have exactly : (2 * full * size + size) / (2 * size) = full := by
    rw [show 2 * full * size + size = size + 2 * size * full by ring, Nat.add_mul_div_left _ _ (by omega),
      Nat.div_eq_of_lt (by omega), Nat.zero_add]
  rw [widthOf, exactly, Nat.max_eq_right width]

theorem widthOf_le_full (pos : 0 < size) (width : 1 ≤ full) (fits : planned ≤ size) : widthOf full planned size ≤ full :=
  (max_le_max_left 1 (Nat.div_le_div_right (Nat.add_le_add_right (Nat.mul_le_mul_left _ fits) _))).trans_eq
    (widthOf_full pos width)

end

theorem correctedTrim_low {trim size : Nat} {balance : Int} (low : (trim : Int) - balance < 1) :
    correctedTrim trim balance size = 1 := by
  unfold correctedTrim
  omega

theorem correctedTrim_high {trim size : Nat} {balance : Int} (pos : 1 ≤ size) (high : (size : Int) < trim - balance) :
    correctedTrim trim balance size = size := by
  unfold correctedTrim
  omega

theorem correctedTrim_within {trim size : Nat} {balance : Int} (low : 1 ≤ (trim : Int) - balance)
    (high : (trim : Int) - balance ≤ size) : (correctedTrim trim balance size : Int) = trim - balance := by
  unfold correctedTrim
  omega

/-! ### The tests (R111, R113) -/

theorem isRunaway_iff (m p : Nat) (overflow : Bool) :
    isRunaway m p overflow = true ↔ p + p / 2 + 2 < m ∨ overflow = true := by
  simp [isRunaway]

section
variable {c : Channel}

theorem endTest_done (most : c.delivered ≤ c.ordered + toleranceOf c.ordered)
    (least : c.ordered ≤ c.delivered + toleranceOf c.ordered) : c.endTest = { c with result := .done } := by
  rw [Channel.endTest, if_neg (Nat.not_lt.2 most), if_neg (Nat.not_lt.2 least)]

theorem endTest_over (more : c.ordered + toleranceOf c.ordered < c.delivered) :
    c.endTest = { c with result := .failed .over } := if_pos more

theorem endTest_under (less : c.delivered + toleranceOf c.ordered < c.ordered) : c.endTest =
    if 2 ≤ c.trimsUsed then { c with result := .failed .under } else { c with trimsUsed := c.trimsUsed + 1, result := .goOn } := by
  rw [Channel.endTest, if_neg (by omega), if_pos less]

end

end Sys2Proof.Machine

namespace Sys2Proof

open Machine

/-- Settles O33: the plan by the sum of its shots, the width by the bounds of a rounded quotient, and what is written by the record of
one channel and pair set in its place. -/
theorem plansWidthsAndTests : Obligations.PlansWidthsAndTests := by
  refine ⟨fun remaining size share _ => ⟨rfl, rfl, rfl, rfl, rfl, rfl, fun asked fits => askedDropsOf_eq_sum _ _ fits,
      askedDropsOf_planned _ _⟩,
    fun full planned size trim balance big width => ?_, isRunaway_iff,
    fun c => ⟨endTest_done, endTest_over, fun less few => ?_, fun less many => ?_⟩, isTrim_iff,
    fun s k next size trim c channels pairs hc hsize htrim => ?_,
    fun s u k c channels pairs hc hu => ?_⟩
  · have pos : 0 < size := by omega
    exact ⟨one_le_widthOf, lt_widthOf_bound pos, widthOf_bound_le, widthOf_full pos width, widthOf_le_full pos width,
      correctedTrim_low, correctedTrim_high pos, correctedTrim_within⟩
  · rw [endTest_under less, if_neg (by omega)]
  · rw [endTest_under less, if_pos many]
  · subst hc hsize htrim
    rw [writeWidth_eq channels pairs, Channel.trimFor, Channel.dropsFor]
    by_cases trim : (s.dc k).plan.isTrim next
    · simp only [trim, if_true]
      rfl
    · simp only [trim, Bool.false_eq_true, if_false]
      rfl
  · subst hc hu
    exact ⟨periodStart_more channels pairs, periodStart_last channels pairs⟩

end Sys2Proof
end

section
/-! A grant at the channel that works its line (R69, R109, R110, R119, R126, R128). -/

namespace Sys2Proof.Machine

section
variable {s : State} {k : Nat} {h : Holder}

/-! ### The dose begun (R109, R126) -/

/-- R109, R126, R128: channel `c` and pair `p` are those of channel `k` once the grant `h` has begun the dose. -/
structure DoseBegun (s : State) (k : Nat) (h : Holder) (c : Channel) (p : Pair) : Prop where
  grant : c.grant = { number := h.grant, askedShots := h.askedShots, askedDrops := h.askedDrops, shotsDone := 0, drops := 0,
                      final := h.askedShots == (s.dc k).plan.planned }
  balance : c.balance = 0
  settles : (s.lineConst (s.dc k).line).settleDelay ≠ 0 →
    c.state = .settling ∧ p = (s.firstWidth k).settleStart (s.lineConst (s.dc k).line).settleDelay
  shoots : (s.lineConst (s.dc k).line).settleDelay = 0 → c.state = .shooting
    ∧ ∃ width, p = { (s.firstWidth k).periodStart (s.lineCal (s.dc k).line).shotPeriod with nextWidth := width }
      ∧ (h.askedShots ≤ 1 → width = (s.firstWidth k).nextWidth)
      ∧ (1 < h.askedShots → width = widthOf (s.lineCal (s.dc k).line).shotWidth
          (if (s.dc k).plan.isTrim 1 then correctedTrim (s.dc k).plan.trim 0 (s.lineConst (s.dc k).line).shotSize
            else (s.lineConst (s.dc k).line).shotSize)
          (s.lineConst (s.dc k).line).shotSize)

theorem grantTell_begun (channels : k < s.dcs.length) (pairs : k < s.mps.length)
    (works : (s.dc k).state = .claiming ∨ (s.dc k).state = .waiting) (wanted : (s.dc k).withdrawPending = false) :
    ∃ c p, s.grantTell k h = s.setChannel k c p ∧ DoseBegun s k h c p := by
  rw [grantTell_begins works wanted, beginDose_eq channels pairs]
  by_cases delay : (s.lineConst (s.dc k).line).settleDelay = 0
  · rw [if_pos delay]
    generalize hb : (s.dc k).begun (s.lineConst (s.dc k).line).shotSize h.grant h.askedShots h.askedDrops = begun
    have self := dc_setChannel_self (s := s) begun (s.firstWidth k) channels
    have pair := mp_setChannel_self (s := s) begun (s.firstWidth k) pairs
    obtain ⟨trim, width, started, last, more⟩ := periodStart_eq (s := s.setChannel k begun (s.firstWidth k)) (k := k)
      (by simpa using channels) (by simpa using pairs)
    rw [self, pair, setChannel_setChannel] at started
    rw [self, pair] at last
    rw [self] at more
    refine ⟨_, _, started, ?_⟩
    subst hb
    exact ⟨rfl, rfl, fun ne => absurd delay ne, fun _ => ⟨rfl, width, rfl, last, more⟩⟩
  · rw [if_neg delay]
    exact ⟨_, _, rfl, rfl, rfl, fun _ => ⟨rfl, rfl⟩, fun e => absurd e delay⟩

section
variable {c : Channel} {p : Pair} (begun : DoseBegun s k h c p)
include begun

theorem DoseBegun.pump : p.pump = true := by
  by_cases delay : (s.lineConst (s.dc k).line).settleDelay = 0
  · obtain ⟨-, width, rfl, -⟩ := begun.shoots delay
    rfl
  · rw [(begun.settles delay).2]
    rfl

theorem DoseBegun.counter : p.counter = (s.mp k).counter := by
  by_cases delay : (s.lineConst (s.dc k).line).settleDelay = 0
  · obtain ⟨-, width, rfl, -⟩ := begun.shoots delay
    rfl
  · rw [(begun.settles delay).2]
    rfl

theorem DoseBegun.state : c.state = .settling ∨ c.state = .shooting := by
  by_cases delay : (s.lineConst (s.dc k).line).settleDelay = 0
  · exact .inr (begun.shoots delay).1
  · exact .inl (begun.settles delay).1

end

/-! ### A grant to this station (R69) -/

theorem worker_of_dcs {s t : State} (same : t.dcs = s.dcs) (line : Nat) : t.worker line = s.worker line := by
  rw [State.worker, State.worker, same]

theorem lineGranted_worked {line : Nat} (own : h.station = s.me) (works : s.worker line = some k) :
    s.lineGranted line h = (s.startTimer (.line line) h.station h.grant (s.lineLimit line)).grantTell k h := by
  unfold State.lineGranted
  simp only [if_pos own, works]

theorem lineGranted_unworked {line : Nat} (own : h.station = s.me) (idle : s.worker line = none) :
    s.lineGranted line h =
      (s.startTimer (.line line) h.station h.grant (s.lineLimit line)).offer (.release line h.grant 0 0) .bayTable := by
  unfold State.lineGranted
  simp only [if_pos own, idle]
  rfl

theorem lineGranted_other {line : Nat} (other : h.station ≠ s.me) :
    s.lineGranted line h = s.startTimer (.line line) h.station h.grant (s.lineLimit line) := if_neg other

/-- R10 (c): a take while nothing of this station is in transmission finds every channel and pair as it was. -/
theorem dosing_bookTake_quiet (quiet : s.transmitting = false) (sender : Nat) (n : Notice) :
    (s.bookTake sender n).dosing = s.dosing := by
  have none : s.blu.current = none := by rw [← Option.not_isSome_iff_eq_none, current_isSome, quiet]; exact Bool.false_ne_true
  have other : s.isOwnTake sender n = false := by simp [State.isOwnTake, none]
  rw [bookTake_other other, backToWaiting_quiet false quiet]
  rfl

/-- R69: a take that grants a line to this station and brings nothing else about tells the channel that works the line, at a
station `v` that has the channels, pairs and setup as they were, and the line's timer started. -/
theorem takenBy_lineGranted {sender line : Nat} {n : Notice} (t : Table) (quiet : s.transmitting = false)
    (own : h.station = s.me) (works : s.worker line = some k) : ∃ v : State,
      s.takenBy sender n t [.lineGranted line h] = ((v.grantTell k h).modBt Table.counted).settle ∧ v.dosing = s.dosing
        ∧ v.setup = s.setup ∧ v.htb = (s.startTimer (.line line) h.station h.grant (s.lineLimit line)).htb := by
  have table := keepsTable_pruned (s.bookTake sender n) t [.lineGranted line h]
  have setup : ((s.bookTake sender n).pruned t [.lineGranted line h]).setup = s.setup :=
    table.setup.trans (keepsTable_bookTake s sender n).setup
  have dosing : ((s.bookTake sender n).pruned t [.lineGranted line h]).dosing = s.dosing :=
    (dosing_cursorPrune _).trans (dosing_bookTake_quiet quiet sender n)
  have htb : ((s.bookTake sender n).pruned t [.lineGranted line h]).htb = s.htb :=
    (dropAbsent_htb _ _ _).trans (bookTake_htb s sender n)
  have granted : (s.bookTake sender n).takeEffects t [.lineGranted line h] id =
      ((s.bookTake sender n).pruned t [.lineGranted line h]).lineGranted line h := rfl
  refine ⟨((s.bookTake sender n).pruned t [.lineGranted line h]).startTimer (.line line) h.station h.grant
    (((s.bookTake sender n).pruned t [.lineGranted line h]).lineLimit line), ?_, dosing, setup, ?_⟩
  · rw [State.takenBy, State.takenWith, granted, lineGranted_worked (own.trans (State.me_of_setup setup).symm)]
    rw [worker_of_dcs (Prod.mk.inj dosing).1, works]
  · rw [startTimer_eq, startTimer_eq, lineLimit_of_setup setup]
    simp only [State.modTimer, htb, State.holdingTimer, State.watchExtra, State.me_of_setup setup, State.bay_of_setup setup]

end

end Sys2Proof.Machine

namespace Sys2Proof

open Machine

/-- Settles O34, by what a grant leaves of channel and pair, and a REFILL by the one effect of its take. -/
theorem grantsBeginOrAreGivenBack : Obligations.GrantsBeginOrAreGivenBack := by
  refine ⟨fun s k first size h c channels pairs hc works wanted hsize hfirst => ?_,
    fun s k h channels unwanted => ?_, fun s u line h hu => ?_,
    fun s sender line level k i r c member quiet present hr service free fits best hc own drops lt works st wanted channels pairs => ?_⟩
  · subst hc hsize hfirst
    obtain ⟨c, p, told, begun⟩ := grantTell_begun (h := h) channels pairs works wanted
    have dc : (s.grantTell k h).dc k = c := by rw [told, dc_setChannel_self _ _ channels]
    have mp : (s.grantTell k h).mp k = p := by rw [told, mp_setChannel_self _ _ pairs]
    rw [dc, mp, told, begun.grant]
    refine ⟨rfl, rfl, rfl, rfl, rfl, begun.balance, rfl, begun.pump, begun.counter, fun delay => ?_, fun delay => ?_,
      fun j ne => ⟨dc_setChannel_ne _ _ ne, mp_setChannel_ne _ _ ne⟩, rfl, rfl⟩
    · obtain ⟨settling, rfl⟩ := begun.settles delay
      exact ⟨settling, rfl, rfl, rfl, rfl, rfl, rfl⟩
    · obtain ⟨shooting, width, rfl, last, more⟩ := begun.shoots delay
      exact ⟨shooting, rfl, rfl, rfl, rfl, last, more, rfl⟩
  · rw [grantTell_refuses unwanted, refuseGrant_eq channels, dc_setChannel_self _ _ (by exact channels)]
    exact ⟨rfl, rfl, rfl, set_getD_self _ _ _, rfl, fun j ne => dc_setChannel_ne _ _ ne⟩
  · subst hu
    exact ⟨lineGranted_other, fun k own works => lineGranted_worked own works, fun own idle => lineGranted_unworked own idle⟩
  · have granted : LineRec.grantChoice s.bay.reserve { r with level := level } = LineRec.grantAt { r with level := level } i c := by
      rw [grantChoice_best (r := { r with level := level }) service free best hc, if_pos drops]
    have made : grantMade line r (LineRec.grantChoice s.bay.reserve { r with level := level })
        = [.lineGranted line (Claim.toHolder c ((r.grant + 1) % 256) level)] := by
      rw [granted]
      exact grantMade_of_grant line free rfl
    have rule := refill_sets (sender := sender) s.bay.reserve hr present fits service rfl
    rw [made] at rule
    obtain ⟨v, taken, dosing, setup, htb⟩ := takenBy_lineGranted (sender := sender) (n := .refill line level)
      (h := Claim.toHolder c ((r.grant + 1) % 256) level) _ quiet own works
    have dc : v.dc k = s.dc k := dc_of_dosing dosing k
    obtain ⟨c', p', told, begun⟩ := grantTell_begun (h := Claim.toHolder c ((r.grant + 1) % 256) level) (s := v) (k := k)
      ((Prod.mk.inj dosing).1 ▸ channels) ((Prod.mk.inj dosing).2 ▸ pairs) (.inr (by rw [dc]; exact st)) (by rw [dc]; exact wanted)
    refine ⟨_, _, (exec_lineTake (c := .refillTaken sender line level) rfl rfl member present rule).trans (congrArg _ taken), rfl, ?_⟩
    have udc : ((v.grantTell k (Claim.toHolder c ((r.grant + 1) % 256) level)).modBt Table.counted).dc k = c' :=
      (congrArg (State.dc · k) told).trans (dc_setChannel_self _ _ ((Prod.mk.inj dosing).1 ▸ channels))
    have ump : ((v.grantTell k (Claim.toHolder c ((r.grant + 1) % 256) level)).modBt Table.counted).mp k = p' :=
      (congrArg (State.mp · k) told).trans (mp_setChannel_self _ _ ((Prod.mk.inj dosing).2 ▸ pairs))
    rw [udc, ump, begun.grant]
    refine ⟨rfl, rfl, rfl, begun.state, begun.pump, ?_⟩
    have started := timer_startTimer_by_role (s := s) (key := .line line) c.station ((r.grant + 1) % 256) (s.lineLimit line) lt
    rw [if_pos own] at started
    have bank := ((sameBay_settle ((v.grantTell k (Claim.toHolder c ((r.grant + 1) % 256) level)).modBt Table.counted)).htb.trans
      (State.modBt_htb _ _)).trans ((sameBay_grantTell v k _).htb.trans htb)
    rw [State.timer_of_htb bank]
    exact started.trans (by rw [own]; rfl)

end Sys2Proof
end

section
/-! The captures (R111 to R113, R115 to R118, R120, R121, R128, R130), and the claim behind a RELEASE (R106, R107). -/

namespace Sys2Proof.Machine

section
variable {s : State} {k : Nat}

/-! ### The shot captured and counted (R111, R130) -/

/-- R130: a pair whose shot is over and whose period ends is captured. -/
theorem exec_capture (shot : (s.mp k).phase = .closed ∨ (s.mp k).phase = .drain) (runs : (s.mp k).periodTimer.isSome = true) :
    exec (.capture k) s = .next (s.captureShot k).settle := by
  have fires : s.capture k = (s.captureShot k).settle := if_pos ⟨shot, runs⟩
  exact congrArg Host.Outcome.next fires

/-- R111: the planned drops of the shot that channel `k` makes. -/
def State.shotDrops (s : State) (k : Nat) : Nat :=
  (s.dc k).plannedDrops (s.lineConst (s.dc k).line).shotSize (s.dc k).grant.shotsDone

/-- R111, R130: the station with the shot of channel `k` captured and counted. -/
def State.counted (s : State) (k : Nat) : State :=
  s.setChannel k ((s.dc k).count (s.mp k).counted (s.shotDrops k)) (s.mp k).capture

section
variable (channels : k < s.dcs.length) (pairs : k < s.mps.length)
include channels

theorem counted_dc : (s.counted k).dc k = (s.dc k).count (s.mp k).counted (s.shotDrops k) := dc_setChannel_self _ _ channels

include pairs

theorem captureShot_eq :
    s.captureShot k = (s.counted k).afterShot k (s.mp k).counted (s.shotDrops k) (s.mp k).overflow := by
  unfold State.captureShot
  simp only [modMp_modDc channels pairs]
  rfl

theorem counted_modDc (f : Channel → Channel) :
    (s.counted k).modDc k f =
      s.setChannel k (f ((s.dc k).count (s.mp k).counted (s.shotDrops k))) (s.mp k).capture :=
  setChannel_modDc channels pairs _ _ f

end

/-! ### What is judged at the end of a grant (R112, R113, R115, R117) -/

theorem atEnd_iff (c : Channel) : c.atEnd = true ↔ c.ordered ≤ c.delivered ∨ c.grant.shotsDone = c.plan.planned := by
  simp [Channel.atEnd]

theorem ending_eq (c : Channel) : c.ending =
    if c.ordered ≤ c.delivered ∨ c.grant.shotsDone = c.plan.planned then c.endTest else { c with result := .goOn } :=
  if_congr (atEnd_iff c) rfl rfl

theorem ending_atEnd {c : Channel} (ends : c.ordered ≤ c.delivered ∨ c.grant.shotsDone = c.plan.planned) :
    c.ending = c.endTest := if_pos ((atEnd_iff c).2 ends)

theorem ending_early {c : Channel} (early : ¬ (c.ordered ≤ c.delivered ∨ c.grant.shotsDone = c.plan.planned)) :
    c.ending = { c with result := .goOn } := if_neg fun ends => early ((atEnd_iff c).1 ends)

/-- R113: an entry whose ordered drops are reached is DONE or OVER. -/
theorem endTest_reached {c : Channel} (reached : c.ordered ≤ c.delivered) : c.endTest =
    { c with result := if c.ordered + toleranceOf c.ordered < c.delivered then .failed .over else .done } := by
  by_cases more : c.ordered + toleranceOf c.ordered < c.delivered
  · rw [endTest_over more, if_pos more]
  · rw [endTest_done (Nat.le_of_not_lt more) (Nat.le_add_right_of_le reached), if_neg more]

/-! ### A grant given back (R112) -/

theorem setChannel_giveBack (channels : k < s.dcs.length) (pairs : k < s.mps.length) {c : Channel} (p : Pair)
    (ended : c.result ≠ .goOn) (drops : Nat) (o : LineOutcome) :
    (s.setChannel k c p).giveBack k drops o =
      (s.offer (.release c.line c.grant.number (min 16383 drops) (lineOutcomeCode o)) (.channel k)).setChannel k
        { c with state := .releasing, stopCause := .none } p.standDown := by
  have dc := dc_setChannel_self (s := s) c p channels
  rw [giveBack_eq (by simpa using channels) (by simpa using pairs), dc, if_neg ended, State.releasedBack, State.releaseNotice,
    dc, mp_setChannel_self c p pairs]
  exact setChannel_setChannel (s.offer _ _) k c p _ _

/-! ### A shot that does not end the grant (R112 (d)) -/

theorem captureShot_goesOn (channels : k < s.dcs.length) (pairs : k < s.mps.length) (cause : (s.dc k).stopCause = .none)
    (good : isRunaway (s.mp k).counted (s.shotDrops k) (s.mp k).overflow = false)
    (long : s.shotDrops k ≤ 2 * (s.mp k).counted) (open' : (s.dc k).delivered + (s.mp k).counted < (s.dc k).ordered)
    (planned : (s.dc k).grant.shotsDone + 1 ≠ (s.dc k).plan.planned)
    (left : (s.dc k).grant.shotsDone + 1 < (s.dc k).grant.askedShots) :
    s.captureShot k = (s.counted k).periodStart k := by
  have dc := counted_dc channels
  have early : ((s.counted k).dc k).atEnd = false := by
    rw [dc, ← Bool.not_eq_true, atEnd_iff, not_or]
    exact ⟨Nat.not_le.2 open', planned⟩
  rw [captureShot_eq channels pairs]
  exact afterShot_goesOn good (by rw [dc]; exact cause) long early (by rw [dc]; exact left)

/-! ### A shot that ends the grant (R111, R112 (a)) -/

section
variable (channels : k < s.dcs.length) (pairs : k < s.mps.length) (cause : (s.dc k).stopCause = .none)
include channels pairs cause

theorem captureShot_runaway (runaway : isRunaway (s.mp k).counted (s.shotDrops k) (s.mp k).overflow = true) :
    s.captureShot k =
      (s.offer (.release (s.dc k).line (s.dc k).grant.number (min 16383 ((s.dc k).grant.drops + (s.mp k).counted)) 2)
        (.channel k)).setChannel k
        { (s.dc k).count (s.mp k).counted (s.shotDrops k) with
          result := .failed .runaway, state := .releasing, stopCause := .none }
        (s.mp k).capture.standDown := by
  have dc := counted_dc channels
  have uncut : ((s.counted k).dc k).stopCause = .none := by rw [dc]; exact cause
  rw [captureShot_eq channels pairs, afterShot_runaway ⟨by rw [uncut]; nofun, by rw [uncut]; nofun⟩ runaway,
    counted_modDc channels pairs, dc, setChannel_giveBack channels pairs _ (by simp)]
  rfl

theorem captureShot_reached (good : isRunaway (s.mp k).counted (s.shotDrops k) (s.mp k).overflow = false)
    (long : s.shotDrops k ≤ 2 * (s.mp k).counted) (reached : (s.dc k).ordered ≤ (s.dc k).delivered + (s.mp k).counted) :
    s.captureShot k =
      (s.offer (.release (s.dc k).line (s.dc k).grant.number (min 16383 ((s.dc k).grant.drops + (s.mp k).counted)) 0)
        (.channel k)).setChannel k
        { (s.dc k).count (s.mp k).counted (s.shotDrops k) with
          result :=
            if (s.dc k).ordered + toleranceOf (s.dc k).ordered < (s.dc k).delivered + (s.mp k).counted then .failed .over else .done
          state := .releasing, stopCause := .none }
        (s.mp k).capture.standDown := by
  have dc := counted_dc channels
  have judged : ((s.dc k).count (s.mp k).counted (s.shotDrops k)).ending.result ≠ .goOn := by
    rw [ending_atEnd (.inl reached), endTest_reached reached]
    simp only
    split <;> nofun
  rw [captureShot_eq channels pairs,
    afterShot_ends good (by rw [dc]; exact cause) long (.inl ((atEnd_iff _).2 (.inl (by rw [dc]; exact reached)))),
    counted_modDc channels pairs, dc, setChannel_giveBack channels pairs _ judged, ending_atEnd (.inl reached),
    endTest_reached reached]
  rfl

end

/-! ### The claim behind a RELEASE (R106, R107) -/

/-- R107: the claim that channel `k` offers once it has planned afresh. -/
theorem replanned_claimNotice (channels : k < s.dcs.length) :
    (s.modDc k (Channel.replan (s.lineConst (s.dc k).line).shotSize)).claimNotice k =
      .claim (s.dc k).line
        (askedShotsOf (s.dc k).mode (s.lineConst (s.dc k).line).shareBlock
          (planOf ((s.dc k).ordered - (s.dc k).delivered) (s.lineConst (s.dc k).line).shotSize))
        (askedDropsOf (s.lineConst (s.dc k).line).shotSize
          (askedShotsOf (s.dc k).mode (s.lineConst (s.dc k).line).shareBlock
            (planOf ((s.dc k).ordered - (s.dc k).delivered) (s.lineConst (s.dc k).line).shotSize))
          (planOf ((s.dc k).ordered - (s.dc k).delivered) (s.lineConst (s.dc k).line).shotSize))
        (s.levelOf (s.dc k).slot) (rushCode (s.obu.rushOf (s.dc k).slot)) := by
  unfold State.claimNotice
  simp only [State.dc_modDc_self s k _ channels]
  rfl

end

end Sys2Proof.Machine

namespace Sys2Proof

open Machine

/-- Settles O37: the shot is counted, and the next period starts at once. -/
theorem captureOfAGoodShotGoesOn : Obligations.CaptureOfAGoodShotGoesOn := by
  intro s k m p channels pairs closed runs _ cause overflow hm hp few long open' planned left
  have counter : (s.mp k).counted = (s.mp k).counter := by simp [Pair.counted, overflow]
  rw [← counter] at hm
  subst hm hp
  have good : isRunaway (s.mp k).counted (s.shotDrops k) (s.mp k).overflow = false := by
    rw [← Bool.not_eq_true, isRunaway_iff, overflow]
    simpa [State.shotDrops] using few
  have bay := (sameBay_captureShot s k).trans (sameBay_settle _)
  obtain ⟨trim, width, started, last, more⟩ := periodStart_eq (s := s.counted k) (k := k)
    (by simpa [State.counted] using channels) (by simpa [State.counted] using pairs)
  have counted_mp : (s.counted k).mp k = (s.mp k).capture := mp_setChannel_self _ _ pairs
  rw [← captureShot_goesOn channels pairs cause good long open' planned left] at started
  rw [counted_dc channels, counted_mp, State.counted, setChannel_setChannel] at started
  rw [counted_dc channels, counted_mp] at last
  rw [counted_dc channels] at more
  have dc : (s.captureShot k).dc k = _ := (congrArg (State.dc · k) started).trans (dc_setChannel_self _ _ channels)
  have mp : (s.captureShot k).mp k = _ := (congrArg (State.mp · k) started).trans (mp_setChannel_self _ _ pairs)
  refine ⟨_, s.captureShot k, exec_capture (.inl closed) runs, rfl, ?_⟩
  rw [dc, mp]
  refine ⟨counter.symm, overflow, rfl, rfl, rfl, rfl, rfl, ?_, last, rfl, rfl, rfl, rfl, rfl, by rw [started]; rfl,
    by rw [started]; rfl, by rw [started]; rfl, by rw [started]; rfl, fun j ne => ?_, bay.setup, bay.ssl, bay.bt, bay.htb, bay.pins⟩
  · rintro size next b rfl rfl rfl lt
    exact more lt
  · rw [started]
    exact ⟨dc_setChannel_ne _ _ ne, mp_setChannel_ne _ _ ne⟩

/-- Settles O38: the shot is counted, and the channel, as it is judged by the stop cause and by the shot, gives its grant back. -/
theorem captureThatEndsTheGrantReleasesTheLine : Obligations.CaptureThatEndsTheGrantReleasesTheLine := by
  refine ⟨fun s k m p channels pairs closed runs _ cause hm hp => ?_,
    fun s w k m p c d channels pairs shot runs hc hm hp hd hw => ?_,
    fun s u k drops o channels pairs hu => ?_,
    fun s k asked size st c d n channels hc hsize hd hasked hn => ?_⟩
  · change p = s.shotDrops k at hp
    subst hm hp
    have bay := (sameBay_captureShot s k).trans (sameBay_settle _)
    refine ⟨_, s.captureShot k, exec_capture (.inl closed) runs, rfl, fun runaway => ?_, fun good long reached => ?_,
      bay.setup, bay.ssl, bay.bt, bay.htb, bay.pins⟩
    · rw [captureShot_runaway channels pairs cause runaway, dc_setChannel_self _ _ (by exact channels),
        mp_setChannel_self _ _ (by exact pairs)]
      exact ⟨rfl, rfl, rfl, rfl, rfl, rfl, rfl⟩
    · rw [captureShot_reached channels pairs cause good long reached, dc_setChannel_self _ _ (by exact channels),
        mp_setChannel_self _ _ (by exact pairs)]
      exact ⟨rfl, rfl, rfl, rfl, rfl, fun most => if_neg (Nat.not_lt.2 most), fun more => if_pos more, rfl⟩
  · subst hc
    change p = s.shotDrops k at hp
    subst hm hp
    obtain rfl : d = (s.dc k).count (s.mp k).counted (s.shotDrops k) := hd
    obtain rfl : w = s.counted k := hw
    have captured := captureShot_eq channels pairs
    have dc := counted_dc channels
    rw [exec_capture shot runs, captured]
    refine ⟨fun ⟨lineOut, detached, runaway⟩ => ?_, fun cause => ?_, fun cause => ?_, fun good => ⟨fun cause => ?_, fun cause => ?_,
      fun cause short => ?_, fun cause long ends => ?_, fun cause long early planned last => ?_⟩⟩
    · rw [afterShot_runaway (by rw [dc]; exact ⟨lineOut, detached⟩) runaway, counted_modDc channels pairs, dc]
      rfl
    · rw [afterShot_lineOut (by rw [dc]; exact cause)]
    · rw [afterShot_detached (by rw [dc]; exact cause)]
    · rw [afterShot_stopped good (by rw [dc]; exact cause), counted_modDc channels pairs, dc]
      rfl
    · rw [afterShot_ownLimit good (by rw [dc]; exact cause), counted_modDc channels pairs, dc, ending_eq]
      rfl
    · rw [afterShot_short good (by rw [dc]; exact cause) short, counted_modDc channels pairs, dc]
      rfl
    · rw [afterShot_ends good (by rw [dc]; exact cause) long (.inl ((atEnd_iff _).2 (by rw [dc]; exact ends))),
        counted_modDc channels pairs, dc, ending_atEnd ends]
      rfl
    · rw [afterShot_ends good (by rw [dc]; exact cause) long (.inr (by rw [dc]; exact last)),
        counted_modDc channels pairs, dc, ending_early (not_or.2 ⟨Nat.not_le.2 early, planned⟩)]
      rfl
  · subst hu
    rw [giveBack_eq channels pairs]
    exact ⟨fun ended => if_neg ended, fun goes => if_pos goes⟩
  · subst hc hsize hd hasked hn
    have replanned := State.modDc_eq_set s k (Channel.replan (s.lineConst (s.dc k).line).shotSize) channels
    have notice := replanned_claimNotice channels
    refine ⟨fun clash => ?_, fun free => ?_⟩
    · rw [State.offerClaim_clash s _ k st rfl (by rw [notice]; exact clash), replanned]
      rfl
    · rw [State.offerClaim_free s _ k st rfl (by rw [notice]; exact free), notice]
      show ((s.modDc k _).offer _ _).modDc k _ = _
      rw [modDc_offer_modDc, State.modDc_eq_set _ _ _ (by exact channels)]
      rfl

end Sys2Proof
end

section
/-! The stop of a channel and of an order, the tells about a line and the reports (R68, R104, R108, R114, R117 to R120, R124, R131). -/

namespace Sys2Proof.Machine

section
variable {s : State} {k : Nat}

/-- What reading a channel gives once the list of channels is set there. -/
theorem dc_withChannel (u : State) (c : Channel) (channels : k < s.dcs.length) :
    ({ u with dcs := s.dcs.set k c } : State).dc k = c := by
  simp [State.dc, List.getD_eq_getElem?_getD, channels]

theorem dc_writeReport (channels : k < s.dcs.length) (out : EntryOutcome) : (s.writeReport k out).dc k = Channel.idle := by
  rw [State.dc, State.writeReport_dcs s k out channels]
  exact dc_withChannel s Channel.idle channels

/-! ### The stop of a channel by its state (R118) -/

theorem stopChannel_stays (st : (s.dc k).state = .idle ∨ (s.dc k).state = .withdrawing
      ∨ (s.dc k).state = .shooting ∧ ((s.dc k).stopCause = .lineOut ∨ (s.dc k).stopCause = .detached)
      ∨ (s.dc k).state = .releasing ∧ ((s.dc k).result = .done ∨ ∃ f, (s.dc k).result = .failed f)) : s.stopChannel k = s := by
  unfold State.stopChannel
  rcases st with st | st | ⟨st, cause | cause⟩ | ⟨st, result | ⟨f, result⟩⟩
  · rw [st]
  · rw [st]
  · simp only [st, cause]
  · simp only [st, cause]
  · simp only [st, result]
  · simp only [st, result]

theorem stopChannel_claiming (st : (s.dc k).state = .claiming) (waits : s.blu.current.any (isClaimOf k) = false) :
    s.stopChannel k = (s.strike (isClaimOf k)).writeReport k (.failed .stopped) := by
  simp only [State.stopChannel, st, waits, Bool.false_eq_true, if_false]

section
variable (channels : k < s.dcs.length)
include channels

theorem stopChannel_transmitting (st : (s.dc k).state = .claiming) (sent : s.blu.current.any (isClaimOf k) = true) :
    s.stopChannel k = { s.strike (isClaimOf k) with dcs := s.dcs.set k { s.dc k with withdrawPending := true } } := by
  calc s.stopChannel k
    _ = (s.strike (isClaimOf k)).modDc k fun c => { c with withdrawPending := true } := by
      simp only [State.stopChannel, st, sent, if_true]
    _ = _ := (s.strike (isClaimOf k)).modDc_eq_set k _ channels

theorem stopChannel_goOn (st : (s.dc k).state = .releasing) (goes : (s.dc k).result = .goOn) :
    s.stopChannel k = { s.strike (isClaimOf k) with dcs := s.dcs.set k { s.dc k with result := .failed .stopped } } := by
  calc s.stopChannel k
    _ = (s.strike (isClaimOf k)).modDc k fun c => { c with result := .failed .stopped } := by
      simp only [State.stopChannel, st, goes]
    _ = _ := (s.strike (isClaimOf k)).modDc_eq_set k _ channels

theorem stopChannel_waiting (st : (s.dc k).state = .waiting) : s.stopChannel k =
    { s.offer (.withdraw (s.dc k).line) (.channel k) with dcs := s.dcs.set k { s.dc k with state := .withdrawing } } := by
  calc s.stopChannel k
    _ = (s.offer (.withdraw (s.dc k).line) (.channel k)).modDc k fun c => { c with state := .withdrawing } := by
      simp only [State.stopChannel, st]
    _ = _ := (s.offer (.withdraw (s.dc k).line) (.channel k)).modDc_eq_set k _ channels

theorem stopChannel_ownLimit (st : (s.dc k).state = .shooting) (cause : (s.dc k).stopCause = .ownLimit) :
    s.stopChannel k = { s with dcs := s.dcs.set k { s.dc k with stopCause := .stopped } } := by
  calc s.stopChannel k
    _ = s.modDc k fun c => { c with stopCause := .stopped } := by
      simp only [State.stopChannel, st, cause]
    _ = _ := s.modDc_eq_set k _ channels

variable (pairs : k < s.mps.length)
include pairs

theorem stopChannel_settling (st : (s.dc k).state = .settling) : s.stopChannel k =
    (s.offer (.release (s.dc k).line (s.dc k).grant.number 0 0) (.channel k)).setChannel k
      { s.dc k with state := .releasing, result := .failed .stopped } (s.mp k).standDown := by
  calc s.stopChannel k
    _ = ((s.offer (s.releaseNotice k 0 .good) (.channel k)).modMp k Pair.standDown).modDc k fun c =>
          { c with state := .releasing, result := .failed .stopped } := by
      simp only [State.stopChannel, st]
    _ = _ := modMp_modDc (s := s.offer (s.releaseNotice k 0 .good) (.channel k)) channels pairs _ _

theorem stopChannel_shooting (st : (s.dc k).state = .shooting) (cause : (s.dc k).stopCause = .none) :
    s.stopChannel k = s.setChannel k { s.dc k with stopCause := .stopped } ((s.mp k).cut false) := by
  calc s.stopChannel k
    _ = (s.modMp k (Pair.cut false)).modDc k fun c => { c with stopCause := .stopped } := by
      simp only [State.stopChannel, st, cause]
    _ = _ := modMp_modDc channels pairs _ _

end

/-- R131: a pair with a period running drains once it is cut. -/
theorem cut_of_running {p : Pair} (lineOut : Bool) (runs : p.phase ≠ .stopped) (settled : p.phase ≠ .settle) :
    p.cut lineOut = { p with valve := false, valveTimer := none, phase := .drain, pump := p.pump && !lineOut } := by
  unfold Pair.cut
  cases phase : p.phase with
  | stopped => exact absurd phase runs
  | settle => exact absurd phase settled
  | opened | closed | drain => rfl

theorem cut_of_shot {p : Pair} (lineOut : Bool) (shot : p.phase = .opened ∨ p.phase = .closed) :
    p.cut lineOut = { p with valve := false, valveTimer := none, phase := .drain, pump := p.pump && !lineOut } := by
  rcases shot with phase | phase
  all_goals exact cut_of_running lineOut (by rw [phase]; nofun) (by rw [phase]; nofun)

/-! ### The stop of an order (R144) -/

theorem stopChannel_ne {j : Nat} (ne : j ≠ k) : (s.stopChannel k).dc j = s.dc j ∧ (s.stopChannel k).mp j = s.mp j := by
  have dc (u : State) (f) : (u.modDc k f).dc j = u.dc j := u.dc_modDc_ne k j f ne.symm
  have mp (u : State) (f) : (u.modMp k f).mp j = u.mp j := u.mp_modMp_ne k j f ne.symm
  unfold State.stopChannel
  split
  · exact ⟨rfl, rfl⟩
  · exact ⟨rfl, rfl⟩
  · split
    · exact ⟨dc _ _, rfl⟩
    · exact ⟨dc (State.modOrder _ _ _) _, mp (State.modDc _ _ _) _⟩
  · exact ⟨dc _ _, rfl⟩
  · exact ⟨dc (State.modMp _ _ _) _, mp (s.offer _ _) _⟩
  · split
    · exact ⟨dc (s.modMp _ _) _, mp s _⟩
    · exact ⟨dc _ _, rfl⟩
    all_goals exact ⟨rfl, rfl⟩
  · split
    · exact ⟨dc _ _, rfl⟩
    all_goals exact ⟨rfl, rfl⟩

/-- `v` has channel `k` and its pair as `s` has them, and as many channels and pairs. -/
structure SameChannel (s v : State) (k : Nat) : Prop where
  dc : v.dc k = s.dc k
  mp : v.mp k = s.mp k
  channels : v.dcs.length = s.dcs.length
  pairs : v.mps.length = s.mps.length

theorem SameChannel.trans {s t u : State} {k : Nat} (h : SameChannel s t k) (g : SameChannel t u k) : SameChannel s u k :=
  ⟨g.dc.trans h.dc, g.mp.trans h.mp, g.channels.trans h.channels, g.pairs.trans h.pairs⟩

theorem SameChannel.of_ne {j : Nat} (ne : j ≠ k) : SameChannel s (s.stopChannel k) j := by
  have counts := counts_stopChannel s k
  simp only [State.counts, Prod.mk.injEq] at counts
  exact ⟨(stopChannel_ne ne).1, (stopChannel_ne ne).2, counts.1, counts.2.1⟩

/-- R144: the stop of channel `k`, if it is busy with the order and picked. -/
def State.stopOne (s : State) (slot : Nat) (pick : State → Nat → Bool) (k : Nat) : State :=
  if s.worksFor slot k && pick s k then s.stopChannel k else s

theorem SameChannel.stopOne_ne {j : Nat} (ne : j ≠ k) (slot : Nat) (pick : State → Nat → Bool) :
    SameChannel s (s.stopOne slot pick k) j := by
  unfold State.stopOne
  split
  · exact .of_ne ne
  · exact ⟨rfl, rfl, rfl, rfl⟩

theorem stopOnes_others {l : List Nat} (absent : k ∉ l) (s : State) (slot : Nat) (pick : State → Nat → Bool) :
    SameChannel s (l.foldl (fun s k => s.stopOne slot pick k) s) k := by
  induction l generalizing s with
  | nil => exact ⟨rfl, rfl, rfl, rfl⟩
  | cons j l ih =>
    rw [List.mem_cons, not_or] at absent
    exact (SameChannel.stopOne_ne absent.1 slot pick).trans (ih absent.2 _)

/-- A channel is as its own stop leaves it, at a station that has it as it was. -/
theorem stopOnes_at {l : List Nat} (mem : k ∈ l) (once : l.Nodup) (s : State) (slot : Nat) (pick : State → Nat → Bool) :
    ∃ v, SameChannel s v k ∧ SameChannel (v.stopOne slot pick k) (l.foldl (fun s k => s.stopOne slot pick k) s) k := by
  induction l generalizing s with
  | nil => cases mem
  | cons j l ih =>
    obtain ⟨absent, once⟩ := List.nodup_cons.1 once
    rcases List.mem_cons.1 mem with rfl | mem
    · exact ⟨s, ⟨rfl, rfl, rfl, rfl⟩, stopOnes_others absent _ slot pick⟩
    · have ne : k ≠ j := fun e => absent (e ▸ mem)
      obtain ⟨v, same, stopped⟩ := ih mem once (s.stopOne slot pick j)
      exact ⟨v, (SameChannel.stopOne_ne ne slot pick).trans same, stopped⟩

theorem stopThose_eq (s : State) (slot : Nat) (pick : State → Nat → Bool) : s.stopThose slot pick =
    (((s.stopOne slot pick 0).stopOne slot pick 1).stopOne slot pick 2).stopOne slot pick 3 := by
  unfold State.stopThose State.stopOne
  simp only [List.foldl_cons, List.foldl_nil]

theorem stopThose_at (hk : k < 4) (s : State) (slot : Nat) (pick : State → Nat → Bool) :
    ∃ v, SameChannel s v k ∧ SameChannel (v.stopOne slot pick k) (s.stopThose slot pick) k :=
  stopOnes_at (l := [0, 1, 2, 3]) (by simp; omega) (by decide) s slot pick

theorem SameChannel.worksFor {v : State} (same : SameChannel s v k) (slot : Nat) : v.worksFor slot k = s.worksFor slot k := by
  rw [State.worksFor, State.worksFor, same.dc]

theorem SameChannel.stopStrikes {v : State} (same : SameChannel s v k) : v.stopStrikes k = s.stopStrikes k := by
  rw [State.stopStrikes, State.stopStrikes, same.dc]

section
variable {slot : Nat} (hk : k < 4)
include hk

/-- A channel that is not busy with the order is left as it is. -/
theorem stopChannels_idle (idle : s.worksFor slot k = false) : SameChannel s (s.stopChannels slot) k := by
  have pass (u : State) (pick) (idle : u.worksFor slot k = false) : SameChannel u (u.stopThose slot pick) k := by
    obtain ⟨v, same, stopped⟩ := stopThose_at hk u slot pick
    rw [State.stopOne, same.worksFor, idle, Bool.false_and, if_neg Bool.false_ne_true] at stopped
    exact same.trans stopped
  have first := pass s State.stopStrikes idle
  exact first.trans (pass _ _ (by rw [first.worksFor]; exact idle))

/-- A channel whose stop offers is stopped in the second pass, as it was before the first. -/
theorem stopChannels_offers (works : s.worksFor slot k = true) (offers : s.stopStrikes k = false) :
    ∃ v, SameChannel s v k ∧ SameChannel (v.stopChannel k) (s.stopChannels slot) k := by
  obtain ⟨v, same, stands⟩ := stopThose_at hk s slot State.stopStrikes
  rw [State.stopOne, same.stopStrikes, offers, Bool.and_false, if_neg Bool.false_ne_true] at stands
  have first := same.trans stands
  obtain ⟨w, again, stopped⟩ := stopThose_at hk (s.stopThose slot State.stopStrikes) slot fun s k => !s.stopStrikes k
  have whole := first.trans again
  rw [State.stopOne, whole.worksFor, works, whole.stopStrikes, offers] at stopped
  exact ⟨w, whole, stopped⟩

/-- A channel whose stop strikes its claim is stopped in the first pass, and the second leaves it. -/
theorem stopChannels_strikes (works : s.worksFor slot k = true) (strikes : s.stopStrikes k = true)
    (after : ∀ v, SameChannel s v k → ∀ w, SameChannel (v.stopChannel k) w k →
      SameChannel w (w.stopOne slot (fun s k => !s.stopStrikes k) k) k) :
    ∃ v, SameChannel s v k ∧ SameChannel (v.stopChannel k) (s.stopChannels slot) k := by
  obtain ⟨v, same, stopped⟩ := stopThose_at hk s slot State.stopStrikes
  rw [State.stopOne, same.worksFor, works, same.stopStrikes, strikes, Bool.and_self, if_pos rfl] at stopped
  obtain ⟨w, again, stands⟩ := stopThose_at hk (s.stopThose slot State.stopStrikes) slot fun s k => !s.stopStrikes k
  exact ⟨v, same, (stopped.trans again).trans ((after v same w (stopped.trans again)).trans stands)⟩

omit hk

/-- R118: the second pass of the stop of an order finds nothing to do at a channel that it does not pick or that its stop leaves. -/
theorem stopOne_stays {w : State} {pick : State → Nat → Bool} (h : (w.worksFor slot k && pick w k) = false ∨ w.stopChannel k = w) :
    SameChannel w (w.stopOne slot pick k) k := by
  unfold State.stopOne
  split
  · next picked =>
    rw [h.resolve_left (by rw [picked]; nofun)]
    exact ⟨rfl, rfl, rfl, rfl⟩
  · exact ⟨rfl, rfl, rfl, rfl⟩

/-- R118: a channel in CLAIMING that is stopped has failed, or waits with its claim marked withdraw-pending. -/
theorem stopChannel_of_claiming (channels : k < s.dcs.length) (st : (s.dc k).state = .claiming) :
    (s.stopChannel k).dc k = Channel.idle ∨ (s.stopChannel k).dc k = { s.dc k with withdrawPending := true } := by
  cases sent : s.blu.current.any (isClaimOf k) with
  | true =>
    right
    rw [stopChannel_transmitting channels st sent]
    exact dc_withChannel _ _ channels
  | false =>
    left
    rw [stopChannel_claiming st sent]
    exact dc_writeReport (s := s.strike (isClaimOf k)) channels _

section
variable (channels : k < s.dcs.length)
include hk channels

theorem stopChannels_claiming (works : s.worksFor slot k = true) (st : (s.dc k).state = .claiming) :
    (s.stopChannels slot).dc k = Channel.idle ∨ ((s.stopChannels slot).dc k).withdrawPending = true := by
  have ofSame v (same : SameChannel s v k) : (v.stopChannel k).dc k = Channel.idle
      ∨ (v.stopChannel k).dc k = { s.dc k with withdrawPending := true } := by
    rw [← same.dc]
    exact stopChannel_of_claiming (same.channels ▸ channels) (by rw [same.dc]; exact st)
  obtain ⟨v, same, stopped⟩ := stopChannels_strikes hk works (by simp [State.stopStrikes, st]) fun v same w after => by
    refine stopOne_stays (.inl ?_)
    rcases ofSame v same with e | e
    · rw [State.worksFor, after.dc, e]
      rfl
    · rw [State.stopStrikes, after.dc, e]
      simp [st]
  rw [stopped.dc]
  exact (ofSame v same).imp_right fun e => by rw [e]

theorem stopChannels_goOn (works : s.worksFor slot k = true) (st : (s.dc k).state = .releasing)
    (goes : (s.dc k).result = .goOn) :
    (s.stopChannels slot).dc k = { s.dc k with result := .failed .stopped } := by
  have ofSame v (same : SameChannel s v k) : (v.stopChannel k).dc k = { s.dc k with result := .failed .stopped } := by
    rw [stopChannel_goOn (same.channels ▸ channels) (by rw [same.dc]; exact st) (by rw [same.dc]; exact goes), ← same.dc]
    exact dc_withChannel _ _ (same.channels ▸ channels)
  obtain ⟨v, same, stopped⟩ := stopChannels_strikes hk works (by simp [State.stopStrikes, st, goes]) fun v same w after => by
    refine stopOne_stays (.inr (stopChannel_stays (.inr (.inr (.inr ?_)))))
    rw [after.dc, ofSame v same]
    exact ⟨st, .inr ⟨_, rfl⟩⟩
  rw [stopped.dc, ofSame v same]

theorem stopChannels_waiting (works : s.worksFor slot k = true) (st : (s.dc k).state = .waiting) :
    (s.stopChannels slot).dc k = { s.dc k with state := .withdrawing } := by
  obtain ⟨v, same, stopped⟩ := stopChannels_offers hk works (by simp [State.stopStrikes, st])
  have here : k < v.dcs.length := same.channels ▸ channels
  rw [stopped.dc, stopChannel_waiting here (by rw [same.dc]; exact st), ← same.dc]
  exact dc_withChannel _ _ here

variable (pairs : k < s.mps.length)
include pairs

theorem stopChannels_settling (works : s.worksFor slot k = true) (st : (s.dc k).state = .settling) :
    (s.stopChannels slot).dc k = { s.dc k with state := .releasing, result := .failed .stopped }
      ∧ (s.stopChannels slot).mp k = (s.mp k).standDown := by
  obtain ⟨v, same, stopped⟩ := stopChannels_offers hk works (by simp [State.stopStrikes, st])
  have here : k < v.dcs.length := same.channels ▸ channels
  have pairHere : k < v.mps.length := same.pairs ▸ pairs
  rw [stopped.dc, stopped.mp, stopChannel_settling here pairHere (by rw [same.dc]; exact st), ← same.dc, ← same.mp]
  exact ⟨dc_setChannel_self _ _ here, mp_setChannel_self _ _ pairHere⟩

theorem stopChannels_shooting (works : s.worksFor slot k = true) (st : (s.dc k).state = .shooting)
    (cause : (s.dc k).stopCause = .none) :
    (s.stopChannels slot).dc k = { s.dc k with stopCause := .stopped }
      ∧ (s.stopChannels slot).mp k = (s.mp k).cut false := by
  obtain ⟨v, same, stopped⟩ := stopChannels_offers hk works (by simp [State.stopStrikes, st])
  have here : k < v.dcs.length := same.channels ▸ channels
  have pairHere : k < v.mps.length := same.pairs ▸ pairs
  rw [stopped.dc, stopped.mp, stopChannel_shooting here pairHere (by rw [same.dc]; exact st) (by rw [same.dc]; exact cause),
    ← same.dc, ← same.mp]
  exact ⟨dc_setChannel_self _ _ here, mp_setChannel_self _ _ pairHere⟩

end

theorem worksFor_iff : s.worksFor slot k = true ↔ (s.dc k).state ≠ .idle ∧ (s.dc k).slot = slot := by
  simp [State.worksFor]

theorem stopStrikes_iff : s.stopStrikes k = true ↔
    (s.dc k).state = .claiming ∨ (s.dc k).state = .releasing ∧ (s.dc k).result = .goOn := by
  simp [State.stopStrikes]

end

theorem stopOrder_of_stopping {slot : Nat} {o : Order} {reason : OrderReason} (order : s.order slot = some o)
    (stops : o.stopping ≠ none) : s.stopOrder slot reason = s := by
  unfold State.stopOrder
  rw [order]
  cases stopping : o.stopping with
  | none => exact absurd stopping stops
  | some r => simp only [stopping]

theorem stopOrder_of_running {slot : Nat} {o : Order} {reason : OrderReason} (order : s.order slot = some o)
    (runs : o.stopping = none) : s.stopOrder slot reason = State.stopChannels
      { s with obu := { s.obu with slots := s.obu.slots.set slot (some { o with stopping := some reason }) } } slot :=
  calc s.stopOrder slot reason
    _ = (s.modOrder slot fun o => { o with stopping := some reason }).stopChannels slot := by
      simp only [State.stopOrder, order, runs]
    _ = _ := by rw [s.modOrder_eq_set slot o _ order]

/-! ### Reports (R104, R143, R144) -/

theorem report_of_stoppingReason {f : FailReason} {reason : OrderReason} (stops : stoppingReason f = some reason) :
    s.report k (.failed f) = (s.writeReport k (.failed f)).stopOrder (s.dc k).slot reason := by
  unfold State.report
  simp only [stops]

theorem report_done : s.report k .done = s.writeReport k .done := rfl

theorem report_stopped : s.report k (.failed .stopped) = s.writeReport k (.failed .stopped) := rfl

theorem report_detached : s.report k (.failed .detached) = s.writeReport k (.failed .detached) := rfl

/-- R118: the withdraw-pending claim of a channel goes back to waiting, struck, and its entry fails. -/
theorem backToWaiting_withdrawPending {e : Entry} {refill : Bool} (current : s.blu.current = some e)
    (struck : e.strikeHeld = true) (owner : e.owner = .channel k) (claims : isClaimOf k e = true)
    (st : (s.dc k).state = .claiming) (unwanted : (s.dc k).withdrawPending = true) :
    s.backToWaiting refill = State.writeReport { s with blu := s.blu.backToWaiting refill } k (.failed .stopped) := by
  have dc : ({ s with blu := s.blu.backToWaiting refill } : State).dc k = s.dc k := rfl
  have acts : (isClaimOf k e && (s.dc k).state == .claiming && (s.dc k).withdrawPending) = true := by
    rw [claims, st, unwanted]
    rfl
  simp only [State.backToWaiting, current, State.struckTell, struck, owner, dc, acts, if_true, report_stopped]

/-! ### The tells about a line (R68, R108, R114, R119, R120) -/

section
variable {tell : LineTell}

theorem lineTell_idle (st : (s.dc k).state = .idle) : s.lineTell k tell = s := by
  unfold State.lineTell
  rw [st]
  cases tell <;> rfl

theorem lineTell_claiming_stays (st : (s.dc k).state = .claiming) (waits : ∀ rush granted, tell ≠ .claimWaits rush granted)
    (discarded : ∀ reason, tell ≠ .claimDiscarded reason) : s.lineTell k tell = s := by
  unfold State.lineTell
  rw [st]
  cases tell with
  | claimWaits rush granted => exact absurd rfl (waits rush granted)
  | claimDiscarded reason => exact absurd rfl (discarded reason)
  | _ => rfl

theorem lineTell_waiting_stays (st : (s.dc k).state = .waiting) (removed : tell ≠ .claimRemoved) : s.lineTell k tell = s := by
  unfold State.lineTell
  rw [st]
  cases tell with
  | claimRemoved => exact absurd rfl removed
  | _ => rfl

theorem lineTell_withdrawing_stays (st : (s.dc k).state = .withdrawing) (withdrawn : tell ≠ .claimWithdrawn)
    (discarded : tell ≠ .withdrawDiscarded) (removed : tell ≠ .claimRemoved) : s.lineTell k tell = s := by
  unfold State.lineTell
  rw [st]
  cases tell with
  | claimWithdrawn => exact absurd rfl withdrawn
  | withdrawDiscarded => exact absurd rfl discarded
  | claimRemoved => exact absurd rfl removed
  | _ => rfl

theorem lineTell_dosing_stays (st : (s.dc k).state = .settling ∨ (s.dc k).state = .shooting) (ended : tell ≠ .holdingEnded) :
    s.lineTell k tell = s := by
  unfold State.lineTell
  rcases st with st | st
  all_goals
    rw [st]
    cases tell with
    | holdingEnded => exact absurd rfl ended
    | _ => rfl

theorem lineTell_releasing_stays (st : (s.dc k).state = .releasing) (applied : ∀ level, tell ≠ .releaseApplied level)
    (late : tell ≠ .releaseLate) (refused : tell ≠ .releaseRefused) : s.lineTell k tell = s := by
  unfold State.lineTell
  rw [st]
  cases tell with
  | releaseApplied level => exact absurd rfl (applied level)
  | releaseLate => exact absurd rfl late
  | releaseRefused => exact absurd rfl refused
  | _ => rfl

theorem lineTell_released (st : (s.dc k).state = .releasing)
    (taken : (∃ level, tell = .releaseApplied level) ∨ tell = .releaseLate ∨ tell = .releaseRefused) :
    s.lineTell k tell = s.released k := by
  unfold State.lineTell
  rcases taken with ⟨level, rfl⟩ | rfl | rfl <;> rw [st]

theorem lineTell_withdrawing (st : (s.dc k).state = .withdrawing)
    (ends : tell = .claimWithdrawn ∨ tell = .withdrawDiscarded ∨ tell = .claimRemoved) :
    s.lineTell k tell = s.report k (.failed .stopped) := by
  unfold State.lineTell
  rcases ends with rfl | rfl | rfl <;> rw [st]

theorem lineTell_claimDiscarded (st : (s.dc k).state = .claiming) (reason : DiscardReason) :
    s.lineTell k (.claimDiscarded reason) =
      s.report k (.failed (if (s.dc k).withdrawPending then .stopped else .lineOut)) := by
  simp only [State.lineTell, st]

theorem lineTell_holdingEnded_settling (st : (s.dc k).state = .settling) :
    s.lineTell k .holdingEnded = (s.modMp k Pair.standDown).report k (.failed .lineOut) := by
  simp only [State.lineTell, st]

theorem lineTell_claimRemoved_waiting (st : (s.dc k).state = .waiting) :
    s.lineTell k .claimRemoved = s.report k (.failed .lineOut) := by
  simp only [State.lineTell, st]

variable (channels : k < s.dcs.length)
include channels

theorem lineTell_claimWaits (st : (s.dc k).state = .claiming) (wanted : (s.dc k).withdrawPending = false) (rush : Rush)
    (granted : Bool) :
    s.lineTell k (.claimWaits rush granted) = { s with dcs := s.dcs.set k { s.dc k with state := .waiting } } :=
  calc s.lineTell k (.claimWaits rush granted)
    _ = s.modDc k fun c => { c with state := .waiting } := by
      simp only [State.lineTell, st, wanted, Bool.not_false, if_true]
    _ = _ := s.modDc_eq_set k _ channels

omit channels in
theorem lineTell_claimWaits_granted (st : (s.dc k).state = .claiming) (unwanted : (s.dc k).withdrawPending = true) (rush : Rush) :
    s.lineTell k (.claimWaits rush true) = s := by
  simp only [State.lineTell, st, unwanted, Bool.not_true, Bool.false_eq_true, if_false, if_true]

theorem lineTell_claimWaits_unwanted (st : (s.dc k).state = .claiming) (unwanted : (s.dc k).withdrawPending = true)
    (rush : Rush) : s.lineTell k (.claimWaits rush false) = { s with
      blu := (s.blu.offer (.withdraw (s.dc k).line) (.channel k)).1
      dcs := s.dcs.set k { s.dc k with state := .withdrawing } } :=
  calc s.lineTell k (.claimWaits rush false)
    _ = (s.offer (.withdraw (s.dc k).line) (.channel k)).modDc k fun c => { c with state := .withdrawing } := by
      simp only [State.lineTell, st, unwanted, Bool.not_true, Bool.false_eq_true, if_false]
    _ = _ := (s.offer (.withdraw (s.dc k).line) (.channel k)).modDc_eq_set k _ channels

theorem released_goOn (st : (s.dc k).state = .releasing) (goes : (s.dc k).result = .goOn) : s.released k = { s with
    dcs := s.dcs.set k { s.dc k with state := .claiming, result := .none, grant := Grant.none, balance := 0 } } :=
  calc s.released k
    _ = s.modDc k fun c => { c with state := .claiming, result := .none, grant := Grant.none, balance := 0 } := by
      simp only [State.released, st, goes, if_true]
    _ = _ := s.modDc_eq_set k _ channels

omit channels in
theorem released_done (st : (s.dc k).state = .releasing) (ends : (s.dc k).result = .done) : s.released k = s.report k .done := by
  simp only [State.released, st, ends, if_true]

omit channels in
theorem released_failed {f : FailReason} (st : (s.dc k).state = .releasing) (ends : (s.dc k).result = .failed f) :
    s.released k = s.report k (.failed f) := by
  simp only [State.released, st, ends, if_true]

theorem lineTell_holdingEnded_shooting (pairs : k < s.mps.length) (st : (s.dc k).state = .shooting) :
    s.lineTell k .holdingEnded = s.setChannel k { s.dc k with stopCause := .lineOut } ((s.mp k).cut true) :=
  calc s.lineTell k .holdingEnded
    _ = (s.modMp k (Pair.cut true)).modDc k fun c => { c with stopCause := .lineOut } := by
      simp only [State.lineTell, st]
    _ = _ := modMp_modDc channels pairs _ _

end

end

end Sys2Proof.Machine

namespace Sys2Proof

open Machine

/-- Settles O35: the stop, the tells and the reports case by case, and the stop of an order by what its two passes leave of one
channel. -/
theorem stopsAndCuts : Obligations.StopsAndCuts := by
  refine ⟨fun s k channels pairs => ⟨fun st => ?_, fun st => ?_, fun st cause => ?_, stopChannel_ownLimit channels,
      fun st cause => stopChannel_stays (.inr (.inr (.inl ⟨st, cause⟩))),
      fun st result => stopChannel_stays (.inr (.inr (.inr ⟨st, .inl result⟩))),
      fun f st result => stopChannel_stays (.inr (.inr (.inr ⟨st, .inr ⟨f, result⟩⟩))), stopChannel_goOn channels,
      fun st waits => stopChannel_claiming st ?_, fun e st he claims => stopChannel_transmitting channels st ?_,
      fun st => stopChannel_stays (st.imp_right .inl)⟩,
    fun s k e refill current struck owner claims st flag => ?_, fun s k channels pairs st runs settled => ?_,
    fun s k tell c channels hc => ?_, fun s k out channels pairs => ⟨?_, ?_, ?_⟩, fun s slot o reason ho => ⟨?_, ?_⟩,
    fun s slot busy strikes first second hbusy hstrikes hfirst hsecond => ?_,
    fun s u slot k dcs mps hk hu => ⟨fun idle => ?_, fun busy works => ?_⟩⟩
  · rw [stopChannel_waiting channels st, dc_withChannel _ _ channels]
    exact ⟨rfl, rfl, rfl⟩
  · rw [stopChannel_settling channels pairs st, dc_setChannel_self _ _ (by exact channels), mp_setChannel_self _ _ (by exact pairs)]
    exact ⟨rfl, rfl, rfl, rfl, rfl⟩
  · rw [stopChannel_shooting channels pairs st cause, dc_setChannel_self _ _ channels, mp_setChannel_self _ _ pairs]
    refine ⟨st, rfl, rfl, fun phase => ?_⟩
    rw [cut_of_shot false phase]
    exact ⟨rfl, rfl, rfl, rfl, Bool.and_true _⟩
  · cases current : s.blu.current with
    | none => rfl
    | some e => exact waits e current
  · rw [he]
    exact claims
  · exact backToWaiting_withdrawPending current struck owner claims st flag
  · rw [lineTell_holdingEnded_shooting channels pairs st, dc_setChannel_self _ _ channels, mp_setChannel_self _ _ pairs,
      cut_of_running true runs settled]
    exact ⟨rfl, Bool.and_false _, rfl, rfl, rfl, st, fun j ne => ⟨dc_setChannel_ne _ _ ne, mp_setChannel_ne _ _ ne⟩, rfl, rfl⟩
  · subst hc
    refine ⟨?_, ?_, fun ends st => lineTell_withdrawing st (ends.imp_right .inl), fun taken st => ?_, ?_, ?_,
      fun removed st => lineTell_withdrawing st (.inr (.inr removed)), lineTell_idle, lineTell_claiming_stays,
      lineTell_waiting_stays, lineTell_withdrawing_stays, lineTell_dosing_stays, lineTell_releasing_stays⟩
    · rintro rush granted rfl st
      refine ⟨fun wanted => lineTell_claimWaits channels st wanted rush granted, fun unwanted grants => ?_, fun unwanted waits => ?_⟩
      · rw [grants, lineTell_claimWaits_granted st unwanted]
      · rw [waits, lineTell_claimWaits_unwanted channels st unwanted]
    · rintro reason rfl st
      exact lineTell_claimDiscarded st reason
    · rw [lineTell_released st taken]
      exact ⟨released_goOn channels st, released_done st, fun f => released_failed st⟩
    · rintro rfl st
      exact lineTell_holdingEnded_settling st
    · rintro rfl st
      exact lineTell_claimRemoved_waiting st
  · exact writeReport_eq channels pairs out
  · rintro (rfl | rfl | rfl)
    · exact report_done
    · exact report_stopped
    · exact report_detached
  · rintro f reason rfl (⟨rfl, rfl⟩ | ⟨rfl, rfl⟩ | ⟨rfl, rfl⟩ | ⟨rfl, rfl⟩) <;> exact report_of_stoppingReason rfl
  · exact stopOrder_of_stopping ho
  · exact stopOrder_of_running ho
  · have works u k : busy u k = u.worksFor slot k := Bool.eq_iff_iff.2 ((hbusy u k).trans worksFor_iff.symm)
    have struck u k : strikes u k = u.stopStrikes k := Bool.eq_iff_iff.2 ((hstrikes u k).trans stopStrikes_iff.symm)
    have ofFirst u k : first u k = u.stopOne slot State.stopStrikes k := by
      simp only [hfirst, works, struck, State.stopOne, Bool.and_eq_true]
    have ofSecond u k : second u k = u.stopOne slot (fun s k => !s.stopStrikes k) k := by
      simp only [hsecond, works, struck, State.stopOne, Bool.and_eq_true, Bool.not_eq_true, Bool.not_eq_eq_eq_not, Bool.not_true]
    rw [State.stopChannels, stopThose_eq, stopThose_eq]
    simp only [ofFirst, ofSecond]
  · rw [hu]
    have same := stopChannels_idle (s := s) (slot := slot) hk
      (Bool.eq_false_iff.2 fun works => idle.elim (worksFor_iff.1 works).1 fun ne => ne (worksFor_iff.1 works).2)
    exact ⟨same.dc, same.mp⟩
  · rw [hu]
    have channels : k < s.dcs.length := dcs ▸ hk
    have pairs : k < s.mps.length := mps ▸ hk
    have working := worksFor_iff.2 ⟨busy, works⟩
    refine ⟨stopChannels_claiming hk channels working, fun st => ?_, fun st => ?_, fun st cause => ?_, fun st goes => ?_⟩
    · rw [stopChannels_waiting hk channels working st]
    · obtain ⟨dc, mp⟩ := stopChannels_settling hk channels pairs working st
      rw [dc, mp]
      exact ⟨rfl, rfl, rfl, rfl⟩
    · obtain ⟨dc, mp⟩ := stopChannels_shooting hk channels pairs working st cause
      rw [dc, mp]
      refine ⟨rfl, fun phase => ?_⟩
      rw [cut_of_shot false phase]
      exact ⟨rfl, rfl, rfl⟩
    · rw [stopChannels_goOn hk channels working st goes]

end Sys2Proof

end

section
/-! The events of a metering pair: settle expiry, valve expiry and the pulses of a tap meter (R125, R127 to R129). -/

namespace Sys2Proof.Machine

variable {s : State} {k : Nat}

/-! ### The settle timer (R127) -/

theorem settleExpiry_settling (phase : (s.mp k).phase = .settle) (runs : (s.mp k).settleTimer.isSome = true) :
    s.settleExpiry k = s.periodStart k := if_pos ⟨phase, runs⟩

theorem settleExpiry_notRunning (idle : (s.mp k).settleTimer = none) : s.settleExpiry k = s :=
  if_neg fun ⟨_, runs⟩ => Option.isSome_iff_ne_none.1 runs idle

/-! ### The valve timer (R129) -/

theorem valveExpiry_opened (phase : (s.mp k).phase = .opened) (runs : (s.mp k).valveTimer.isSome = true) :
    s.valveExpiry k = s.modMp k Pair.valveClose := if_pos ⟨phase, runs⟩

theorem valveExpiry_notRunning (idle : (s.mp k).valveTimer = none) : s.valveExpiry k = s :=
  if_neg fun ⟨_, runs⟩ => Option.isSome_iff_ne_none.1 runs idle

/-! ### The tap meter (R125) -/

theorem pulse_below {p : Pair} (below : p.counter < 4095) : p.pulse = { p with counter := p.counter + 1 } :=
  if_neg (Nat.ne_of_lt below)

theorem pulse_full {p : Pair} (full : p.counter = 4095) : p.pulse = { p with counter := 0, overflow := true } := if_pos full

/-- R125: a pulse reaches each pair by the line that the pair is bound to. -/
theorem mp_tapMeterPulse (line : Nat) : (s.tapMeterPulse line).mp k =
    if (s.mp k).bound = some line then (s.mp k).pulse else s.mp k :=
  List.getD_map s.mps Pair.reset fun p : Pair => if p.bound = some line then p.pulse else p

theorem mp_tapMeterPulse_bound {line : Nat} (bound : (s.mp k).bound = some line) :
    (s.tapMeterPulse line).mp k = (s.mp k).pulse := (mp_tapMeterPulse line).trans (if_pos bound)

theorem mp_tapMeterPulse_other {line : Nat} (other : (s.mp k).bound ≠ some line) :
    (s.tapMeterPulse line).mp k = s.mp k := (mp_tapMeterPulse line).trans (if_neg other)

end Sys2Proof.Machine

namespace Sys2Proof

open Machine

/-- Settles O36: the settle expiry by what a period start leaves of channel and pair, the valve expiry by the one pair that it
changes, and a pulse by what it makes of a pair bound to the line and of any other. -/
theorem pairEvents : Obligations.PairEvents := by
  refine ⟨fun s k channels pairs phase runs => ⟨s.settleExpiry k, rfl, ?_⟩,
    fun s k pairs phase runs => ⟨s.valveExpiry k, rfl, ?_⟩,
    fun s n => ⟨s.tapMeterPulse n, rfl, rfl, List.length_map _, fun k _ => ⟨fun bound below => ?_, fun bound full => ?_,
      mp_tapMeterPulse_other⟩⟩,
    fun s k => ⟨fun idle => congrArg Host.Outcome.next (settleExpiry_notRunning idle),
      fun idle => congrArg Host.Outcome.next (valveExpiry_notRunning idle)⟩⟩
  · obtain ⟨trim, width, started, -⟩ := periodStart_eq channels pairs
    rw [settleExpiry_settling phase runs, started, dc_setChannel_self _ _ channels, mp_setChannel_self _ _ pairs]
    exact ⟨rfl, rfl, rfl, rfl, rfl, rfl, rfl, rfl, fun j ne => ⟨dc_setChannel_ne _ _ ne, mp_setChannel_ne _ _ ne⟩,
      rfl, rfl, rfl, rfl, rfl, rfl, rfl, rfl, rfl⟩
  · rw [valveExpiry_opened phase runs]
    exact ⟨s.mp_modMp_self k _ pairs, fun j ne => s.mp_modMp_ne k j _ ne.symm, rfl⟩
  · rw [mp_tapMeterPulse_bound bound, pulse_below below]
  · rw [mp_tapMeterPulse_bound bound, pulse_full full]

end Sys2Proof

end

section
/-! SUPPORT. Where the order book finds an order (R138 to R140): the slots that answer a test, the slot of a tag, the lowest free
slot, and the cradle and outfeed orders in a stage. -/

namespace Sys2Proof.Machine

section
variable {s : State} {slot : Nat}

theorem mem_slotsWhere {b : Book} {p : Order → Bool} {i : Nat} :
    i ∈ b.slotsWhere p ↔ i < 8 ∧ ∃ o, b.slots.getD i none = some o ∧ p o = true := by
  rw [Book.slotsWhere, List.mem_filter, List.mem_range]
  cases b.slots.getD i none <;> simp

theorem slotOf_eq_none_iff {tag : Nat} : s.obu.slotOf tag = none ↔ ∀ slot < 8, ∀ o, s.order slot = some o → o.tag ≠ tag := by
  rw [Book.slotOf, List.head?_eq_none_iff, List.eq_nil_iff_forall_not_mem]
  simp only [mem_slotsWhere, beq_iff_eq, not_and, not_exists]
  rfl

/-- The slot found for a tag holds an order with it. -/
theorem order_of_slotOf {tag : Nat} (h : s.obu.slotOf tag = some slot) : slot < 8 ∧ ∃ o, s.order slot = some o ∧ o.tag = tag := by
  obtain ⟨lt, o, order, named⟩ := mem_slotsWhere.1 (List.mem_of_head? h)
  exact ⟨lt, o, order, by simpa using named⟩

/-- A tag that one slot alone holds is found there. -/
theorem slotOf_eq_some {tag : Nat} {o : Order} (lt : slot < 8) (order : s.order slot = some o) (named : o.tag = tag)
    (only : ∀ j p, s.order j = some p → p.tag = tag → j = slot) : s.obu.slotOf tag = some slot := by
  cases found : s.obu.slotOf tag with
  | none => exact absurd named (slotOf_eq_none_iff.1 found slot lt o order)
  | some j =>
    obtain ⟨-, p, at_j, tagged⟩ := order_of_slotOf found
    rw [only j p at_j tagged]

theorem stageAt_of_order {o : Order} (order : s.order slot = some o) : s.stageAt slot = some o.stage := by
  rw [State.stageAt, order]
  rfl

theorem cradleIn_eq_some_iff {st : Stage} : s.cradleIn st = some slot ↔ s.obu.cradle = some slot ∧ s.stageAt slot = some st := by
  simp [State.cradleIn, Option.filter_eq_some_iff]

theorem outfeedIn_eq_some_iff {st : Stage} : s.outfeedIn st = some slot ↔ s.obu.outfeed = some slot ∧ s.stageAt slot = some st := by
  simp [State.outfeedIn, Option.filter_eq_some_iff]

/-- R147: the order that awaits a mixer is the outfeed order, in MIX WAIT with its claim offered. -/
theorem awaitsMixer_eq_some_iff {o : Order} (order : s.order slot = some o) :
    s.awaitsMixer = some slot ↔ s.obu.outfeed = some slot ∧ o.stage = .mixWait ∧ o.mixClaimOffered = true := by
  simp [State.awaitsMixer, Option.filter_eq_some_iff, outfeedIn_eq_some_iff, stageAt_of_order order, order, and_assoc]

/-- A slot of the book that stands is free where no order is live in it. -/
theorem slots_getElem?_of_free (lt : slot < s.obu.slots.length) (free : s.order slot = none) : s.obu.slots[slot]? = some none := by
  rw [State.order, List.getD_eq_getElem?_getD, List.getElem?_eq_getElem lt, Option.getD_some] at free
  rw [List.getElem?_eq_getElem lt, free]

/-- R139: the lowest-numbered free slot. -/
theorem freeSlot_eq (lt : slot < s.obu.slots.length) (free : s.order slot = none) (lowest : ∀ j < slot, s.order j ≠ none) :
    s.obu.freeSlot = slot := by
  have at_slot := slots_getElem?_of_free lt free
  rw [List.getElem?_eq_getElem lt, Option.some_inj] at at_slot
  refine List.findIdx_eq lt |>.2 ⟨by rw [at_slot]; rfl, fun j below => ?_⟩
  have live := lowest j below
  rw [State.order, List.getD_eq_getElem?_getD, List.getElem?_eq_getElem (below.trans lt), Option.getD_some] at live
  simpa [Option.isSome_iff_ne_none] using live

/-- R139: a book that is not full has a free slot where the lowest one is looked for. -/
theorem freeSlot_free {b : Book} (room : b.slots.all Option.isSome = false) : b.slots[b.freeSlot]? = some none := by
  have found : ∃ x ∈ b.slots, Option.isNone x = true := by
    obtain ⟨x, mem, empty⟩ := List.all_eq_false.1 room
    exact ⟨x, mem, by simpa using empty⟩
  have lt := List.findIdx_lt_length_of_exists found
  have holds := List.findIdx_getElem (w := lt)
  rw [Book.freeSlot, List.getElem?_eq_getElem lt]
  simpa using holds

end

end Sys2Proof.Machine
end

section
/-! SUPPORT. The labels of the live orders, their tags and admission numbers (R138), with the tickets queued: no operation of dosing,
the drives or the order book changes them but the admission of an order and the making of its ticket. -/

namespace Sys2Proof.Machine

/-- R138: what the law of the order book reads of an order: its tag and its admission number. -/
def Order.label (o : Order) : Nat × Nat := (o.tag, o.admission)

/-- What the law of the order book reads of the state. -/
def State.labels (s : State) : List (Option (Nat × Nat)) × List Ticket :=
  (s.obu.slots.map (Option.map Order.label), s.tlu.tickets)

section
variable (s : State)

/-! ### Updates -/

/-- An order changed in a field that is no label keeps the labels. -/
@[simp] theorem labels_modOrder (slot : Nat) (f : Order → Order) (tag : ∀ o, (f o).tag = o.tag)
    (admission : ∀ o, (f o).admission = o.admission) : (s.modOrder slot f).labels = s.labels := by
  have kept : Option.map Order.label ∘ Option.map f = Option.map Order.label := by
    funext x
    cases x <;> simp [Order.label, tag, admission]
  have slots : (s.obu.slots.modify slot (Option.map f)).map (Option.map Order.label) = s.obu.slots.map (Option.map Order.label) := by
    apply List.ext_getElem?
    intro i
    rw [List.getElem?_map, List.getElem?_map, List.getElem?_modify]
    cases s.obu.slots[i]? with
    | none => rfl
    | some x => split <;> simp [← congrFun kept x]
  exact Prod.ext slots rfl

/-- A change of the book that leaves the slots, and one of the terminal link that leaves the tickets, keep the labels. -/
@[simp] theorem labels_modBook (f : Book → Book) (slots : ∀ b, (f b).slots = b.slots) : (s.modBook f).labels = s.labels := by
  simp [State.labels, slots]

@[simp] theorem labels_modTlu (f : Tlu → Tlu) (tickets : ∀ t, (f t).tickets = t.tickets) : (s.modTlu f).labels = s.labels := by
  simp [State.labels, tickets]

/-- R168: a command refused as BUSY leaves the tickets. -/
theorem labels_busy (kind : Nat) : (s.modTlu fun t => t.busy kind).labels = s.labels :=
  labels_modTlu s _ fun t => by
    unfold Tlu.busy
    split <;> rfl

/-- Nothing of the state is read but the order book and the terminal link. -/
@[simp] theorem labels_mk (setup ssl blu bt htb dcs mps pdu pins pending) :
    State.labels ⟨setup, ssl, blu, bt, htb, dcs, mps, s.obu, pdu, s.tlu, pins, pending⟩ = s.labels := rfl

@[simp] theorem labels_modDc (k f) : (s.modDc k f).labels = s.labels := rfl
@[simp] theorem labels_modMp (k f) : (s.modMp k f).labels = s.labels := rfl
@[simp] theorem labels_modTimer (i f) : (s.modTimer i f).labels = s.labels := rfl
@[simp] theorem labels_modBlu (f) : (s.modBlu f).labels = s.labels := rfl
@[simp] theorem labels_modBt (f) : (s.modBt f).labels = s.labels := rfl
@[simp] theorem labels_modSsl (f) : (s.modSsl f).labels = s.labels := rfl
@[simp] theorem labels_modPdu (f) : (s.modPdu f).labels = s.labels := rfl
@[simp] theorem labels_modRun (m f) : (s.modRun m f).labels = s.labels := rfl
@[simp] theorem labels_modFill (f) : (s.modFill f).labels = s.labels := rfl
@[simp] theorem labels_modPress (f) : (s.modPress f).labels = s.labels := rfl
@[simp] theorem labels_modPusher (p f) : (s.modPusher p f).labels = s.labels := by cases p <;> rfl
@[simp] theorem labels_offer (n o) : (s.offer n o).labels = s.labels := rfl
@[simp] theorem labels_strike (p) : (s.strike p).labels = s.labels := rfl
@[simp] theorem labels_setStage (slot st) : (s.setStage slot st).labels = s.labels := by simp [State.setStage]
@[simp] theorem labels_enter (st) : (s.enter st).labels = s.labels := by unfold State.enter; split <;> rfl

theorem labels_foldl {α : Type} (f : State → α → State) (h : ∀ s a, (f s a).labels = s.labels) (l : List α) :
    (l.foldl f s).labels = s.labels := by
  induction l generalizing s with
  | nil => rfl
  | cons a l ih => exact (ih _).trans (h s a)

/-! ### Dosing -/

@[simp] theorem labels_writeReport (k o) : (s.writeReport k o).labels = s.labels := by simp [State.writeReport]

@[simp] theorem labels_stopChannel (k) : (s.stopChannel k).labels = s.labels := by
  unfold State.stopChannel
  repeat' split
  all_goals simp

@[simp] theorem labels_stopThose (slot pick) : (s.stopThose slot pick).labels = s.labels := by
  refine labels_foldl s _ (fun s k => ?_) _
  split
  · exact labels_stopChannel s k
  · rfl

@[simp] theorem labels_stopOrder (slot r) : (s.stopOrder slot r).labels = s.labels := by
  unfold State.stopOrder State.stopChannels
  repeat' split
  all_goals simp

@[simp] theorem labels_report (k o) : (s.report k o).labels = s.labels := by
  unfold State.report
  repeat' split
  all_goals simp

@[simp] theorem labels_offerClaim (k st) : (s.offerClaim k st).labels = s.labels := by
  unfold State.offerClaim
  simp only
  split <;> simp

@[simp] theorem labels_handOver (k slot entry e) : (s.handOver k slot entry e).labels = s.labels := by simp [State.handOver]

@[simp] theorem labels_giveBack (k drops o) : (s.giveBack k drops o).labels = s.labels := by
  unfold State.giveBack
  simp only
  split <;> simp

@[simp] theorem labels_writeWidth (k next) : (s.writeWidth k next).labels = s.labels := by simp [State.writeWidth]

@[simp] theorem labels_periodStart (k) : (s.periodStart k).labels = s.labels := by
  unfold State.periodStart
  simp only
  split <;> simp

@[simp] theorem labels_beginDose (k g a d) : (s.beginDose k g a d).labels = s.labels := by
  unfold State.beginDose
  simp only
  split <;> simp

@[simp] theorem labels_refuseGrant (k g) : (s.refuseGrant k g).labels = s.labels := by simp [State.refuseGrant]

@[simp] theorem labels_grantTell (k h) : (s.grantTell k h).labels = s.labels := by
  unfold State.grantTell
  repeat' split
  all_goals simp

@[simp] theorem labels_released (k) : (s.released k).labels = s.labels := by
  unfold State.released
  repeat' split
  all_goals simp

@[simp] theorem labels_lineTell (k t) : (s.lineTell k t).labels = s.labels := by
  unfold State.lineTell
  repeat' split
  all_goals simp

@[simp] theorem labels_captureShot (k) : (s.captureShot k).labels = s.labels := by
  unfold State.captureShot State.afterShot
  simp only
  repeat' split
  all_goals simp

@[simp] theorem labels_ownLimit (k) : (s.ownLimit k).labels = s.labels := by
  unfold State.ownLimit
  repeat' split
  all_goals simp

@[simp] theorem labels_leaveChannel (k) : (s.leaveChannel k).labels = s.labels := by
  unfold State.leaveChannel
  repeat' split
  all_goals simp

/-! ### Drives -/

@[simp] theorem labels_startFill (t) : (s.startFill t).labels = s.labels := by unfold State.startFill; split <;> simp
@[simp] theorem labels_startPress : s.startPress.labels = s.labels := by unfold State.startPress; split <;> simp
@[simp] theorem labels_startChute : s.startChute.labels = s.labels := by unfold State.startChute; split <;> simp
@[simp] theorem labels_startTransfer (p) : (s.startTransfer p).labels = s.labels := by unfold State.startTransfer; split <;> simp
@[simp] theorem labels_raiseRun (m t) : (s.raiseRun m t).labels = s.labels := by unfold State.raiseRun; split <;> simp
@[simp] theorem labels_dropRun (m) : (s.dropRun m).labels = s.labels := by unfold State.dropRun; split <;> simp

/-! ### Orders -/

@[simp] theorem labels_dropToken (slot) : (s.dropToken slot).labels = s.labels := by rw [dropToken_eq]; rfl
@[simp] theorem labels_finish (slot o r) : (s.finish slot o r).labels = s.labels := by simp [State.finish]
@[simp] theorem labels_reject (slot r) : (s.reject slot r).labels = s.labels := by simp [State.reject]

@[simp] theorem labels_judgeTin (slot code) : (s.judgeTin slot code).labels = s.labels := by
  unfold State.judgeTin State.seat
  simp only
  repeat' split
  all_goals simp

@[simp] theorem labels_chooseCradle : s.chooseCradle.labels = s.labels := by
  unfold State.chooseCradle
  simp only
  repeat' split
  all_goals simp

@[simp] theorem labels_requestRush : s.requestRush.labels = s.labels := by
  unfold State.requestRush
  repeat' split
  all_goals simp

@[simp] theorem labels_openGate : s.openGate.labels = s.labels := by
  unfold State.openGate
  repeat' split
  all_goals simp

@[simp] theorem labels_handNext (slot) : (s.handNext slot).labels = s.labels := by
  unfold State.handNext
  repeat' split
  all_goals simp

@[simp] theorem labels_endTint (slot) : (s.endTint slot).labels = s.labels := by
  unfold State.endTint State.leaveTint
  simp only
  repeat' split
  all_goals simp

@[simp] theorem labels_dose : s.dose.labels = s.labels := by
  unfold State.dose
  split <;> simp

@[simp] theorem labels_callOutfeed : s.callOutfeed.labels = s.labels := by
  unfold State.callOutfeed
  repeat' split
  all_goals simp

@[simp] theorem labels_claimMixer : s.claimMixer.labels = s.labels := by
  unfold State.claimMixer
  repeat' split
  all_goals simp

@[simp] theorem labels_rushTell (token) : (s.rushTell token).labels = s.labels := by
  unfold State.rushTell State.rushSettled State.rushUnwanted
  repeat' split
  all_goals simp

@[simp] theorem labels_offerMixRelease (owner m g o) : (s.offerMixRelease owner m g o).labels = s.labels := rfl

@[simp] theorem labels_mixerGranted (m g t) : (s.mixerGranted m g t).labels = s.labels := by
  unfold State.mixerGranted State.enterMixing
  simp only
  repeat' split
  all_goals simp

@[simp] theorem labels_bookTell (t) : (s.bookTell t).labels = s.labels := by
  unfold State.bookTell
  repeat' split
  all_goals simp

@[simp] theorem labels_baseDone (d) : (s.baseDone d).labels = s.labels := by unfold State.baseDone; split <;> simp
@[simp] theorem labels_baseFaulted (d f) : (s.baseFaulted d f).labels = s.labels := by unfold State.baseFaulted; split <;> simp
@[simp] theorem labels_lidHome : s.lidHome.labels = s.labels := by unfold State.lidHome; split <;> simp
@[simp] theorem labels_lidFaulted : s.lidFaulted.labels = s.labels := by unfold State.lidFaulted; split <;> simp
@[simp] theorem labels_endMix (slot m o oc r) : (s.endMix slot m o oc r).labels = s.labels := by simp [State.endMix]

@[simp] theorem labels_transferConfirmed (p) : (s.transferConfirmed p).labels = s.labels := by
  unfold State.transferConfirmed State.outfeedReached State.mixerReached
  simp only
  repeat' split
  all_goals simp

@[simp] theorem labels_transferFailed (p) : (s.transferFailed p).labels = s.labels := by
  unfold State.transferFailed
  repeat' split
  all_goals simp

@[simp] theorem labels_mixerDone (m) : (s.mixerDone m).labels = s.labels := by unfold State.mixerDone; split <;> simp

@[simp] theorem labels_outfeedEmptied : s.outfeedEmptied.labels = s.labels := by
  unfold State.outfeedEmptied
  simp only
  repeat' split
  all_goals simp

@[simp] theorem labels_confirmBySensor (p) : (s.confirmBySensor p).labels = s.labels := by
  unfold State.confirmBySensor
  split <;> simp

@[simp] theorem labels_dropRunOf (slot m) : (s.dropRunOf slot m).labels = s.labels := by unfold State.dropRunOf; split <;> simp

@[simp] theorem labels_stopFill (slot) : (s.stopFill slot).labels = s.labels := by unfold State.stopFill; split <;> simp

variable {s} in
theorem labels_cancelOrder {t : State} {slot : Nat} (h : s.cancelOrder slot = some t) : t.labels = s.labels := by
  unfold State.cancelOrder at h
  split at h <;> cases h <;> simp

@[simp] theorem labels_tinRemoved : s.tinRemoved.labels = s.labels := by
  have cancelled (slot : Nat) : ((s.cancelOrder slot).getD s).labels = s.labels := by
    cases h : s.cancelOrder slot with
    | none => rfl
    | some t => exact labels_cancelOrder h
  unfold State.tinRemoved
  repeat' split
  all_goals simp [cancelled]

/-! ### Leaving the bay -/

theorem labels_leaveOrder (slot) : (s.leaveOrder slot).labels = s.labels := by
  unfold State.leaveOrder
  repeat' split
  all_goals simp

@[simp] theorem labels_loseRequest : s.loseRequest.labels = s.labels := by
  unfold State.loseRequest
  split
  · rfl
  · simp
  · simp
  · refine (labels_modOrder _ _ _ (fun o => ?_) fun o => ?_).trans (labels_modBook s _ fun _ => rfl)
    all_goals split <;> rfl

@[simp] theorem labels_leaveBay (listen) : (s.leaveBay listen).labels = s.labels := by
  rw [leaveBay_eq]
  exact (labels_foldl _ _ labels_leaveChannel _).trans ((labels_foldl _ _ labels_leaveOrder _).trans (labels_loseRequest _))

@[simp] theorem labels_detach (r) : (s.detach r).labels = s.labels := by simp [State.detach]

/-! ### The effects of a take and the image cursor -/

@[simp] theorem labels_applyEffect (e) : (s.applyEffect e).labels = s.labels := by
  unfold State.applyEffect State.lineGranted State.startTimer State.endHolding
  simp only
  repeat' split
  all_goals simp

@[simp] theorem labels_applyEffects (es) : (s.applyEffects es).labels = s.labels := labels_foldl s _ labels_applyEffect es

@[simp] theorem labels_setJoiners (js) : (s.setJoiners js).labels = s.labels := rfl
@[simp] theorem labels_cursorOffer (x) : (s.cursorOffer x).labels = s.labels := by unfold State.cursorOffer; split <;> simp
@[simp] theorem labels_cursorBegin : s.cursorBegin.labels = s.labels := by unfold State.cursorBegin; split <;> simp

@[simp] theorem labels_cursorDrop (st) : (s.cursorDrop st).labels = s.labels := by
  unfold State.cursorDrop
  simp only
  split <;> simp

@[simp] theorem labels_cursorAdd (st a) : (s.cursorAdd st a).labels = s.labels := by
  unfold State.cursorAdd
  simp only
  repeat' split
  all_goals simp

@[simp] theorem labels_cursorAdvance : s.cursorAdvance.labels = s.labels := by unfold State.cursorAdvance; split <;> simp
@[simp] theorem labels_giveImage (j g a) : (s.giveImage j g a).labels = s.labels := by unfold State.giveImage; split <;> simp

@[simp] theorem labels_cursorPrune : s.cursorPrune.labels = s.labels := by
  refine labels_foldl s _ (fun u j => ?_) _
  split <;> simp

/-! ### Forming and joining -/

theorem labels_onlyTimers {s t : State} (h : OnlyTimers s t) : t.labels = s.labels := by rw [h.rest]; rfl

@[simp] theorem labels_refuse : s.refuse.labels = s.labels := by simp [State.refuse, State.stopTimers]
@[simp] theorem labels_setLateMark : s.setLateMark.labels = s.labels := by simp [State.setLateMark]
@[simp] theorem labels_lateJoinSelf : s.lateJoinSelf.labels = s.labels := by simp [State.lateJoinSelf]
@[simp] theorem labels_imageHere (sender img) : (s.imageHere sender img).labels = s.labels := by simp [State.imageHere]

@[simp] theorem labels_restartImageTimer (joiner) : (s.restartImageTimer joiner).labels = s.labels := by
  unfold State.restartImageTimer
  split <;> simp

@[simp] theorem labels_accepted (count) : (s.accepted count).labels = s.labels := by
  unfold State.accepted
  rw [labels_onlyTimers (onlyTimers_watchAll _)]
  simp

@[simp] theorem labels_takeForming (sender n) : (s.takeForming sender n).labels = s.labels := by
  unfold State.takeForming State.joinForming State.formationJoin State.formedForming State.otherForming State.imageForming
  simp only
  repeat' split
  all_goals simp

@[simp] theorem labels_takeJoining (sender n) : (s.takeJoining sender n).labels = s.labels := by
  unfold State.takeJoining State.imageJoining State.imageEndJoining
  repeat' split
  all_goals simp

/-! ### A take and a void, before the order book settles -/

theorem labels_takeEffects (t es) {cursor : State → State} (cursed : ∀ u : State, (cursor u).labels = u.labels) :
    (s.takeEffects t es cursor).labels = s.labels := by
  simp [State.takeEffects, cursed]

@[simp] theorem labels_applyTake (sender n) : (s.applyTake sender n).labels = s.labels := by
  unfold State.applyTake
  split
  · exact labels_takeEffects s _ _ fun u => labels_giveImage u _ _ _
  · unfold State.formedAttached
    split
    · exact labels_takeEffects s _ _ fun _ => rfl
    · exact labels_takeEffects s _ _ fun u => labels_giveImage u _ _ _
  · refine labels_takeEffects s _ _ fun u => ?_
    split <;> simp
  · refine labels_takeEffects s _ _ fun u => ?_
    split <;> simp
  · exact labels_takeEffects s _ _ fun _ => rfl

@[simp] theorem labels_takeAttached (sender n) : (s.takeAttached sender n).labels = s.labels := by
  unfold State.takeAttached State.ownLeave State.afterTake
  simp only
  repeat' split
  all_goals simp

@[simp] theorem labels_backToWaiting (refill) : (s.backToWaiting refill).labels = s.labels := by
  unfold State.backToWaiting State.struckTell
  repeat' split
  all_goals simp

@[simp] theorem labels_bookTake (sender n) : (s.bookTake sender n).labels = s.labels := by
  unfold State.bookTake
  split <;> simp

@[simp] theorem labels_deliver (sender n) : (s.deliver sender n).labels = s.labels := by
  unfold State.deliver
  split <;> simp

@[simp] theorem labels_ownVoid : s.ownVoid.labels = s.labels := by
  unfold State.ownVoid
  simp only
  split <;> simp

@[simp] theorem labels_otherVoid (heard) : (s.otherVoid heard).labels = s.labels := by
  unfold State.otherVoid
  simp only
  repeat' split
  all_goals simp

end

end Sys2Proof.Machine
end

section
/-! SUPPORT. The law of the order book (R138, R150) said of the labels: an order admitted, one ticketed, a ticket read and the end of
an event keep it. -/

namespace Sys2Proof.Machine

/-! ### The law in the labels -/

/-- R138: eight slots, admission numbers that are a permutation of 0 to (live orders − 1), and no tag twice among the live orders and
the tickets. -/
structure LabelsLawful (slots : List (Option (Nat × Nat))) (tickets : List Ticket) : Prop where
  eight : slots.length = 8
  numbers : ((slots.filterMap id).map Prod.snd).Perm (List.range (slots.filterMap id).length)
  tags : ((slots.filterMap id).map Prod.fst ++ tickets.map Ticket.tag).Nodup

/-- The law of the order book, of the state's labels. -/
def State.Booked (s : State) : Prop := LabelsLawful s.labels.1 s.labels.2

theorem State.Booked.of_labels {s t : State} (h : s.Booked) (same : t.labels = s.labels) : t.Booked := by
  rw [State.Booked, same]
  exact h

/-- Numbers that each stand once below the length of their list are a permutation of the numbers below it. -/
theorem perm_range_iff_count (l : List Nat) : l.Perm (List.range l.length) ↔ ∀ n < l.length, l.count n = 1 := by
  refine ⟨fun perm n lt => ?_, fun once => ?_⟩
  · rw [perm.count_eq]
    exact List.count_eq_one_of_mem List.nodup_range (List.mem_range.2 lt)
  · have sub : List.range l.length ⊆ l := fun n mem =>
      List.count_pos_iff.1 (by rw [once n (List.mem_range.1 mem)]; exact Nat.one_pos)
    exact ((List.nodup_range.subperm sub).perm_of_length_le (by simp)).symm

theorem Book.live_eq_length (b : Book) : b.live = b.orders.length := by
  rw [Book.live, Book.orders, List.length_filterMap_eq_countP]
  rfl

/-- The labels are those of the live orders. -/
theorem labels_filterMap (s : State) : s.labels.1.filterMap id = s.obu.orders.map Order.label := by
  rw [Book.orders, List.map_filterMap]
  exact List.filterMap_map ..

theorem State.booked_iff (s : State) : s.Booked ↔ s.obu.numbered = true ∧ s.tagsDistinct = true := by
  have numbers : (s.obu.orders.map Order.label).map Prod.snd = s.obu.orders.map Order.admission := List.map_map ..
  have tags : (s.obu.orders.map Order.label).map Prod.fst = s.obu.orders.map Order.tag := List.map_map ..
  have numbered : s.obu.numbered = true ↔ s.obu.slots.length = 8
      ∧ (s.obu.orders.map Order.admission).Perm (List.range s.obu.orders.length) := by
    have count := perm_range_iff_count (s.obu.orders.map Order.admission)
    rw [List.length_map] at count
    rw [count, Book.numbered, Book.live_eq_length]
    simp
  rw [numbered, State.tagsDistinct, decide_eq_true_iff]
  constructor
  · rintro ⟨eight, perm, nodup⟩
    rw [labels_filterMap] at perm nodup
    rw [numbers, List.length_map] at perm
    rw [tags] at nodup
    exact ⟨⟨by simpa [State.labels] using eight, perm⟩, nodup⟩
  · rintro ⟨⟨eight, perm⟩, nodup⟩
    refine ⟨by simpa [State.labels] using eight, ?_, ?_⟩
    · rw [labels_filterMap, numbers, List.length_map]
      exact perm
    · rw [labels_filterMap, tags]
      exact nodup

/-! ### What changes the labels: an order admitted, an order ticketed, a ticket read -/

/-- A free slot filled adds its content to what the slots hold. -/
theorem filterMap_set_perm {α : Type} {l : List (Option α)} {i : Nat} (free : l[i]? = some none) (x : α) :
    ((l.set i (some x)).filterMap id).Perm (x :: l.filterMap id) := by
  induction l generalizing i with
  | nil => cases free
  | cons y l ih =>
    cases i with
    | zero =>
      obtain rfl : y = none := by simpa using free
      exact .refl _
    | succ i =>
      have rest := ih (i := i) (by simpa using free)
      cases y with
      | none => exact rest
      | some y => exact (rest.cons y).trans (.swap x y _)

section
variable {slots : List (Option (Nat × Nat))} {tickets : List Ticket} (h : LabelsLawful slots tickets)
include h

/-- R138, R139: an order of a new tag is admitted into a free slot as the youngest. -/
theorem LabelsLawful.addYoungest {i tag : Nat} (free : slots[i]? = some none)
    (new : tag ∉ (slots.filterMap id).map Prod.fst ++ tickets.map Ticket.tag) :
    LabelsLawful (slots.set i (some (tag, (slots.filterMap id).length))) tickets := by
  have perm := filterMap_set_perm free (tag, (slots.filterMap id).length)
  refine ⟨List.length_set.trans h.eight, (perm.map Prod.snd).trans ?_, ?_⟩
  · rw [perm.length_eq, List.length_cons, List.range_succ, List.map_cons]
    exact (h.numbers.cons _).trans (List.perm_append_singleton _ _).symm
  · exact ((perm.map Prod.fst).append_right _).nodup_iff.2 (List.nodup_cons.2 ⟨new, h.tags⟩)

/-- R172: a ticket read leaves the queue. -/
theorem LabelsLawful.tail : LabelsLawful slots tickets.tail :=
  ⟨h.eight, h.numbers, h.tags.sublist (.append_left ((List.tail_sublist _).map _) _)⟩

end

/-- R138: an admission number once a freed one is closed up over. -/
def closedOver (freed n : Nat) : Nat := if freed < n then n - 1 else n

/-- R138: the numbers below `n + 1` without one of them, closed up over it, are the numbers below `n`. -/
theorem perm_range_closedOver {l : List Nat} {freed n : Nat} (perm : (freed :: l).Perm (List.range (n + 1))) :
    (l.map (closedOver freed)).Perm (List.range n) := by
  obtain ⟨absent, once⟩ := List.nodup_cons.1 (perm.nodup_iff.2 List.nodup_range)
  have bound : ∀ x ∈ freed :: l, x < n + 1 := fun x mem => List.mem_range.1 (perm.subset mem)
  have apart : ∀ x ∈ l, x ≠ freed := fun x mem e => absent (e ▸ mem)
  have nodup : (l.map (closedOver freed)).Nodup := by
    refine once.map_on fun x hx y hy same => ?_
    have := apart x hx
    have := apart y hy
    unfold closedOver at same
    split at same <;> split at same <;> omega
  have sub : l.map (closedOver freed) ⊆ List.range n := fun y mem => by
    obtain ⟨x, hx, rfl⟩ := List.mem_map.1 mem
    have := apart x hx
    have := bound x (List.mem_cons_of_mem _ hx)
    have := bound freed List.mem_cons_self
    rw [List.mem_range, closedOver]
    split <;> omega
  refine (nodup.subperm sub).perm_of_length_le ?_
  have length := perm.length_eq
  simp only [List.length_cons, List.length_range] at length
  simp only [List.length_map, List.length_range]
  omega

/-- R138, R150: an order leaves its slot, its ticket is queued, and the admission numbers close up over its own. -/
theorem LabelsLawful.ticket {slots : List (Option (Nat × Nat))} {tickets : List Ticket} (h : LabelsLawful slots tickets)
    {i : Nat} {x : Nat × Nat} {k : Ticket} (live : slots[i]? = some (some x)) (tag : k.tag = x.1) :
    LabelsLawful ((slots.set i none).map (Option.map (Prod.map id (closedOver x.2)))) (tickets ++ [k]) := by
  obtain ⟨lt, at_i⟩ := List.getElem?_eq_some_iff.1 live
  have refilled : (slots.set i none).set i (some x) = slots := by rw [List.set_set, ← at_i, List.set_getElem_self]
  have perm : (slots.filterMap id).Perm (x :: (slots.set i none).filterMap id) := by
    have filled := filterMap_set_perm (l := slots.set i none) (i := i) (by simp [lt]) x
    rwa [refilled] at filled
  have held : ((slots.set i none).map (Option.map (Prod.map id (closedOver x.2)))).filterMap id
      = ((slots.set i none).filterMap id).map (Prod.map id (closedOver x.2)) := by
    rw [List.map_filterMap]
    exact List.filterMap_map ..
  refine ⟨by simp [h.eight], ?_, ?_⟩
  · have numbers := (perm.map Prod.snd).symm.trans h.numbers
    rw [perm.length_eq, List.length_cons, List.map_cons] at numbers
    rw [held, List.length_map, List.map_map]
    have closed := perm_range_closedOver numbers
    rw [List.map_map] at closed
    exact closed
  · have tags := ((perm.map Prod.fst).append_right _).nodup_iff.1 h.tags
    rw [held, List.map_map, List.map_append, ← List.append_assoc]
    refine (List.perm_append_singleton _ _).nodup_iff.2 ?_
    rw [tag]
    exact tags

/-! ### The end of an event -/

/-- R138: the label of an order over which a freed number is closed up. -/
theorem label_closeUp (freed : Nat) (o : Order) : (closeUp freed o).label = Prod.map id (closedOver freed) o.label := by
  unfold closeUp closedOver Order.label
  split <;> simp [*]

/-- R138: a freed slot, in the labels. -/
theorem labels_free {s : State} {slot : Nat} {o : Order} (order : s.order slot = some o) (rest : List Nat) (k : Ticket) :
    ((s.modBook fun b => { b.free slot with doneOrder := rest }).modTlu fun t => t.queueTicket k).labels
      = ((s.labels.1.set slot none).map (Option.map (Prod.map id (closedOver o.admission))), s.labels.2 ++ [k]) := by
  have labelled : Option.map Order.label ∘ Option.map (closeUp o.admission)
      = Option.map (Prod.map id (closedOver o.admission)) ∘ Option.map Order.label := by
    funext x
    cases x <;> simp [label_closeUp]
  have freed : (s.obu.free slot).slots = (s.obu.slots.set slot none).map (Option.map (closeUp o.admission)) := by
    unfold Book.free
    rw [show s.obu.slots.getD slot none = some o from order]
  refine Prod.ext ?_ rfl
  calc (s.obu.free slot).slots.map (Option.map Order.label)
    _ = (s.obu.slots.set slot none).map (Option.map Order.label ∘ Option.map (closeUp o.admission)) := by rw [freed, List.map_map]
    _ = _ := by rw [labelled, ← List.map_map, List.map_set]; rfl

/-- The label of the order in a slot. -/
theorem labels_getElem? {s : State} {slot : Nat} {o : Order} (order : s.order slot = some o) :
    s.labels.1[slot]? = some (some o.label) := by
  unfold State.order at order
  rw [List.getD_eq_getElem?_getD] at order
  cases hx : s.obu.slots[slot]? with
  | none => simp [hx] at order
  | some x =>
    obtain rfl : x = some o := by simpa [hx] using order
    simp [State.labels, hx]

theorem State.Booked.queueTickets (n : Nat) {s : State} (h : s.Booked) : (State.queueTickets n s).Booked := by
  induction n generalizing s with
  | zero => exact h
  | succ n ih =>
    unfold State.queueTickets
    split
    · exact h
    · split
      · split
        · next slot rest _ _ o order =>
          refine ih ?_
          rw [State.Booked, labels_free order]
          exact LabelsLawful.ticket h (labels_getElem? order) rfl
        · exact ih (h.of_labels (labels_modBook s _ fun _ => rfl))
      · exact h

/-- The end of an event keeps the law of the order book. -/
theorem State.Booked.settle {s : State} (h : s.Booked) : s.settle.Booked :=
  State.Booked.queueTickets 8 (h.of_labels (by simp))

end Sys2Proof.Machine
end

section
/-! The law of the order book (R138, R150) through every command: admission numbers 0 to (live orders − 1), each once, and no tag
twice. -/

namespace Sys2Proof.Machine

/-! ### The events of the bay, the plant and the pairs -/

section
variable {s : State} (h : s.Booked)
include h

/-- What stands of the labels until the order book settles keeps the law. -/
theorem State.Booked.settled {t : State} (same : t.labels = s.labels) : t.settle.Booked := (h.of_labels same).settle

theorem State.Booked.take (sender n) : (s.take sender n).Booked := by
  unfold State.take
  split
  · exact h.settled (by simp)
  · exact h

theorem State.Booked.void (heard) : (s.void heard).Booked := by
  unfold State.void
  split
  · refine h.settled ?_
    split <;> simp
  · exact h

theorem State.Booked.firstListenExpiry : s.firstListenExpiry.Booked := by
  unfold State.firstListenExpiry State.offerJoin
  split <;> exact h

theorem State.Booked.formationWindowExpiry : s.formationWindowExpiry.Booked := by
  unfold State.formationWindowExpiry
  simp only
  repeat' split
  all_goals exact h

theorem State.Booked.imageTimerExpiry : s.imageTimerExpiry.Booked := by
  unfold State.imageTimerExpiry State.giveUpJoining State.offerJoin
  repeat' split
  · exact h.of_labels (by simp)
  · exact h
  · exact h

theorem State.Booked.rejoinTimerExpiry : s.rejoinTimerExpiry.Booked := by
  unfold State.rejoinTimerExpiry State.offerJoin
  repeat' split
  · exact h.of_labels (by simp)
  · exact h.of_labels (by simp)
  · exact h

theorem State.Booked.ownLineTimerExpiry (line) : (s.ownLineTimerExpiry line).Booked := by
  unfold State.ownLineTimerExpiry State.expireTimer
  repeat' split
  · exact h.settled (by simp)
  · exact h
  · exact h

theorem State.Booked.ownMixerTimerExpiry (m) : (s.ownMixerTimerExpiry m).Booked := by
  unfold State.ownMixerTimerExpiry State.expireTimer
  repeat' split
  · exact h.settled (by simp)
  · exact h
  · exact h

theorem State.Booked.watchTimerExpiry (key) : (s.watchTimerExpiry key).Booked := by
  unfold State.watchTimerExpiry
  simp only
  repeat' split
  all_goals exact h

theorem State.Booked.settleExpiry (k) : (s.settleExpiry k).Booked := by
  unfold State.settleExpiry
  split
  · exact h.of_labels (by simp)
  · exact h

theorem State.Booked.capture (k) : (s.capture k).Booked := by
  unfold State.capture
  split
  · exact h.settled (by simp)
  · exact h

theorem State.Booked.tinPresentRise : s.tinPresentRise.Booked := by
  unfold State.tinPresentRise
  split <;> exact h

theorem State.Booked.seatingTimerExpiry (code) : (s.seatingTimerExpiry code).Booked := by
  unfold State.seatingTimerExpiry
  simp only
  split
  · refine h.settled ?_
    split <;> simp
  · exact h

theorem State.Booked.tinPresentFall : s.tinPresentFall.Booked := by
  unfold State.tinPresentFall
  simp only
  repeat' split
  · exact h
  · exact h.settled (by simp)
  · exact h

theorem State.Booked.fillLimitExpiry : s.fillLimitExpiry.Booked := by
  unfold State.fillLimitExpiry
  split
  · exact h.settled (by simp)
  · exact h

theorem State.Booked.runOnExpiry : s.runOnExpiry.Booked := by
  unfold State.runOnExpiry
  split
  · refine h.settled ?_
    split <;> simp
  · exact h

theorem State.Booked.pressTimerExpiry : s.pressTimerExpiry.Booked := by
  unfold State.pressTimerExpiry
  repeat' split
  · exact h.settled (by simp)
  · exact h
  · exact h.settled (by simp)
  · exact h

theorem State.Booked.pusherPulseExpiry (p) : (s.pusherPulseExpiry p).Booked := by
  unfold State.pusherPulseExpiry
  repeat' split
  · exact h.settled (by simp)
  · exact h.of_labels (by simp)
  · exact h

theorem State.Booked.confirmTimerExpiry (p) : (s.confirmTimerExpiry p).Booked := by
  unfold State.confirmTimerExpiry
  split
  · exact h.settled (by simp)
  · exact h

theorem State.Booked.outfeedSensorChange (on) : (s.outfeedSensorChange on).Booked := by
  unfold State.outfeedSensorChange
  simp only
  repeat' split
  · exact h
  · exact h.settled (by simp)
  · exact h.settled (by simp)

theorem State.Booked.occupiedInputChange (m on) : (s.occupiedInputChange m on).Booked := by
  unfold State.occupiedInputChange
  split
  · exact h
  · exact h.settled (by simp)

theorem State.Booked.chutePulseEnded : s.chutePulseEnded.Booked := by
  unfold State.chutePulseEnded
  simp only
  split
  · refine h.settled ?_
    split <;> simp
  · exact h

theorem State.Booked.doneInputRise (m) : (s.doneInputRise m).Booked := by
  unfold State.doneInputRise State.setDoneInput
  repeat' split
  · exact h
  · exact h.settled (by simp)
  · exact h

theorem State.Booked.doneInputFall (m) : (s.doneInputFall m).Booked := by
  unfold State.doneInputFall State.setDoneInput
  repeat' split
  all_goals exact h

/-! ### The terminal -/

/-- R168: a command of the terminal keeps the law where its action does. -/
theorem State.Booked.command (kind : Nat) {act : State → Answer} (acted : (act s).state.Booked) : (s.command kind act).Booked := by
  unfold State.command
  split
  · exact h.of_labels (labels_busy s kind)
  · exact acted

theorem State.Booked.setupAnswer (block) : (s.setupAnswer block).state.Booked := by
  unfold State.setupAnswer
  repeat' split
  · exact h
  · exact h.of_labels (labels_enter _ _)
  all_goals exact h

theorem State.Booked.startAnswer : s.startAnswer.state.Booked := by
  unfold State.startAnswer
  split
  · exact h.of_labels (labels_enter _ _)
  · exact h

theorem State.Booked.leaveAnswer : s.leaveAnswer.state.Booked := by
  unfold State.leaveAnswer State.queueTerminal
  repeat' split
  all_goals exact h

theorem State.Booked.askBay (equipped levelOk n) : (s.askBay equipped levelOk n).state.Booked := by
  unfold State.askBay State.queueTerminal
  repeat' split
  all_goals exact h

theorem State.Booked.cancelAnswer (tag) : (s.cancelAnswer tag).state.Booked := by
  unfold State.cancelAnswer
  repeat' split
  · exact h
  · exact h
  · next cancelled => exact h.settled (labels_cancelOrder cancelled)
  · exact h

theorem State.Booked.priorityAnswer (tag level) : (s.priorityAnswer tag level).state.Booked := by
  unfold State.priorityAnswer
  repeat' split
  · exact h
  · exact h
  · exact h
  · exact h
  · exact h.settled (by simp)
  · exact h

theorem State.Booked.queryOrderAnswer (tag) : (s.queryOrderAnswer tag).state.Booked := by
  unfold State.queryOrderAnswer
  repeat' split
  all_goals exact h

theorem State.Booked.queryLineAnswer (line) : (s.queryLineAnswer line).state.Booked := by
  unfold State.queryLineAnswer
  repeat' split
  all_goals exact h

/-- R150, R172: READ TICKET takes the first ticket, and the book settles. -/
theorem State.Booked.readTicketAnswer : s.readTicketAnswer.state.Booked := by
  unfold State.readTicketAnswer
  split
  · exact h
  · exact State.Booked.settle (LabelsLawful.tail h)

omit h in
/-- R139: an ORDER that is not refused names a tag that no live order and no ticket has, and finds room. -/
theorem orderRefusal_eq_none {f : OrderFields} (passed : s.orderRefusal f = none) :
    s.obu.slotOf f.tag = none ∧ (∀ k ∈ s.tlu.tickets, k.tag ≠ f.tag) ∧ s.obu.slots.all Option.isSome = false := by
  unfold State.orderRefusal at passed
  repeat' split at passed
  all_goals try cases passed
  next named room =>
    rw [not_or, Option.not_isSome_iff_eq_none] at named
    exact ⟨named.1, by simpa using named.2, by simpa using room⟩

/-- R138, R139: an order admitted is the youngest, with a tag of its own. -/
theorem State.Booked.orderAnswer (f) : (s.orderAnswer f).state.Booked := by
  unfold State.orderAnswer
  split
  · exact h
  · next passed =>
    obtain ⟨unnamed, unticketed, room⟩ := orderRefusal_eq_none passed
    refine State.Booked.settle ?_
    have free : s.labels.1[s.obu.freeSlot]? = some none := by
      simp [State.labels, freeSlot_free room]
    have new : f.tag ∉ (s.labels.1.filterMap id).map Prod.fst ++ s.tlu.tickets.map Ticket.tag := by
      rw [List.mem_append, not_or]
      refine ⟨fun mem => ?_, fun mem => ?_⟩
      · simp only [State.labels, List.mem_map, List.mem_filterMap, id] at mem
        obtain ⟨_, ⟨_, ⟨x, mem, labelled⟩, rfl⟩, tagged⟩ := mem
        obtain ⟨o, rfl, rfl⟩ := Option.map_eq_some_iff.1 labelled
        obtain ⟨i, lt, at_i⟩ := List.getElem_of_mem mem
        have eight : s.obu.slots.length = 8 := by simpa [State.labels] using h.eight
        refine slotOf_eq_none_iff.1 unnamed i (eight ▸ lt) o ?_ tagged
        simp [State.order, List.getD_eq_getElem?_getD, lt, at_i]
      · obtain ⟨k, mem, tagged⟩ := List.mem_map.1 mem
        exact unticketed k mem tagged
    have admitted := LabelsLawful.addYoungest h free new
    rw [labels_filterMap, List.length_map, ← Book.live_eq_length] at admitted
    have labels : (s.modBook fun b => { b with slots := b.slots.set b.freeSlot (some (newOrder f b.live)) }).labels
        = (s.labels.1.set s.obu.freeSlot (some (f.tag, s.obu.live)), s.labels.2) := by
      refine Prod.ext ?_ rfl
      show (s.obu.slots.set _ _).map _ = _
      rw [List.map_set]
      rfl
    rw [State.Booked, labels]
    exact admitted

end

/-- R23, R155: after the reset no order is live and no ticket queued. -/
theorem booked_reset (pins : Pins) (pending : List Instr) : State.Booked { State.reset with pins := pins, pending := pending } :=
  ⟨rfl, .refl _, .nil⟩

/-! ### Every command -/

theorem State.Booked.ite {c : Prop} [Decidable c] {s t : State} (h : s.Booked) (g : t.Booked) : (if c then s else t).Booked := by
  split
  · exact h
  · exact g

/-- Whatever command comes, the law of the order book is kept. -/
theorem exec_booked (c : Instr) {s : State} (h : s.Booked) : ∃ t, exec c s = .next t ∧ t.Booked := by
  cases c with
  | hardwareReset => exact ⟨_, rfl, booked_reset _ _⟩
  | idleWait => exact ⟨_, rfl, .ite h h⟩
  | beginNotice rival => exact ⟨_, rfl, .ite (.ite h h) h⟩
  | turnSpentIdleClear => exact ⟨_, rfl, .ite h h⟩
  | void heard => exact ⟨_, rfl, h.void heard⟩
  | joinTaken | formedTaken | imageTaken | imageEndTaken | leaveTaken | claimTaken | withdrawTaken | releaseTaken | refillTaken
  | lineOutTaken | lineReturnTaken | rushTakeTaken | rushDropTaken | mixClaimTaken | mixWithdrawTaken | mixReleaseTaken
  | mixerReturnTaken | revokeTaken => exact ⟨_, rfl, h.take _ _⟩
  | setup block => exact ⟨_, rfl, h.command 1 (h.setupAnswer block)⟩
  | start => exact ⟨_, rfl, h.command 2 h.startAnswer⟩
  | leave => exact ⟨_, rfl, h.command 3 h.leaveAnswer⟩
  | order fields => exact ⟨_, rfl, h.command 4 (h.orderAnswer fields)⟩
  | cancel tag => exact ⟨_, rfl, h.command 5 (h.cancelAnswer tag)⟩
  | priority tag level => exact ⟨_, rfl, h.command 6 (h.priorityAnswer tag level)⟩
  | refill line level => exact ⟨_, rfl, h.command 7 (h.askBay _ _ _)⟩
  | lineReturn line level => exact ⟨_, rfl, h.command 8 (h.askBay _ _ _)⟩
  | lineOut line => exact ⟨_, rfl, h.command 9 (h.askBay _ _ _)⟩
  | mixerReturn mixer => exact ⟨_, rfl, h.command 10 (h.askBay _ _ _)⟩
  | queryStation => exact ⟨_, rfl, h.command 11 h⟩
  | queryOrder tag => exact ⟨_, rfl, h.command 12 (h.queryOrderAnswer tag)⟩
  | queryLine line => exact ⟨_, rfl, h.command 13 (h.queryLineAnswer line)⟩
  | queryMixers => exact ⟨_, rfl, h.command 14 h⟩
  | readTicket => exact ⟨_, rfl, h.command 15 h.readTicketAnswer⟩
  | unknownCommandKind kind payload => exact ⟨_, rfl, .ite h (h.command kind h)⟩
  | commandWhileSending kind => exact ⟨_, rfl, .ite (h.of_labels (labels_busy s kind)) h⟩
  | replySent => exact ⟨_, rfl, .ite h h⟩
  | frameDropped bytes => exact ⟨_, rfl, h⟩
  | interByteTimeout => exact ⟨_, rfl, h⟩
  | firstListenExpiry => exact ⟨_, rfl, h.firstListenExpiry⟩
  | formationWindowExpiry => exact ⟨_, rfl, h.formationWindowExpiry⟩
  | imageTimerExpiry => exact ⟨_, rfl, h.imageTimerExpiry⟩
  | rejoinTimerExpiry => exact ⟨_, rfl, h.rejoinTimerExpiry⟩
  | ownLineTimerExpiry line => exact ⟨_, rfl, h.ownLineTimerExpiry line⟩
  | ownMixerTimerExpiry m => exact ⟨_, rfl, h.ownMixerTimerExpiry m⟩
  | watchTimerExpiry key => exact ⟨_, rfl, h.watchTimerExpiry key⟩
  | settleExpiry pair => exact ⟨_, rfl, h.settleExpiry pair⟩
  | valveExpiry pair => exact ⟨_, rfl, .ite h h⟩
  | capture pair => exact ⟨_, rfl, h.capture pair⟩
  | tapMeterPulse line => exact ⟨_, rfl, h⟩
  | tinPresentRise => exact ⟨_, rfl, h.tinPresentRise⟩
  | seatingTimerExpiry code => exact ⟨_, rfl, h.seatingTimerExpiry code⟩
  | tinPresentFall => exact ⟨_, rfl, h.tinPresentFall⟩
  | baseMeterPulse => exact ⟨_, rfl, h⟩
  | basePeriodExpiry | dutyTimerExpiry | seatTimerExpiry | lidHomeOn | runTimerExpiry => exact ⟨_, rfl, .ite h h⟩
  | fillLimitExpiry => exact ⟨_, rfl, h.fillLimitExpiry⟩
  | runOnExpiry => exact ⟨_, rfl, h.runOnExpiry⟩
  | pressTimerExpiry => exact ⟨_, rfl, h.pressTimerExpiry⟩
  | pusherPulseExpiry p => exact ⟨_, rfl, h.pusherPulseExpiry p⟩
  | confirmTimerExpiry p => exact ⟨_, rfl, h.confirmTimerExpiry p⟩
  | outfeedSensorChange on => exact ⟨_, rfl, h.outfeedSensorChange on⟩
  | occupiedInputChange m on => exact ⟨_, rfl, h.occupiedInputChange m on⟩
  | chutePulseEnded => exact ⟨_, rfl, h.chutePulseEnded⟩
  | doneInputRise m => exact ⟨_, rfl, h.doneInputRise m⟩
  | doneInputFall m => exact ⟨_, rfl, h.doneInputFall m⟩

end Sys2Proof.Machine

namespace Sys2Proof

open Machine

/-- Settles O56: every command keeps the law of the labels, for it leaves them, admits an order, tickets one or reads a ticket. -/
theorem orderBookLawKept : Obligations.OrderBookLawKept := by
  intro s t numbered distinct stepped
  have h : s.Booked := s.booked_iff.2 ⟨numbered, distinct⟩
  rw [← State.booked_iff]
  unfold step at stepped
  split at stepped
  · cases stepped
    exact h
  · next c rest _ =>
    obtain ⟨u, hu, kept⟩ := exec_booked c (s := { s with pending := rest }) h
    rw [hu] at stepped
    cases stepped
    exact kept

end Sys2Proof
end

section
/-! What the order book makes at the end of an event (R138, R140 to R145, R147, R150, R153), part by part. -/

namespace Sys2Proof.Machine

/-! ### The cradle choice (R140) -/

/-- R140: a candidate for the cradle that no other beats: the highest priority, and of one priority the oldest. -/
def beats (o x : Order) : Prop := x.priority.rank ≤ o.priority.rank ∧ (x.priority.rank = o.priority.rank → o.admission ≤ x.admission)

theorem beats_refl (o : Order) : beats o o := ⟨Nat.le_refl _, fun _ => Nat.le_refl _⟩

theorem cradleBetter_iff (a b : Order) : cradleBetter a b = true ↔
    b.priority.rank < a.priority.rank ∨ a.priority.rank = b.priority.rank ∧ a.admission < b.admission := by
  simp [cradleBetter]

theorem beats_trans {a b c : Order} (h : beats a b) (g : beats b c) : beats a c := by
  unfold beats at *
  omega

theorem beats_of_better {a b : Order} (h : cradleBetter a b = true) : beats a b := by
  rw [cradleBetter_iff] at h
  unfold beats
  omega

theorem beats_of_not_better {a b : Order} (h : cradleBetter a b = false) : beats b a := by
  rw [← Bool.not_eq_true, cradleBetter_iff] at h
  unfold beats
  omega

/-- R140: one candidate more, in slot `i`, beside the best so far. -/
def Book.betterSlot (b : Book) (best : Option Nat) (i : Nat) : Option Nat :=
  match best with
  | none => some i
  | some j =>
    match b.slots.getD i none, b.slots.getD j none with
    | some oi, some oj => if cradleBetter oi oj then some i else some j
    | _, _ => some j

theorem cradleChoice_eq (b : Book) :
    b.cradleChoice = (b.slotsWhere fun o => o.stage == .queued && o.priority != .hold).foldl b.betterSlot none := rfl

/-- Of two slots the better stands, and beats both. -/
theorem betterSlot_some {b : Book} {i j : Nat} {oi oj : Order} (hi : b.slots.getD i none = some oi)
    (hj : b.slots.getD j none = some oj) : ∃ w ow, b.betterSlot (some j) i = some w ∧ b.slots.getD w none = some ow
      ∧ (w = i ∨ w = j) ∧ beats ow oi ∧ beats ow oj := by
  have step : b.betterSlot (some j) i = if cradleBetter oi oj then some i else some j := by simp only [Book.betterSlot, hi, hj]
  cases better : cradleBetter oi oj with
  | true => exact ⟨i, oi, by rw [step, better, if_pos rfl], hi, .inl rfl, beats_refl oi, beats_of_better better⟩
  | false =>
    exact ⟨j, oj, by rw [step, better, if_neg Bool.false_ne_true], hj, .inr rfl, beats_of_not_better better, beats_refl oj⟩

/-- The slot that stands best beats every slot of the list and the one that stood best before. -/
theorem foldl_betterSlot {b : Book} {l : List Nat} (live : ∀ i ∈ l, ∃ o, b.slots.getD i none = some o) {j : Nat} {oj : Order}
    (order : b.slots.getD j none = some oj) :
    ∃ k ok, l.foldl b.betterSlot (some j) = some k ∧ b.slots.getD k none = some ok ∧ (k = j ∨ k ∈ l) ∧ beats ok oj
      ∧ ∀ i ∈ l, ∀ o, b.slots.getD i none = some o → beats ok o := by
  induction l generalizing j oj with
  | nil => exact ⟨j, oj, rfl, order, .inl rfl, beats_refl oj, nofun⟩
  | cons i l ih =>
    obtain ⟨oi, hi⟩ := live i List.mem_cons_self
    obtain ⟨w, ow, step, hw, which, over_i, over_j⟩ := betterSlot_some hi order
    obtain ⟨k, ok, fold, hk, mem, best, all⟩ := ih (fun x mem => live x (List.mem_cons_of_mem _ mem)) hw
    refine ⟨k, ok, by rw [List.foldl_cons, step, fold], hk, ?_, beats_trans best over_j, fun x mem o ho => ?_⟩
    · rw [List.mem_cons]
      rcases mem with rfl | mem
      · exact which.symm.imp_right .inl
      · exact .inr (.inr mem)
    · rcases List.mem_cons.1 mem with rfl | mem
      · obtain rfl : oi = o := Option.some_inj.1 (hi.symm.trans ho)
        exact beats_trans best over_i
      · exact all x mem o ho

section
variable {s : State} {slot : Nat} {o : Order}

/-- R140: an order that the cradle choice may take. -/
def Order.candidate (o : Order) : Prop := o.stage = .queued ∧ o.priority ≠ .hold

theorem mem_candidates {i : Nat} : i ∈ (s.obu.slotsWhere fun o => o.stage == .queued && o.priority != .hold) ↔
    i < 8 ∧ ∃ o, s.order i = some o ∧ o.candidate := by
  rw [mem_slotsWhere]
  simp [Order.candidate, State.order]

theorem cradleChoice_eq_none (none_waits : ∀ slot o, slot < 8 → s.order slot = some o → o.stage ≠ .queued ∨ o.priority = .hold) :
    s.obu.cradleChoice = none := by
  have empty : (s.obu.slotsWhere fun o => o.stage == .queued && o.priority != .hold) = [] :=
    List.eq_nil_iff_forall_not_mem.2 fun i mem => by
      obtain ⟨lt, o, order, stage, priority⟩ := mem_candidates.1 mem
      exact (none_waits i o lt order).elim (fun ne => ne stage) priority
  rw [cradleChoice_eq, empty]
  rfl

/-- R140: the cradle choice takes a candidate that beats every candidate. -/
theorem cradleChoice_eq_some (waits : ∃ slot o, slot < 8 ∧ s.order slot = some o ∧ o.candidate) :
    ∃ slot o, s.obu.cradleChoice = some slot ∧ slot < 8 ∧ s.order slot = some o ∧ o.candidate
      ∧ ∀ j x, j < 8 → s.order j = some x → x.candidate → beats o x := by
  have listed := @mem_candidates s
  rw [cradleChoice_eq]
  generalize (s.obu.slotsWhere fun o => o.stage == .queued && o.priority != .hold) = l at listed ⊢
  obtain ⟨i₀, o₀, lt₀, order₀, candidate₀⟩ := waits
  have mem₀ := listed.2 ⟨lt₀, o₀, order₀, candidate₀⟩
  cases l with
  | nil => cases mem₀
  | cons i l =>
    obtain ⟨-, oi, order_i, -⟩ := listed.1 (List.mem_cons_self (a := i) (l := l))
    have live : ∀ j ∈ l, ∃ o, s.obu.slots.getD j none = some o := fun j mem => by
      obtain ⟨-, o, order, -⟩ := listed.1 (List.mem_cons_of_mem i mem)
      exact ⟨o, order⟩
    obtain ⟨k, ok, fold, order_k, mem, best, all⟩ := foldl_betterSlot live order_i
    obtain ⟨lt, o, order, candidate⟩ := listed.1 (List.mem_cons.2 mem)
    obtain rfl : o = ok := Option.some_inj.1 (order.symm.trans order_k)
    refine ⟨k, o, fold, lt, order, candidate, fun j x below hx waiting => ?_⟩
    rcases List.mem_cons.1 (listed.2 ⟨below, x, hx, waiting⟩) with rfl | mem
    · obtain rfl : x = oi := Option.some_inj.1 (hx.symm.trans order_i)
      exact best
    · exact all j mem x hx

theorem chooseCradle_of_taken (taken : s.obu.cradle ≠ none) : s.chooseCradle = s := by
  unfold State.chooseCradle
  cases cradle : s.obu.cradle with
  | none => exact absurd cradle taken
  | some _ => rfl

theorem chooseCradle_of_no_candidate (none_waits : s.obu.cradleChoice = none) : s.chooseCradle = s := by
  unfold State.chooseCradle
  rw [none_waits]
  cases s.obu.cradle <;> rfl

/-- R140: the order chosen stands at the cradle in LOADING, with the lamp on. -/
def State.cradled (s : State) (slot : Nat) (o : Order) : State :=
  { s with
    obu := { s.obu with cradle := some slot, slots := s.obu.slots.set slot (some { o with stage := .loading }) }
    pdu := { s.pdu with lamp := true } }

/-- R140, R156: the cradle choice made, and the tin that is there judged. -/
theorem chooseCradle_of_choice (free : s.obu.cradle = none) (choice : s.obu.cradleChoice = some slot)
    (order : s.order slot = some o) : (s.pdu.arrived = none → s.chooseCradle = s.cradled slot o)
      ∧ ∀ code, s.pdu.arrived = some code → s.chooseCradle = (s.cradled slot o).judgeTin slot code := by
  have placed : (((s.modBook fun b => { b with cradle := some slot }).setStage slot .loading).modPdu fun p => { p with lamp := true })
      = s.cradled slot o := by
    have same : (s.modBook fun b => { b with cradle := some slot }).order slot = some o := order
    rw [State.setStage, State.modOrder_eq_set _ _ _ _ same]
    rfl
  constructor
  · intro arrived
    simp only [State.chooseCradle, free, choice, arrived, placed]
  · intro code arrived
    simp only [State.chooseCradle, free, choice, arrived, placed]

/-! ### A tin judged (R140, R141) -/

theorem judgeTin_wrong {code : Nat} (order : s.order slot = some o) (size : o.size ≠ code) :
    s.judgeTin slot code = { s with obu := { s.obu with slots := s.obu.slots.set slot (some { o with wrongTin := true }) } } := by
  unfold State.judgeTin
  simp only [order, if_neg size]
  exact s.modOrder_eq_set slot o _ order

/-- R140, R141: the order seated, in BASE with the lamp off. -/
def State.seated (s : State) (slot : Nat) (o : Order) : State :=
  { s with
    obu := { s.obu with slots := s.obu.slots.set slot (some { o with stage := .base }) }
    pdu := { s.pdu with lamp := false } }

theorem seated_eq (order : s.order slot = some o) :
    (s.modPdu fun p => { p with lamp := false }).setStage slot .base = s.seated slot o := by
  have same : (s.modPdu fun p => { p with lamp := false }).order slot = some o := order
  rw [State.setStage, State.modOrder_eq_set _ _ _ _ same]
  rfl

/-- What a slot holds once it is set. -/
theorem order_set_self {u : State} {o' : Order} (slots : u.obu.slots = s.obu.slots.set slot (some o')) (order : s.order slot = some o) :
    u.order slot = some o' := by
  simp [State.order, slots, List.getD_eq_getElem?_getD, State.slot_lt_of_order order]

/-- Every other slot holds what it held. -/
theorem order_set_ne {u : State} {x : Option Order} {j : Nat} (slots : u.obu.slots = s.obu.slots.set slot x) (ne : j ≠ slot) :
    u.order j = s.order j := by
  simp [State.order, slots, List.getD_eq_getElem?_getD, ne.symm]

theorem judgeTin_seats_finished {code : Nat} (order : s.order slot = some o) (size : o.size = code) (base : o.base = 0) :
    s.judgeTin slot code = { s with
      obu := { s.obu with
        slots := s.obu.slots.set slot (some { o with stage := .base, baseFinished := true, baseDelivered := 0 }) }
      pdu := { s.pdu with lamp := false } } := by
  have inBase : (s.seated slot o).order slot = some { o with stage := .base } := order_set_self rfl order
  unfold State.judgeTin State.seat
  simp only [order, if_pos size, if_pos base, seated_eq order]
  rw [State.modOrder_eq_set _ _ _ _ inBase]
  simp only [State.seated, List.set_set]

theorem judgeTin_seats_filling {code : Nat} (order : s.order slot = some o) (size : o.size = code) (base : o.base ≠ 0) :
    s.judgeTin slot code = (s.seated slot o).startFill o.base := by
  unfold State.judgeTin State.seat
  simp only [order, if_pos size, if_neg base, seated_eq order]

/-! ### The rush request and the tint gate (R141, R142) -/

theorem requestRush_asks (cradle : s.cradleIn .base = some slot) (order : s.order slot = some o)
    (due : o.rush = true ∧ o.rushResult = .pending ∧ s.obu.request = .absent ∧ s.isAttached = true) :
    s.requestRush = { s with
      blu := (s.blu.offer (.rushTake o.tag) .book).1
      obu := { s.obu with request := .requested slot } } := by
  unfold State.requestRush
  simp only [cradle, order, if_pos due]
  rfl

theorem requestRush_waits (cradle : s.cradleIn .base = some slot) (order : s.order slot = some o)
    (undue : o.rush = false ∨ o.rushResult ≠ .pending ∨ s.obu.request ≠ .absent ∨ s.isAttached = false) : s.requestRush = s := by
  unfold State.requestRush
  simp only [cradle, order]
  refine if_neg fun ⟨rush, pending, absent, attached⟩ => ?_
  rcases undue with h | h | h | h
  · exact Bool.false_ne_true (h.symm.trans rush)
  · exact h pending
  · exact h absent
  · exact Bool.false_ne_true (h.symm.trans attached)

theorem openGate_opens (cradle : s.cradleIn .base = some slot) (order : s.order slot = some o)
    (due : o.baseFinished = true ∧ s.isAttached = true ∧ o.rushResult ≠ .pending) :
    s.openGate = { s with obu := { s.obu with slots := s.obu.slots.set slot (some { o with stage := .tint }) } } := by
  unfold State.openGate
  simp only [cradle, order, if_pos due]
  exact s.modOrder_eq_set slot o _ order

theorem openGate_waits (cradle : s.cradleIn .base = some slot) (order : s.order slot = some o)
    (undue : o.baseFinished = false ∨ s.isAttached = false ∨ o.rushResult = .pending) : s.openGate = s := by
  unfold State.openGate
  simp only [cradle, order]
  refine if_neg fun ⟨finished, attached, settled⟩ => ?_
  rcases undue with h | h | h
  · exact Bool.false_ne_true (h.symm.trans finished)
  · exact Bool.false_ne_true (h.symm.trans attached)
  · exact settled h

/-! ### Dosing (R143, R144) -/

theorem idleChannel_eq_none (busy : ∀ c ∈ s.dcs, c.state ≠ .idle) : s.idleChannel = none :=
  List.findIdx?_eq_none_iff.2 fun c mem => by simpa using busy c mem

/-- R105: the lowest-numbered IDLE channel. -/
theorem idleChannel_eq_some {k : Nat} (lt : k < s.dcs.length) (idle : (s.dc k).state = .idle)
    (lowest : ∀ j < k, (s.dc j).state ≠ .idle) : s.idleChannel = some k := by
  have at_k (j : Nat) (lt : j < s.dcs.length) : s.dcs[j] = s.dc j := by simp [State.dc, List.getD_eq_getElem?_getD, lt]
  refine List.findIdx?_eq_some_iff_getElem.2 ⟨lt, by simp [at_k, idle], fun j below => ?_⟩
  simpa [at_k] using lowest j below

theorem handNext_stays (order : s.order slot = some o) (undue : o.stage ≠ .tint ∨ o.stopping ≠ none ∨ s.isAttached = false
    ∨ o.entries.length ≤ o.handed ∨ ∀ c ∈ s.dcs, c.state ≠ .idle) : s.handNext slot = s := by
  unfold State.handNext
  rw [order]
  cases idle : s.idleChannel with
  | none => rfl
  | some k =>
    simp only
    split
    · next due =>
      obtain ⟨tint, runs, attached⟩ := due
      rcases undue with h | h | h | h | h
      · exact absurd tint h
      · exact absurd runs h
      · rw [h] at attached
        cases attached
      · rw [List.getElem?_eq_none h]
      · rw [idleChannel_eq_none h] at idle
        cases idle
    · rfl

/-- R105, R124: the order's next entry stands at channel `k`, its pair bound to the entry's line. -/
def State.handed (s : State) (slot k : Nat) (o : Order) (e : DoseEntry) : State :=
  { s with
    obu := { s.obu with slots := s.obu.slots.set slot (some { o with handed := o.handed + 1 }) }
    dcs := s.dcs.set k { Channel.idle with line := e.line, slot := slot, entry := o.handed, ordered := e.drops, mode := e.mode }
    mps := s.mps.set k { s.mp k with bound := some e.line, counter := 0, overflow := false } }

theorem handNext_hands {k : Nat} {e : DoseEntry} (order : s.order slot = some o) (tint : o.stage = .tint) (runs : o.stopping = none)
    (attached : s.isAttached = true) (channels : k < s.dcs.length) (pairs : k < s.mps.length) (idle : (s.dc k).state = .idle)
    (lowest : ∀ j < k, (s.dc j).state ≠ .idle) (entry : o.entries[o.handed]? = some e) :
    s.handNext slot = (s.handed slot k o e).offerClaim k .claiming := by
  unfold State.handNext
  simp only [order, idleChannel_eq_some channels idle lowest, entry, State.handOver]
  rw [if_pos ⟨tint, runs, attached⟩, State.modOrder_eq_set _ _ _ _ order, State.modDc_eq_set _ _ _ (by exact channels),
    State.modMp_eq_set _ _ _ (by exact pairs)]
  rfl

/-! ### The end of dosing (R143, R144) -/

theorem anyWorks_iff : s.anyWorks slot = true ↔ ∃ k, k < 4 ∧ (s.dc k).state ≠ .idle ∧ (s.dc k).slot = slot := by
  rw [State.anyWorks, List.any_eq_true]
  simp only [worksFor_iff]
  refine exists_congr fun k => and_congr_left fun _ => ?_
  simp only [List.mem_cons, List.not_mem_nil, or_false]
  omega

theorem endTint_busy (order : s.order slot = some o) (busy : o.stage ≠ .tint ∨ s.anyWorks slot = true) : s.endTint slot = s := by
  unfold State.endTint
  simp only [order]
  refine if_neg fun ⟨tint, free⟩ => ?_
  rcases busy with h | h
  · exact h tint
  · rw [h] at free
    cases free

section
variable (order : s.order slot = some o) (tint : o.stage = .tint) (free : s.anyWorks slot = false)
include order tint free

theorem endTint_rejects {r : OrderReason} (stops : o.stopping = some r) : s.endTint slot = s.reject slot r := by
  simp only [State.endTint, order, stops]
  exact if_pos ⟨tint, by rw [free]; rfl⟩

/-- R143: with no channel busy with it, an order that is not stopping leaves TINT once every entry is DONE. -/
theorem endTint_runs (runs : o.stopping = none) :
    s.endTint slot = if o.results.all (fun r => r.outcome == .done) then s.leaveTint slot o else s := by
  simp only [State.endTint, order, runs]
  exact if_pos ⟨tint, by rw [free]; rfl⟩

theorem endTint_unfinished (runs : o.stopping = none) (unfinished : ∃ r ∈ o.results, r.outcome ≠ .done) : s.endTint slot = s := by
  rw [endTint_runs order tint free runs]
  refine if_neg fun all => ?_
  obtain ⟨r, mem, ne⟩ := unfinished
  exact ne (by simpa using List.all_eq_true.1 all r mem)

theorem endTint_leaves (runs : o.stopping = none) (done : ∀ r ∈ o.results, r.outcome = .done) :
    s.endTint slot = s.leaveTint slot o := by
  rw [endTint_runs order tint free runs]
  exact if_pos (List.all_eq_true.2 fun r mem => by rw [done r mem]; rfl)

end

/-- R142, R143: the state in which an order that leaves TINT unmixed has given its token back. -/
def State.tokenSettled (s : State) (slot : Nat) (o : Order) : State := if o.mixTime = 0 then s.dropToken slot else s

theorem tokenSettled_eq : s.tokenSettled slot o = { s with
    blu := if o.mixTime = 0 then s.blu.tokenBack s.obu.request slot else s.blu
    obu := { s.obu with request := if o.mixTime = 0 then s.obu.request.without slot else s.obu.request } } := by
  unfold State.tokenSettled
  rw [dropToken_eq]
  split <;> rfl

/-- R143: the order in its stage after TINT. -/
theorem tokenSettled_setStage (order : s.order slot = some o) (st : Stage) : (s.tokenSettled slot o).setStage slot st = { s with
    blu := if o.mixTime = 0 then s.blu.tokenBack s.obu.request slot else s.blu
    obu := { s.obu with
      request := if o.mixTime = 0 then s.obu.request.without slot else s.obu.request
      slots := s.obu.slots.set slot (some { o with stage := st }) } } := by
  rw [tokenSettled_eq]
  exact State.modOrder_eq_set _ slot o _ order

theorem leaveTint_unlidded (lid : o.lid = false) : s.leaveTint slot o = (s.tokenSettled slot o).setStage slot .outfeedWait := by
  unfold State.leaveTint
  rw [lid]
  rfl

theorem leaveTint_lidded (lid : o.lid = true) : s.leaveTint slot o = ((s.tokenSettled slot o).setStage slot .lid).startPress := by
  unfold State.leaveTint
  rw [lid]
  rfl

/-- R160: a press started leaves the outgoing list and the book. -/
theorem startPress_frame : s.startPress.blu = s.blu ∧ s.startPress.obu = s.obu := by
  unfold State.startPress
  split <;> exact ⟨rfl, rfl⟩

theorem startPress_idle (idle : s.pdu.press.phase = .idle) : s.startPress.pdu.press = { s.pdu.press with
    phase := .seat, tries := 1, homeSeen := false, seatTimer := some s.cal.seatDelay, seatDelay := s.cal.seatDelay,
    pressWidth := s.cal.pressWidth } := by
  unfold State.startPress
  rw [if_pos idle]
  rfl

/-- R142, R143: what leaves the token, and the stage after TINT, of an order whose entries are all DONE. -/
theorem leaveTint_leaves (order : s.order slot = some o) {st : Stage} (next : st = if o.lid then .lid else .outfeedWait) :
    (s.leaveTint slot o).blu = (if o.mixTime = 0 then s.blu.tokenBack s.obu.request slot else s.blu)
      ∧ (s.leaveTint slot o).obu.request = (if o.mixTime = 0 then s.obu.request.without slot else s.obu.request)
      ∧ (s.leaveTint slot o).order slot = some { o with stage := st } := by
  by_cases lid : o.lid = true
  · rw [if_pos lid] at next
    rw [next, leaveTint_lidded lid, State.order, startPress_frame.1, startPress_frame.2, tokenSettled_setStage order]
    exact ⟨rfl, rfl, order_set_self rfl order⟩
  · rw [if_neg lid] at next
    rw [next, leaveTint_unlidded (by simpa using lid), tokenSettled_setStage order]
    exact ⟨rfl, rfl, order_set_self rfl order⟩

/-! ### The outfeed (R145) -/

theorem outfeedPushersIdle_iff :
    s.outfeedPushersIdle = true ↔ s.pdu.toShelf.phase = .idle ∧ ∀ r ∈ s.pdu.toMixer, r.phase = .idle := by
  simp [State.outfeedPushersIdle]

theorem callOutfeed_waits (undue : s.obu.outfeed ≠ none ∨ s.pins.outfeed = true ∨ s.pdu.toShelf.phase ≠ .idle
    ∨ (∃ r ∈ s.pdu.toMixer, r.phase ≠ .idle) ∨ s.pdu.toOutfeed.phase ≠ .idle) : s.callOutfeed = s := by
  unfold State.callOutfeed
  split
  · rfl
  · split
    · next due =>
      obtain ⟨absent, idle, off⟩ := due
      obtain ⟨shelf, mixers⟩ := outfeedPushersIdle_iff.1 idle
      rcases undue with h | h | h | ⟨r, mem, h⟩ | h
      · exact absurd absent h
      · rw [h] at off
        cases off
      · exact absurd shelf h
      · exact absurd (mixers r mem) h
      · exact if_neg h
    · rfl

theorem callOutfeed_starts (cradle : s.cradleIn .outfeedWait = some slot) (absent : s.obu.outfeed = none)
    (off : s.pins.outfeed = false) (shelf : s.pdu.toShelf.phase = .idle) (mixers : ∀ r ∈ s.pdu.toMixer, r.phase = .idle)
    (idle : s.pdu.toOutfeed.phase = .idle) : s.callOutfeed = { s with
      pdu := { s.pdu with
        toOutfeed := { phase := .pulse, pulseTimer := some s.cal.transferPulse, confirmTimer := none, output := true,
                       limit := s.cal.transferLimit } } } := by
  unfold State.callOutfeed
  simp only [cradle]
  rw [if_pos ⟨absent, outfeedPushersIdle_iff.2 ⟨shelf, mixers⟩, by rw [off]; rfl⟩]
  exact if_pos idle

/-! ### The MIX CLAIM (R147) -/

theorem offer_refused {b : Blu} {n : Notice} (owner : Owner) (clash : (b.list ++ b.held).any (clashes n) = true) :
    b.offer n owner = (b, .refused) := if_pos clash

section
variable (outfeed : s.outfeedIn .mixWait = some slot) (order : s.order slot = some o)
include outfeed order

theorem claimMixer_waits (undue : s.isAttached = false ∨ o.mixClaimOffered = true
    ∨ (s.blu.list ++ s.blu.held).any (clashes (s.mixClaimNotice slot)) = true) : s.claimMixer = s := by
  unfold State.claimMixer
  simp only [outfeed]
  split
  · next due =>
    obtain ⟨attached, offered⟩ := due
    rw [order, Option.map_some, Option.some_inj] at offered
    rcases undue with h | h | h
    · rw [h] at attached
      cases attached
    · rw [h] at offered
      cases offered
    · rw [offer_refused _ h]
  · rfl

theorem claimMixer_offers (attached : s.isAttached = true) (unoffered : o.mixClaimOffered = false)
    (free : (s.blu.list ++ s.blu.held).any (clashes (s.mixClaimNotice slot)) = false) :
    s.claimMixer = { s with
      blu := (s.blu.offer (s.mixClaimNotice slot) .book).1
      obu := { s.obu with slots := s.obu.slots.set slot (some { o with mixClaimOffered := true }) } } := by
  have admitted := Blu.offer_not_refused s.blu (s.mixClaimNotice slot) .book free
  unfold State.claimMixer
  simp only [outfeed]
  rw [if_pos ⟨attached, by rw [order, Option.map_some, unoffered]⟩]
  exact State.modOrder_eq_set _ slot o _ order

end

/-! ### The tickets (R150, R153) -/

theorem queueTickets_none (n : Nat) (none_due : s.obu.doneOrder = [] ∨ 8 ≤ s.tlu.tickets.length) : State.queueTickets n s = s := by
  cases n with
  | zero => rfl
  | succ n =>
    unfold State.queueTickets
    split
    · rfl
    · next waiting =>
      rcases none_due with h | h
      · rw [h] at waiting
        cases waiting
      · exact if_neg (Nat.not_lt.2 h)

/-- R153: the ticket of an order, its pending rush reported as not asked. -/
theorem ticket_eq (o : Order) : o.ticket =
    { tag := o.tag, outcome := o.outcome.getD .spoiled, reason := o.reason.getD .none, baseDelivered := o.baseDelivered,
      entries := o.results.map EntryResult.delivered, mixerUsed := o.mixerUsed,
      rushResult := if o.rushResult = .pending then .notAsked else o.rushResult } := by
  unfold Order.ticket
  cases o.rushResult <;> rfl

theorem queueTickets_one (n : Nat) {rest : List Nat} (done : s.obu.doneOrder = slot :: rest) (room : s.tlu.tickets.length < 8)
    (order : s.order slot = some o) :
    State.queueTickets (n + 1) s = State.queueTickets n { s with
      obu := { s.obu with
        slots := (s.obu.slots.set slot none).map (Option.map (closeUp o.admission))
        request := s.obu.request.freeing slot
        doneOrder := rest }
      tlu := { s.tlu with tickets := s.tlu.tickets ++ [o.ticket], attention := true } } := by
  have freed : s.obu.free slot = { s.obu with
      slots := (s.obu.slots.set slot none).map (Option.map (closeUp o.admission)), request := s.obu.request.freeing slot } := by
    unfold Book.free
    rw [show s.obu.slots.getD slot none = some o from order]
  have raised : attentionOf (s.tlu.tickets ++ [o.ticket]) s.tlu.unread = true := by simp [attentionOf]
  rw [State.queueTickets]
  simp only [done, if_pos room, order, State.modBook, State.modTlu, freed, Tlu.queueTicket, raised]

end

end Sys2Proof.Machine

namespace Sys2Proof

open Machine

/-- Settles O9: the parts of the event's end one by one, each by whether its conditions hold. -/
theorem settleMakesWhatIsDue : Obligations.SettleMakesWhatIsDue := by
  refine ⟨fun _ => rfl, fun s => ⟨chooseCradle_of_taken, fun waits => chooseCradle_of_no_candidate (cradleChoice_eq_none waits),
    fun free waits => ?_⟩, fun s slot code o order => ⟨judgeTin_wrong order, judgeTin_seats_finished order,
      judgeTin_seats_filling order⟩, fun s => ⟨fun absent => ?_, fun slot o cradle order => ⟨requestRush_asks cradle order,
      requestRush_waits cradle order, openGate_opens cradle order, openGate_waits cradle order⟩⟩,
    fun s => ⟨fun absent => ?_, fun slot cradle => ?_, fun slot o order => ⟨handNext_stays order, ?_⟩⟩,
    fun s slot o order => ⟨fun busy => endTint_busy order (busy.imp_right anyWorks_iff.2), fun tint free => ?_⟩,
    fun s => ⟨fun absent => ?_, callOutfeed_waits, fun slot => callOutfeed_starts⟩,
    fun s => ⟨fun absent => ?_, ?_⟩, fun s n => ⟨queueTickets_none n, ?_⟩⟩
  · obtain ⟨slot, o, lt, order, candidate⟩ := waits
    obtain ⟨slot, o, choice, lt, order, ⟨stage, priority⟩, best⟩ := cradleChoice_eq_some ⟨slot, o, lt, order, candidate⟩
    exact ⟨slot, o, s.cradled slot o, lt, order, stage, priority, fun j x lt hx st pr => best j x lt hx ⟨st, pr⟩, rfl,
      chooseCradle_of_choice free choice order⟩
  · exact ⟨by simp only [State.requestRush, absent], by simp only [State.openGate, absent]⟩
  · simp only [State.dose, absent]
  · simp only [State.dose, cradle]
  · rintro k e u tint runs attached channels pairs idle lowest entry rfl
    exact handNext_hands order tint runs attached channels pairs idle lowest entry
  · have none_works : s.anyWorks slot = false := by
      rw [← Bool.not_eq_true, anyWorks_iff]
      rintro ⟨k, lt, busy, works⟩
      exact (free k lt).elim busy fun other => other works
    refine ⟨fun r stops => ?_, endTint_unfinished order tint none_works, fun runs done => ?_⟩
    · rw [endTint_rejects order tint none_works stops]
      exact reject_ordersReject s slot o r order
    · rw [endTint_leaves order tint none_works runs done]
      have leaves := @leaveTint_leaves s slot o order
      refine ⟨(leaves rfl).1, (leaves rfl).2.1, fun lid => ⟨(leaves (by rw [lid]; rfl)).2.2, ?_⟩,
        fun lid => ⟨(leaves (by rw [lid]; rfl)).2.2, fun idle => ?_⟩⟩
      · rw [leaveTint_unlidded lid, tokenSettled_setStage order]
      · rw [leaveTint_lidded lid, tokenSettled_setStage order, startPress_idle (by exact idle)]
        rfl
  · simp only [State.callOutfeed, absent]
  · simp only [State.claimMixer, absent]
  · rintro slot o n outfeed order rfl
    rw [← mixClaimNotice_eq order]
    exact ⟨claimMixer_waits outfeed order, claimMixer_offers outfeed order⟩
  · rintro slot rest o k done room order rfl
    rw [queueTickets_one n done room order, ticket_eq]
    rfl

end Sys2Proof
end

section
/-! ORDER (R138, R139): the ranges of its fields, its refusals in their order, and the order admitted. -/

namespace Sys2Proof.Machine

/-! ### The ranges of the fields (R138, R139 (b)) -/

theorem priorityOfCode_isSome_iff (n : Nat) : (priorityOfCode n).isSome = true ↔ n ≤ 3 := by
  rcases n with _ | _ | _ | _ | n <;> simp [priorityOfCode]

theorem yesOfCode_isSome_iff (n : Nat) : (yesOfCode n).isSome = true ↔ n ≤ 1 := by
  rcases n with _ | _ | n <;> simp [yesOfCode]

theorem yesOfCode_eq_yes_iff (n : Nat) : yesOfCode n = some true ↔ n = 0 := by
  rcases n with _ | _ | n <;> simp [yesOfCode]

theorem yesOfCode_eq_no_iff (n : Nat) : yesOfCode n = some false ↔ n = 1 := by
  rcases n with _ | _ | n <;> simp [yesOfCode]

theorem modeOfCode_isSome_iff (n : Nat) : (modeOfCode n).isSome = true ↔ n ≤ 2 := by
  rcases n with _ | _ | _ | n <;> simp [modeOfCode]

theorem linesDistinct_iff (es : List OrderEntry) : linesDistinct es = true ↔ (es.map OrderEntry.line).Nodup := by
  induction es with
  | nil => simp [linesDistinct]
  | cons e es ih => simp [linesDistinct, ih]

theorem orderEntryInRange_iff (e : OrderEntry) :
    orderEntryInRange e = true ↔ e.line ≤ 15 ∧ (1 ≤ e.drops ∧ e.drops ≤ 16383) ∧ e.mode ≤ 2 := by
  simp [orderEntryInRange, inRange_iff, modeOfCode_isSome_iff, Nat.lt_succ_iff, and_assoc]

/-- R138, R139 (b): the fields of an ORDER one by one. -/
theorem orderFieldsValid_iff (f : OrderFields) : orderFieldsValid f = true ↔
    ((1 ≤ f.tag ∧ f.tag ≤ 65535) ∧ (1 ≤ f.size ∧ f.size ≤ 7) ∧ f.base ≤ 20000 ∧ f.priority ≤ 3 ∧ f.rush ≤ 1 ∧ f.lid ≤ 1
      ∧ (f.mixTime = 0 ∨ (10 ≤ f.mixTime ∧ f.mixTime ≤ 300)) ∧ f.entries.length ≤ 12
      ∧ (∀ e ∈ f.entries, e.line ≤ 15 ∧ (1 ≤ e.drops ∧ e.drops ≤ 16383) ∧ e.mode ≤ 2)
      ∧ (f.entries.map OrderEntry.line).Nodup ∧ (yesOfCode f.rush = some true → f.priority = 2)
      ∧ (f.mixTime ≠ 0 → yesOfCode f.lid ≠ some false)) := by
  simp only [orderFieldsValid, mixTimeInRange, Bool.and_eq_true, Bool.or_eq_true, Bool.not_eq_true', Bool.and_eq_false_iff,
    inRange_iff, decide_eq_true_iff, priorityOfCode_isSome_iff, yesOfCode_isSome_iff, List.all_eq_true, orderEntryInRange_iff,
    linesDistinct_iff, yesOfCode_eq_yes_iff, yesOfCode_eq_no_iff, beq_iff_eq, beq_eq_false_iff_ne, bne_eq_false_iff_eq,
    and_assoc, ne_eq, imp_iff_not_or, not_not]

/-! ### The refusals (R139) -/

section
variable {s : State} {f : OrderFields}

/-- R139: an ORDER that some check refuses. -/
theorem order_refused {r : ReplyResult} (idle : s.tlu.sending = none) (refused : s.orderRefusal f = some r) :
    exec (.order f) s = .next (s.answered 4 r .nothing) := by
  have answer : s.orderAnswer f = .refuse s r := by
    unfold State.orderAnswer
    rw [refused]
  show Host.Outcome.next (s.command 4 (State.orderAnswer f)) = _
  rw [command_answered s 4 _ idle, answer]
  rfl

theorem orderRefusal_unset (unset : s.setup = none) : s.orderRefusal f = some .wrongState := if_pos (by rw [unset]; rfl)

section
variable (set : s.setup ≠ none)
include set

theorem setup_isNone_ne : ¬ s.setup.isNone = true := by simpa using set

theorem orderRefusal_badField (bad : orderFieldsValid f = false) : s.orderRefusal f = some .badField :=
  (if_neg (setup_isNone_ne set)).trans (if_pos (by rw [bad]; rfl))

/-- R139: what the checks after the setup and the ranges come to. -/
theorem orderRefusal_of_valid (valid : orderFieldsValid f = true) : s.orderRefusal f =
    if f.entries.any (fun e => s.bay.linesEquipped ≤ e.line) then some .notEquipped
    else if f.entries.any (fun e => (s.bt.line e.line).any fun r => r.service == .out) then some .lineOut
    else if f.mixTime ≠ 0 ∧ s.bt.pool.any (fun p => p.recs.all fun r => r.state == .out) then some .wrongState
    else if (s.obu.slotOf f.tag).isSome ∨ s.tlu.tickets.any (fun t => t.tag == f.tag) then some .duplicateTag
    else if s.obu.slots.all Option.isSome then some .noSlot
    else none :=
  (if_neg (setup_isNone_ne set)).trans (if_neg (by rw [valid]; decide))

variable (valid : orderFieldsValid f = true)
include valid

theorem orderRefusal_notEquipped (beyond : ∃ e ∈ f.entries, s.bay.linesEquipped ≤ e.line) :
    s.orderRefusal f = some .notEquipped := by
  rw [orderRefusal_of_valid set valid]
  exact if_pos (by simpa using beyond)

/-- R139: what the checks after the equipment come to. -/
theorem orderRefusal_of_equipped (equipped : ∀ e ∈ f.entries, e.line < s.bay.linesEquipped) : s.orderRefusal f =
    if f.entries.any (fun e => (s.bt.line e.line).any fun r => r.service == .out) then some .lineOut
    else if f.mixTime ≠ 0 ∧ s.bt.pool.any (fun p => p.recs.all fun r => r.state == .out) then some .wrongState
    else if (s.obu.slotOf f.tag).isSome ∨ s.tlu.tickets.any (fun t => t.tag == f.tag) then some .duplicateTag
    else if s.obu.slots.all Option.isSome then some .noSlot
    else none := by
  rw [orderRefusal_of_valid set valid]
  exact if_neg (by simpa using equipped)

variable (equipped : ∀ e ∈ f.entries, e.line < s.bay.linesEquipped)
include equipped

theorem orderRefusal_lineOut (out : ∃ e ∈ f.entries, ∃ r, s.bt.line e.line = some r ∧ r.service = .out) :
    s.orderRefusal f = some .lineOut := by
  rw [orderRefusal_of_equipped set valid equipped]
  exact if_pos (by simpa [Option.any_eq_true] using out)

/-- R139: what the checks after the lines come to. -/
theorem orderRefusal_of_inService (lines : ∀ e ∈ f.entries, ∀ r, s.bt.line e.line = some r → r.service = .inService) :
    s.orderRefusal f =
      if f.mixTime ≠ 0 ∧ s.bt.pool.any (fun p => p.recs.all fun r => r.state == .out) then some .wrongState
      else if (s.obu.slotOf f.tag).isSome ∨ s.tlu.tickets.any (fun t => t.tag == f.tag) then some .duplicateTag
      else if s.obu.slots.all Option.isSome then some .noSlot
      else none := by
  rw [orderRefusal_of_equipped set valid equipped]
  refine if_neg fun out => ?_
  obtain ⟨e, mem, out⟩ := List.any_eq_true.1 out
  obtain ⟨r, line, out⟩ := (Option.any_eq_true _ _).1 out
  rw [lines e mem r line] at out
  cases out

variable (lines : ∀ e ∈ f.entries, ∀ r, s.bt.line e.line = some r → r.service = .inService)
include lines

theorem orderRefusal_mixersOut (mixed : f.mixTime ≠ 0) (out : ∃ p, s.bt.pool = some p ∧ ∀ r ∈ p.recs, r.state = .out) :
    s.orderRefusal f = some .wrongState := by
  obtain ⟨p, pool, out⟩ := out
  rw [orderRefusal_of_inService set valid equipped lines]
  exact if_pos ⟨mixed, by rw [pool]; simpa using out⟩

/-- R139: what the checks after the mixers come to. -/
theorem orderRefusal_of_mixers (mixers : f.mixTime = 0 ∨ ∀ p, s.bt.pool = some p → ∃ r ∈ p.recs, r.state ≠ .out) :
    s.orderRefusal f =
      if (s.obu.slotOf f.tag).isSome ∨ s.tlu.tickets.any (fun t => t.tag == f.tag) then some .duplicateTag
      else if s.obu.slots.all Option.isSome then some .noSlot
      else none := by
  rw [orderRefusal_of_inService set valid equipped lines]
  refine if_neg fun ⟨mixed, out⟩ => ?_
  obtain ⟨p, pool, out⟩ := (Option.any_eq_true _ _).1 out
  obtain ⟨r, mem, up⟩ := mixers.resolve_left mixed p pool
  exact up (by simpa using List.all_eq_true.1 out r mem)

variable (mixers : f.mixTime = 0 ∨ ∀ p, s.bt.pool = some p → ∃ r ∈ p.recs, r.state ≠ .out) (eight : s.obu.slots.length = 8)
include mixers eight

theorem orderRefusal_duplicateTag
    (taken : (∃ slot o, s.order slot = some o ∧ o.tag = f.tag) ∨ ∃ k ∈ s.tlu.tickets, k.tag = f.tag) :
    s.orderRefusal f = some .duplicateTag := by
  rw [orderRefusal_of_mixers set valid equipped lines mixers]
  refine if_pos (taken.imp (fun ⟨slot, o, order, named⟩ => ?_) fun ticketed => by simpa using ticketed)
  rw [Option.isSome_iff_ne_none]
  exact fun unnamed => slotOf_eq_none_iff.1 unnamed slot (eight ▸ State.slot_lt_of_order order) o order named

variable (unnamed : ∀ slot o, s.order slot = some o → o.tag ≠ f.tag) (unticketed : ∀ k ∈ s.tlu.tickets, k.tag ≠ f.tag)
include unnamed unticketed

omit eight in
/-- R139: what the check for a free slot comes to. -/
theorem orderRefusal_of_new : s.orderRefusal f = if s.obu.slots.all Option.isSome then some .noSlot else none := by
  rw [orderRefusal_of_mixers set valid equipped lines mixers]
  refine if_neg (not_or.2 ⟨?_, by simpa using unticketed⟩)
  rw [Option.not_isSome_iff_eq_none]
  exact slotOf_eq_none_iff.2 fun slot _ o order => unnamed slot o order

theorem orderRefusal_noSlot (full : ∀ slot, slot < 8 → s.order slot ≠ none) : s.orderRefusal f = some .noSlot := by
  rw [orderRefusal_of_new set valid equipped lines mixers unnamed unticketed]
  refine if_pos (List.all_eq_true.2 fun x mem => ?_)
  obtain ⟨i, lt, rfl⟩ := List.getElem_of_mem mem
  rw [Option.isSome_iff_ne_none]
  intro empty
  exact full i (eight ▸ lt) (by simp [State.order, List.getD_eq_getElem?_getD, lt, empty])

theorem orderRefusal_none {slot : Nat} (lt : slot < 8) (free : s.order slot = none) : s.orderRefusal f = none := by
  rw [orderRefusal_of_new set valid equipped lines mixers unnamed unticketed]
  refine if_neg fun full => ?_
  have empty := slots_getElem?_of_free (eight ▸ lt) free
  exact absurd (List.all_eq_true.1 full _ (List.mem_of_getElem? empty)) (by decide)

end

/-- R138, R139: an ORDER that passes is admitted into the lowest free slot. -/
theorem order_admitted {slot : Nat} (idle : s.tlu.sending = none) (passed : s.orderRefusal f = none)
    (lowest : s.obu.freeSlot = slot) :
    exec (.order f) s = .next (State.answered
      (State.settle { s with obu := { s.obu with slots := s.obu.slots.set slot (some (newOrder f s.obu.live)) } })
      4 .accepted (.slot slot)) := by
  subst lowest
  have answer : s.orderAnswer f =
      { state := State.settle
          { s with obu := { s.obu with slots := s.obu.slots.set s.obu.freeSlot (some (newOrder f s.obu.live)) } },
        result := .accepted, data := .slot s.obu.freeSlot } := by
    unfold State.orderAnswer
    rw [passed]
    rfl
  show Host.Outcome.next (s.command 4 (State.orderAnswer f)) = _
  rw [command_answered s 4 _ idle, answer]

/-- A code in its range, read with a default. -/
theorem some_getD {α : Type} {x : Option α} (known : x.isSome = true) (d : α) : some (x.getD d) = x := by
  cases x with
  | none => cases known
  | some _ => rfl

/-- R138: rush is pending exactly for an order that asks for it. -/
theorem newOrder_rushResult (f : OrderFields) (n : Nat) :
    (newOrder f n).rushResult = if (newOrder f n).rush then .pending else .notAsked := by
  unfold newOrder
  rcases yesOfCode f.rush with _ | _ | _ <;> rfl

end

end Sys2Proof.Machine

namespace Sys2Proof

open Machine

/-- Settles O41: the checks of R139 one after another, each once those before it have passed. -/
theorem orderAdmission : Obligations.OrderAdmission := by
  refine ⟨orderFieldsValid_iff, fun s f idle => ⟨fun unset => order_refused idle (orderRefusal_unset unset), fun set =>
    ⟨fun bad => order_refused idle (orderRefusal_badField set bad), fun valid =>
    ⟨fun beyond => order_refused idle (orderRefusal_notEquipped set valid beyond), fun equipped =>
    ⟨fun out => order_refused idle (orderRefusal_lineOut set valid equipped out), fun lines =>
    ⟨fun ⟨mixed, out⟩ => order_refused idle (orderRefusal_mixersOut set valid equipped lines mixed out), fun mixers eight =>
    ⟨fun taken => order_refused idle (orderRefusal_duplicateTag set valid equipped lines mixers eight taken),
      fun unnamed unticketed =>
    ⟨fun full => order_refused idle (orderRefusal_noSlot set valid equipped lines mixers eight unnamed unticketed full),
      fun slot lt free lowest => ?_⟩⟩⟩⟩⟩⟩⟩⟩
  obtain ⟨-, -, -, priority, rush, lid, -⟩ := (orderFieldsValid_iff f).1 valid
  have passed := orderRefusal_none set valid equipped lines mixers eight unnamed unticketed lt free
  exact ⟨newOrder f s.obu.live, rfl, rfl, rfl, some_getD ((priorityOfCode_isSome_iff _).2 priority) _,
    some_getD ((yesOfCode_isSome_iff _).2 rush) _, some_getD ((yesOfCode_isSome_iff _).2 lid) _, rfl, rfl, rfl, rfl, rfl,
    newOrder_rushResult f _, rfl, rfl, rfl, rfl, rfl, rfl, rfl, rfl,
    order_admitted idle passed (freeSlot_eq (eight ▸ lt) free lowest)⟩

end Sys2Proof
end

section
/-! CANCEL and PRIORITY (R144, R151, R152), with what a stop of an order and of its base fill leave (R144, R159). -/

namespace Sys2Proof.Machine

/-! ### The stop of an order (R144) -/

/-- From `s` to `t` the order in a slot may have got results; nothing else of the book, the drives and the terminal link changed. -/
structure ReportsOn (slot : Nat) (s t : State) : Prop where
  pdu : t.pdu = s.pdu
  tlu : t.tlu = s.tlu
  others : ∀ j, j ≠ slot → t.order j = s.order j
  own : (t.order slot).map Order.unreported = (s.order slot).map Order.unreported

section
variable {s t : State} {slot : Nat}

theorem ReportsOn.of_obu (obu : t.obu = s.obu) (pdu : t.pdu = s.pdu) (tlu : t.tlu = s.tlu) : ReportsOn slot s t := by
  have orders (j : Nat) : t.order j = s.order j := by rw [State.order, obu]; rfl
  exact ⟨pdu, tlu, fun j _ => orders j, by rw [orders]⟩

theorem ReportsOn.refl : ReportsOn slot s s := .of_obu rfl rfl rfl

theorem ReportsOn.trans {u : State} (h : ReportsOn slot s t) (g : ReportsOn slot t u) : ReportsOn slot s u :=
  ⟨g.pdu.trans h.pdu, g.tlu.trans h.tlu, fun j ne => (g.others j ne).trans (h.others j ne), g.own.trans h.own⟩

theorem reportsOn_writeReport {k : Nat} (works : (s.dc k).slot = slot) (out : EntryOutcome) :
    ReportsOn slot s (s.writeReport k out) := by
  have results := (resultsOnly_writeReport s k out).orders slot
  exact ⟨rfl, rfl, fun j ne => order_modOrder_ne s _ j _ (works ▸ ne), results⟩

/-- R118: the stop of a channel writes at most a result of the order that it works. -/
theorem reportsOn_stopChannel {k : Nat} (works : (s.dc k).slot = slot) : ReportsOn slot s (s.stopChannel k) := by
  unfold State.stopChannel
  split
  case h_3 =>
    split
    · exact .of_obu rfl rfl rfl
    · have struck : ReportsOn slot s (s.strike (isClaimOf k)) := .of_obu rfl rfl rfl
      exact struck.trans (reportsOn_writeReport (s := s.strike (isClaimOf k)) works _)
  all_goals repeat' split
  all_goals exact .of_obu rfl rfl rfl

theorem reportsOn_stopThose (s : State) (pick : State → Nat → Bool) : ReportsOn slot s (s.stopThose slot pick) := by
  have one (u : State) (k : Nat) : ReportsOn slot u (u.stopOne slot pick k) := by
    unfold State.stopOne
    split
    · next picked => exact reportsOn_stopChannel (worksFor_iff.1 (Bool.and_eq_true_iff.1 picked).1).2
    · exact .refl
  rw [stopThose_eq]
  exact ((one s 0).trans (one _ 1)).trans ((one _ 2).trans (one _ 3))

theorem reportsOn_stopChannels (s : State) : ReportsOn slot s (s.stopChannels slot) :=
  (reportsOn_stopThose s _).trans (reportsOn_stopThose _ _)

/-- R144: an order that becomes stopping keeps all but its results, and so does everything beside it. -/
theorem stopOrder_stops {o : Order} {reason : OrderReason} (order : s.order slot = some o) (runs : o.stopping = none) :
    ∃ v, (s.stopOrder slot reason).order slot = some v ∧ v.unreported = { o with stopping := some reason }.unreported
      ∧ (∀ j, j ≠ slot → (s.stopOrder slot reason).order j = s.order j) ∧ (s.stopOrder slot reason).pdu = s.pdu
      ∧ (s.stopOrder slot reason).tlu = s.tlu := by
  rw [stopOrder_of_running order runs]
  generalize hu : ({ s with obu := { s.obu with slots := s.obu.slots.set slot (some { o with stopping := some reason }) } } : State) = u
  have slots : u.obu.slots = s.obu.slots.set slot (some { o with stopping := some reason }) := by rw [← hu]
  have reports := reportsOn_stopChannels (slot := slot) u
  have own := reports.own
  rw [order_set_self slots order, Option.map_some] at own
  obtain ⟨v, stopped, same⟩ := Option.map_eq_some_iff.1 own
  exact ⟨v, stopped, same, fun j ne => (reports.others j ne).trans (order_set_ne slots ne),
    reports.pdu.trans (by rw [← hu]), reports.tlu.trans (by rw [← hu])⟩

/-! ### The stop of a base fill, and a rejection (R149, R159) -/

theorem finish_pdu (s : State) (slot : Nat) (oc : OrderOutcome) (r : OrderReason) : (s.finish slot oc r).pdu = s.pdu := by
  rw [State.finish, dropToken_eq]
  rfl

theorem reject_fill (s : State) (slot : Nat) (r : OrderReason) : (s.reject slot r).pdu.fill = s.pdu.fill := by
  rw [State.reject, dropToken_eq]
  unfold State.startChute
  split <;> rfl

/-- R159: the amount that a CANCEL in BASE records. -/
def State.fillStopped (s : State) (o : Order) : Order :=
  if s.pdu.fill.phase = .idle then o else { o with baseDelivered := s.pdu.fill.counter }

/-- R159: the fill that a CANCEL in BASE leaves. -/
theorem stopFill_fill (s : State) (slot : Nat) :
    (s.stopFill slot).pdu.fill.phase = .idle ∧ (s.stopFill slot).pdu.fill.counter = s.pdu.fill.counter
      ∧ (s.pdu.fill.phase ≠ .idle → (s.stopFill slot).pdu.fill.valve = false ∧ (s.stopFill slot).pdu.fill.pump = false
          ∧ (s.stopFill slot).pdu.fill.periodTimer = none ∧ (s.stopFill slot).pdu.fill.dutyTimer = none
          ∧ (s.stopFill slot).pdu.fill.limitTimer = none ∧ (s.stopFill slot).pdu.fill.runOnTimer = none) := by
  unfold State.stopFill
  split
  · next idle => exact ⟨idle, rfl, fun running => absurd idle running⟩
  · exact ⟨rfl, rfl, fun _ => ⟨rfl, rfl, rfl, rfl, rfl, rfl⟩⟩

/-- R149, R151, R159: an order cancelled in BASE is rejected with what its fill has delivered. -/
theorem stopFill_reject_ordersReject {o : Order} (order : s.order slot = some o) (reason : OrderReason) :
    s.ordersReject ((s.stopFill slot).reject slot reason) slot (s.fillStopped o) reason := by
  unfold State.stopFill State.fillStopped
  split
  · exact reject_ordersReject s slot o reason order
  · let u := s.modOrder slot fun o => { o with baseDelivered := s.pdu.fill.counter }
    have stopped : u.order slot = some { o with baseDelivered := s.pdu.fill.counter } := by
      rw [order_modOrder_self, order]
      rfl
    have others (j : Nat) (ne : j ≠ slot) : u.order j = s.order j := order_modOrder_ne s slot j _ ne
    obtain ⟨own, rest, places⟩ :=
      reject_ordersReject (u.modPdu fun p => { p with fill := p.fill.rest }) slot _ reason stopped
    exact ⟨own, fun j ne => (rest j ne).trans (others j ne), places⟩

/-! ### CANCEL (R151) -/

section
variable {o : Order} (order : s.order slot = some o)
include order

theorem cancelOrder_queued (st : o.stage = .queued) : s.cancelOrder slot = some (s.finish slot .cancelled .cancelled) := by
  simp only [State.cancelOrder, stageAt_of_order order, st]

theorem cancelOrder_loading (st : o.stage = .loading) :
    s.cancelOrder slot = some ((s.modPdu fun p => { p with lamp := false }).finish slot .cancelled .cancelled) := by
  simp only [State.cancelOrder, stageAt_of_order order, st]

theorem cancelOrder_base (st : o.stage = .base) : s.cancelOrder slot = some ((s.stopFill slot).reject slot .cancelled) := by
  simp only [State.cancelOrder, stageAt_of_order order, st]

theorem cancelOrder_tint (st : o.stage = .tint) : s.cancelOrder slot = some (s.stopOrder slot .cancelled) := by
  simp only [State.cancelOrder, stageAt_of_order order, st]

theorem cancelOrder_late (queued : o.stage ≠ .queued) (loading : o.stage ≠ .loading) (base : o.stage ≠ .base)
    (tint : o.stage ≠ .tint) : s.cancelOrder slot = none := by
  unfold State.cancelOrder
  rw [stageAt_of_order order]
  split
  · next st => exact absurd (Option.some_inj.1 st) queued
  · next st => exact absurd (Option.some_inj.1 st) loading
  · next st => exact absurd (Option.some_inj.1 st) base
  · next st => exact absurd (Option.some_inj.1 st) tint
  · rfl

end

/-- R169: CANCEL at an IDLE transmitter. -/
theorem exec_cancel {tag : Nat} {a : Answer} (idle : s.tlu.sending = none) (answer : s.cancelAnswer tag = a) :
    exec (.cancel tag) s = .next (a.state.answered 5 a.result a.data) := by
  subst answer
  exact congrArg _ (command_answered s 5 (State.cancelAnswer tag) idle)

theorem cancelAnswer_cancels {tag : Nat} (set : s.setup ≠ none) (found : s.obu.slotOf tag = some slot)
    (cancels : s.cancelOrder slot = some t) : s.cancelAnswer tag = { state := t.settle, result := .accepted, data := .nothing } := by
  simp only [State.cancelAnswer, found, cancels]
  exact if_neg (setup_isNone_ne set)

theorem cancelAnswer_late {tag : Nat} (set : s.setup ≠ none) (found : s.obu.slotOf tag = some slot)
    (late : s.cancelOrder slot = none) : s.cancelAnswer tag = .refuse s .late := by
  simp only [State.cancelAnswer, found, late]
  exact if_neg (setup_isNone_ne set)

theorem cancelAnswer_unknown {tag : Nat} (set : s.setup ≠ none) (absent : s.obu.slotOf tag = none) :
    s.cancelAnswer tag = .refuse s .unknownTag := by
  simp only [State.cancelAnswer, absent]
  exact if_neg (setup_isNone_ne set)

/-! ### PRIORITY (R152) -/

theorem exec_priority {tag level : Nat} {a : Answer} (idle : s.tlu.sending = none) (answer : s.priorityAnswer tag level = a) :
    exec (.priority tag level) s = .next (a.state.answered 6 a.result a.data) := by
  subst answer
  exact congrArg _ (command_answered s 6 (State.priorityAnswer tag level) idle)

theorem priorityOfCode_eq_none_iff (level : Nat) : priorityOfCode level = none ↔ 3 < level := by
  rw [← Option.not_isSome_iff_eq_none, priorityOfCode_isSome_iff, Nat.not_le]

theorem priorityOfCode_eq_p2_iff (level : Nat) : priorityOfCode level = some .p2 ↔ level = 2 := by
  rcases level with _ | _ | _ | _ | n <;> simp [priorityOfCode]

theorem priorityOfCode_eq_hold_iff (level : Nat) : priorityOfCode level = some .hold ↔ level = 3 := by
  rcases level with _ | _ | _ | _ | n <;> simp [priorityOfCode]

theorem priorityBad_iff (o : Order) (p : Priority) :
    o.priorityBad p = true ↔ o.rush = true ∧ p ≠ .p2 ∨ p = .hold ∧ o.stage ≠ .queued := by
  simp [Order.priorityBad]

theorem priorityLate_iff (st : Stage) : st.priorityLate = true ↔ st = .mixing ∨ st = .shelf ∨ st = .reject ∨ st = .done := by
  cases st <;> simp [Stage.priorityLate]

theorem priorityAnswer_unknown {tag level : Nat} (set : s.setup ≠ none) (absent : s.obu.slotOf tag = none) :
    s.priorityAnswer tag level = .refuse s .unknownTag := by
  simp only [State.priorityAnswer, absent]
  exact if_neg (setup_isNone_ne set)

section
variable {o : Order} {tag level : Nat} (set : s.setup ≠ none) (found : s.obu.slotOf tag = some slot)
  (order : s.order slot = some o)
include set found order

theorem priorityAnswer_unknown_level (beyond : priorityOfCode level = none) :
    s.priorityAnswer tag level = .refuse s .badField := by
  simp only [State.priorityAnswer, found, order, beyond]
  exact if_neg (setup_isNone_ne set)

theorem priorityAnswer_of_level {p : Priority} (known : priorityOfCode level = some p) :
    s.priorityAnswer tag level = if o.priorityBad p then .refuse s .badField
      else if o.stage.priorityLate then .refuse s .late
      else { state := (s.modOrder slot fun o => { o with priority := p }).settle, result := .accepted, data := .nothing } := by
  simp only [State.priorityAnswer, found, order, known]
  exact if_neg (setup_isNone_ne set)

/-- R152: a priority outside its range, or one that the order may not have. -/
theorem priorityAnswer_bad (bad : 3 < level ∨ o.rush = true ∧ level ≠ 2 ∨ level = 3 ∧ o.stage ≠ .queued) :
    s.priorityAnswer tag level = .refuse s .badField := by
  cases known : priorityOfCode level with
  | none => exact priorityAnswer_unknown_level set found order known
  | some p =>
    have within : ¬ 3 < level := by rw [← priorityOfCode_eq_none_iff, known]; nofun
    have p2 : p = .p2 ↔ level = 2 := by rw [← priorityOfCode_eq_p2_iff, known, Option.some_inj]
    have hold : p = .hold ↔ level = 3 := by rw [← priorityOfCode_eq_hold_iff, known, Option.some_inj]
    rw [priorityAnswer_of_level set found order known]
    refine if_pos ((priorityBad_iff o p).2 ?_)
    rw [ne_eq, p2, hold]
    exact bad.resolve_left within

section
variable {p : Priority} (known : priorityOfCode level = some p) (rush : o.rush = true → p = .p2) (hold : p = .hold → o.stage = .queued)
include known rush hold

theorem priorityAnswer_of_good : s.priorityAnswer tag level = if o.stage.priorityLate then .refuse s .late
    else { state := (s.modOrder slot fun o => { o with priority := p }).settle, result := .accepted, data := .nothing } := by
  rw [priorityAnswer_of_level set found order known]
  refine if_neg fun bad => ?_
  rcases (priorityBad_iff o p).1 bad with ⟨rushed, ne⟩ | ⟨held, ne⟩
  · exact ne (rush rushed)
  · exact ne (hold held)

theorem priorityAnswer_late (late : o.stage = .mixing ∨ o.stage = .shelf ∨ o.stage = .reject ∨ o.stage = .done) :
    s.priorityAnswer tag level = .refuse s .late := by
  rw [priorityAnswer_of_good set found order known rush hold]
  exact if_pos ((priorityLate_iff _).2 late)

theorem priorityAnswer_sets (early : ¬ (o.stage = .mixing ∨ o.stage = .shelf ∨ o.stage = .reject ∨ o.stage = .done)) :
    s.priorityAnswer tag level =
      { state := State.settle { s with obu := { s.obu with slots := s.obu.slots.set slot (some { o with priority := p }) } },
        result := .accepted, data := .nothing } := by
  rw [priorityAnswer_of_good set found order known rush hold, if_neg fun late => early ((priorityLate_iff _).1 late),
    s.modOrder_eq_set slot o _ order]

end

end

end

end Sys2Proof.Machine

namespace Sys2Proof

open Machine

/-- Settles O42: CANCEL by the stage of the order with the tag, PRIORITY by the field, then by the stage. -/
theorem cancelAndPriority : Obligations.CancelAndPriority := by
  refine ⟨fun s tag idle => ⟨fun unset => ?_, fun set unknown => ?_, fun slot o set lt order named only => ?_⟩,
    fun s tag level idle => ⟨fun unset => ?_, fun set unknown => ?_, fun slot o set lt order named only => ?_⟩⟩
  · exact exec_cancel idle (if_pos (by rw [unset]; rfl))
  · have absent : s.obu.slotOf tag = none := slotOf_eq_none_iff.2 fun slot _ o order => unknown slot o order
    exact exec_cancel idle (cancelAnswer_unknown set absent)
  · have found := slotOf_eq_some lt order named only
    have cancels {u : State} (h : s.cancelOrder slot = some u) : exec (.cancel tag) s = .next (u.settle.answered 5 .accepted .nothing) :=
      exec_cancel idle (cancelAnswer_cancels set found h)
    refine ⟨?_, fun st => ?_, fun st runs => ?_, fun st stops => ?_, fun queued loading base tint => ?_⟩
    · rintro (st | st)
      · refine ⟨_, cancels (cancelOrder_queued order st), finish_ordersEnd s slot o _ _ order, ?_⟩
        rw [finish_pdu, st]
        rfl
      · refine ⟨_, cancels (cancelOrder_loading order st), ?_, ?_⟩
        · exact finish_ordersEnd (s.modPdu fun p => { p with lamp := false }) slot o .cancelled .cancelled order
        · rw [finish_pdu, if_pos st]
          rfl
    · refine ⟨_, cancels (cancelOrder_base order st), stopFill_reject_ordersReject order _, ?_⟩
      rw [reject_fill]
      exact stopFill_fill s slot
    · obtain ⟨v, stopped, same, others, pdu, tlu⟩ := stopOrder_stops (reason := .cancelled) order runs
      exact ⟨_, v, cancels (cancelOrder_tint order st), rfl, stopped, (congrArg Order.stage same).trans st,
        (congrArg Order.stopping same :), (congrArg Order.tag same).trans named, (congrArg Order.handed same :), others, pdu, tlu⟩
    · have stays := cancels (cancelOrder_tint order st)
      rwa [stopOrder_of_stopping order stops] at stays
    · exact exec_cancel idle (cancelAnswer_late set found (cancelOrder_late order queued loading base tint))
  · exact exec_priority idle (if_pos (by rw [unset]; rfl))
  · have absent : s.obu.slotOf tag = none := slotOf_eq_none_iff.2 fun slot _ o order => unknown slot o order
    exact exec_priority idle (priorityAnswer_unknown set absent)
  · have found := slotOf_eq_some lt order named only
    refine ⟨fun bad => exec_priority idle (priorityAnswer_bad set found order bad), fun p known rush hold =>
      ⟨fun late => exec_priority idle (priorityAnswer_late set found order known rush hold late),
        fun mixing shelf reject done => exec_priority idle (priorityAnswer_sets set found order known rush hold ?_)⟩⟩
    rintro (st | st | st | st)
    · exact mixing st
    · exact shelf st
    · exact reject st
    · exact done st

end Sys2Proof
end

section
/-! The cradle's inputs (R140, R141, R144, R156, R159): a tin that comes, the tin judged at the end of the seating time, and a tin
taken away. -/

namespace Sys2Proof.Machine

section
variable {s : State} {slot code : Nat} {o : Order}

/-! ### A tin that comes (R140, R156, R157) -/

/-- R156: the state once the seating time is over, the tin's code read. -/
def State.tinRead (s : State) (code : Nat) : State := s.modPdu fun p => { p with seatingTimer := none, arrived := some code }

theorem seatingTimerExpiry_judges (runs : s.pdu.seatingTimer.isSome = true) (present : s.pins.tinPresent = true)
    (loading : s.cradleIn .loading = some slot) :
    s.seatingTimerExpiry code = ((s.tinRead code).judgeTin slot code).settle := by
  have same : (s.modPdu fun p => { p with seatingTimer := none, arrived := some code }).cradleIn .loading = some slot := loading
  unfold State.seatingTimerExpiry
  simp only [same]
  exact if_pos ⟨runs, present⟩

/-- R140: a tin judged changes an order, the lamp and the fill, and no more. -/
theorem judgeTin_frame (s : State) (slot code : Nat) : (s.judgeTin slot code).pdu.seatingTimer = s.pdu.seatingTimer
    ∧ (s.judgeTin slot code).pdu.arrived = s.pdu.arrived ∧ (s.judgeTin slot code).dcs = s.dcs
    ∧ (s.judgeTin slot code).mps = s.mps ∧ (s.judgeTin slot code).blu = s.blu ∧ (s.judgeTin slot code).tlu = s.tlu := by
  unfold State.judgeTin State.seat State.startFill
  simp only
  repeat' split
  all_goals exact ⟨rfl, rfl, rfl, rfl, rfl, rfl⟩

theorem startFill_obu (s : State) (target : Nat) : (s.startFill target).obu = s.obu := by
  unfold State.startFill
  split <;> rfl

theorem startFill_lamp (s : State) (target : Nat) : (s.startFill target).pdu.lamp = s.pdu.lamp := by
  unfold State.startFill
  split <;> rfl

theorem startFill_idle (target : Nat) (idle : s.pdu.fill.phase = .idle) :
    (s.startFill target).pdu.fill = Fill.start (fillCalOf s.cal) target := by
  unfold State.startFill
  rw [if_pos idle]
  rfl

/-- R157: a fill starts at the fast duty when its target exceeds the slow band. -/
theorem fillStart_fast {cal : FillCal} {target : Nat} (large : cal.slowBand < target) : (Fill.start cal target).phase = .fast
    ∧ (Fill.start cal target).dutyInUse = cal.fastDuty ∧ (Fill.start cal target).dutyRegister = cal.fastDuty :=
  ⟨if_pos large, if_pos large, if_pos large⟩

theorem fillStart_slow {cal : FillCal} {target : Nat} (small : target ≤ cal.slowBand) : (Fill.start cal target).phase = .slow
    ∧ (Fill.start cal target).dutyInUse = cal.slowDuty ∧ (Fill.start cal target).dutyRegister = cal.slowDuty :=
  ⟨if_neg (Nat.not_lt.2 small), if_neg (Nat.not_lt.2 small), if_neg (Nat.not_lt.2 small)⟩

/-! ### A tin taken away (R140, R144, R151, R156) -/

/-- R156: the state with the tin gone. -/
def State.tinGone (s : State) : State :=
  { s with
    pins := { s.pins with tinPresent := false }
    pdu := { s.pdu with seatingTimer := none, arrived := none } }

theorem tinPresentFall_unreported (present : s.pins.tinPresent = true) (runs : s.pdu.seatingTimer.isSome = true) :
    s.tinPresentFall = s.tinGone := by
  unfold State.tinPresentFall
  rw [if_neg (by rw [present]; decide)]
  refine if_neg fun ⟨stopped, _⟩ => ?_
  rw [Option.isNone_iff_eq_none] at stopped
  rw [stopped] at runs
  cases runs

theorem tinPresentFall_reported (present : s.pins.tinPresent = true) (stopped : s.pdu.seatingTimer = none)
    (arrived : s.pdu.arrived.isSome = true) : s.tinPresentFall = s.tinGone.tinRemoved.settle := by
  unfold State.tinPresentFall
  rw [if_neg (by rw [present]; decide)]
  exact if_pos ⟨by rw [stopped]; rfl, arrived⟩

section
variable (cradle : s.obu.cradle = some slot) (order : s.order slot = some o)
include cradle order

theorem tinRemoved_loading (st : o.stage = .loading) : s.tinRemoved = s.modOrder slot fun o => { o with wrongTin := false } := by
  simp only [State.tinRemoved, cradle, stageAt_of_order order, st]

theorem tinRemoved_base (st : o.stage = .base) : s.tinRemoved = (s.stopFill slot).reject slot .cancelled := by
  simp only [State.tinRemoved, cradle, stageAt_of_order order, st, cancelOrder_base order st, Option.getD_some]

theorem tinRemoved_tint (st : o.stage = .tint) : s.tinRemoved = s.stopOrder slot .cancelled := by
  simp only [State.tinRemoved, cradle, stageAt_of_order order, st, cancelOrder_tint order st, Option.getD_some]

theorem tinRemoved_later (st : o.stage = .lid ∨ o.stage = .outfeedWait ∨ o.stage = .reject) : s.tinRemoved = s := by
  rcases st with st | st | st
  all_goals simp only [State.tinRemoved, cradle, stageAt_of_order order, st]

end

theorem stopOrder_pdu (s : State) (slot : Nat) (reason : OrderReason) : (s.stopOrder slot reason).pdu = s.pdu := by
  unfold State.stopOrder
  repeat' split
  · rfl
  · rfl
  · exact (reportsOn_stopChannels _).pdu

/-- R149, R156, R159: a rejection, and the stop of a fill before it, touch no record of the tin at the cradle. -/
theorem stopFill_reject_arrived (s : State) (slot : Nat) (reason : OrderReason) :
    ((s.stopFill slot).reject slot reason).pdu.arrived = s.pdu.arrived := by
  rw [State.reject, dropToken_eq]
  unfold State.startChute State.stopFill
  repeat' split
  all_goals rfl

theorem cancelOrder_arrived {t : State} (cancelled : s.cancelOrder slot = some t) : t.pdu.arrived = s.pdu.arrived := by
  unfold State.cancelOrder at cancelled
  split at cancelled <;> cases cancelled
  · rw [finish_pdu]
  · rw [finish_pdu]
    rfl
  · exact stopFill_reject_arrived s slot _
  · rw [stopOrder_pdu]

theorem tinRemoved_arrived (s : State) : s.tinRemoved.pdu.arrived = s.pdu.arrived := by
  have cancelled (slot : Nat) : ((s.cancelOrder slot).getD s).pdu.arrived = s.pdu.arrived := by
    cases h : s.cancelOrder slot with
    | none => rfl
    | some t => exact cancelOrder_arrived h
  unfold State.tinRemoved
  repeat' split
  · rfl
  · rfl
  · exact cancelled _
  · exact cancelled _
  · rfl

end

end Sys2Proof.Machine

namespace Sys2Proof

open Machine

/-- Settles O46: the rise, the end of the seating time by the code read, and the fall by the stage of the cradle order. -/
theorem tinAtTheCradle : Obligations.TinAtTheCradle := by
  refine fun s => ⟨fun absent => ?_, fun code slot o runs present loading order => ?_, fun present runs arrived => ?_,
    fun slot o present stopped arrived cradle order => ?_⟩
  · refine congrArg Host.Outcome.next (?_ : s.tinPresentRise = _)
    exact if_neg (by rw [absent]; decide)
  · have read : (s.tinRead code).order slot = some o := order
    obtain ⟨timer, arrived, dcs, mps, blu, tlu⟩ := judgeTin_frame (s.tinRead code) slot code
    refine ⟨(s.tinRead code).judgeTin slot code, congrArg _ (seatingTimerExpiry_judges runs present loading), timer, arrived, dcs,
      mps, blu, tlu, fun size => ?_, fun size => ?_⟩
    · rw [judgeTin_wrong read size]
      exact ⟨order_set_self rfl read, rfl, rfl⟩
    · by_cases base : o.base = 0
      · rw [judgeTin_seats_finished read size base]
        exact ⟨rfl, fun _ => ⟨order_set_self rfl read, rfl⟩, fun filled => absurd base filled⟩
      · rw [judgeTin_seats_filling read size base, startFill_lamp]
        refine ⟨rfl, fun none => absurd none base, fun _ idle => ?_⟩
        rw [State.order, startFill_obu, startFill_idle o.base (by exact idle)]
        exact ⟨order_set_self rfl read, rfl, rfl, rfl, rfl, rfl, rfl, fillStart_fast (cal := fillCalOf s.cal),
          fillStart_slow (cal := fillCalOf s.cal)⟩
  · refine congrArg Host.Outcome.next ((tinPresentFall_unreported present runs).trans ?_)
    simp only [State.tinGone, arrived]
  · have gone : s.tinGone.order slot = some o := order
    have stands : s.tinGone.obu.cradle = some slot := cradle
    refine ⟨s.tinGone.tinRemoved, congrArg _ (tinPresentFall_reported present stopped arrived), (framed_tinRemoved _).pins,
      tinRemoved_arrived _, fun st => ?_, fun st => ?_, fun st running => ?_, fun st => ?_⟩
    · rw [tinRemoved_loading stands gone st, order_modOrder_self, gone]
      exact ⟨rfl, rfl, rfl⟩
    · rw [tinRemoved_base stands gone st, reject_fill]
      exact ⟨stopFill_reject_ordersReject gone _, stopFill_fill s.tinGone slot⟩
    · rw [tinRemoved_tint stands gone st]
      obtain ⟨v, stops, same, -⟩ := stopOrder_stops (reason := .cancelled) gone running
      exact ⟨rfl, v, stops, (congrArg Order.stage same).trans st, (congrArg Order.stopping same :)⟩
    · rw [tinRemoved_later stands gone st]
      exact ⟨rfl, rfl, rfl, rfl⟩

end Sys2Proof
end

section
/-! What a mixer's grant and the other tells of the bay table do to the order book (R85, R142, R147, R148). -/

namespace Sys2Proof.Machine

/-! ### The MIX CLAIM among the offers (R16, R147) -/

/-- R16 (a): a MIX CLAIM clashes with every other. -/
theorem clashes_mixClaim (time level rush : Nat) : clashes (.mixClaim time level rush) = isMixClaim := by
  funext e
  unfold clashes isMixClaim
  cases e.notice <;> rfl

/-- A MIX RELEASE clashes with nothing, so offering one leaves whether a MIX CLAIM stands as it was. -/
theorem anyMixClaim_offer_mixRelease (b : Blu) (m grant code : Nat) (owner : Owner) :
    ((b.offer (.mixRelease m grant code) owner).1.list ++ (b.offer (.mixRelease m grant code) owner).1.held).any isMixClaim
      = (b.list ++ b.held).any isMixClaim := by
  have fresh : isMixClaim (.fresh (.mixRelease m grant code) owner false) = false := rfl
  have clash_free : (b.list ++ b.held).any (clashes (.mixRelease m grant code)) = false := by
    simp [List.any_eq_false, clashes]
  unfold Blu.offer
  rw [if_neg (by rw [clash_free]; nofun)]
  split
  · simp [fresh]
  · simp [(insertEntry_perm _ _).any_eq, fresh]

section
variable {s : State} {slot m grant time : Nat} {o : Order}

/-- R142: an order that has given its token back has none to give. -/
theorem tokenBack_without (b : Blu) (r : TokenRequest) (slot : Nat) : b.tokenBack (r.without slot) slot = b := by
  cases r with
  | absent | orphaned | requested _ => rfl
  | held token holder =>
    by_cases own : holder = slot
    · simp only [TokenRequest.without, if_pos own, Blu.tokenBack]
    · simp only [TokenRequest.without, if_neg own, Blu.tokenBack]

theorem rushOf_of_without {b : Book} {r : TokenRequest} (request : b.request = r.without slot) : b.rushOf slot = .none := by
  rw [Book.rushOf, request]
  cases r with
  | absent | orphaned | requested _ => rfl
  | held token holder =>
    by_cases own : holder = slot
    · simp only [TokenRequest.without, if_pos own]
    · simp only [TokenRequest.without, if_neg own]

/-! ### A grant (R147, R148) -/

/-- R147 (b): the order once it has taken up a grant. -/
def Order.mixing (o : Order) (m grant time : Nat) : Order :=
  { o with
    stage := .mixing, mixerUsed := some m, mixClaimOffered := false, runRaised := false,
    mixGrant := some { number := grant, mixTime := time } }

/-- R147 (b), R142: the station once the order has taken up a grant and given its token back. -/
def State.mixed (s : State) (slot : Nat) (v : Order) : State :=
  { s with
    blu := s.blu.tokenBack s.obu.request slot
    obu := { s.obu with slots := s.obu.slots.set slot (some v), request := s.obu.request.without slot } }

theorem enterMixing_eq (order : s.order slot = some o) (m grant time : Nat) :
    s.enterMixing slot m grant time = s.mixed slot (o.mixing m grant time) := by
  rw [State.enterMixing, State.modOrder_eq_set _ _ _ _ order, dropToken_eq]
  rfl

theorem order_mixed (order : s.order slot = some o) (v : Order) : (s.mixed slot v).order slot = some v :=
  order_set_self rfl order

/-- An order that has given its token back ends at a MIX RELEASE's offer. -/
theorem finish_mixed (order : s.order slot = some o) (v : Order) (n : Notice) (outcome : OrderOutcome) (reason : OrderReason) :
    (((s.mixed slot v).offer n .book).finish slot outcome reason).order slot
        = some { v with stage := .done, outcome := some outcome, reason := some reason, mixClaimOffered := false }
      ∧ (((s.mixed slot v).offer n .book).finish slot outcome reason).blu
        = ((s.blu.tokenBack s.obu.request slot).offer n .book).1 := by
  obtain ⟨ended, -, -, -, -, -, blu, -⟩ :=
    finish_ordersEnd ((s.mixed slot v).offer n .book) slot v outcome reason (order_mixed order v)
  exact ⟨ended, blu.trans (tokenBack_without _ _ _)⟩

theorem mixerGranted_unawaited (unawaited : s.awaitsMixer = none) (m grant time : Nat) :
    s.mixerGranted m grant time = { s with blu := (s.blu.offer (.mixRelease m grant 0) .bayTable).1 } := by
  simp only [State.mixerGranted, unawaited]
  rfl

section
variable (awaits : s.awaitsMixer = some slot) (order : s.order slot = some o)
include awaits order

theorem mixerGranted_clear (clear : s.occupied m = false) (waits : s.pins.outfeed = true) :
    s.mixerGranted m grant time = (s.mixed slot (o.mixing m grant time)).startTransfer (.toMixer m) := by
  simp [State.mixerGranted, awaits, clear, waits, enterMixing_eq order]

theorem mixerGranted_clear_gone (clear : s.occupied m = false) (gone : s.pins.outfeed = false) :
    s.mixerGranted m grant time = ((s.mixed slot (o.mixing m grant time)).offer (.mixRelease m grant 0) .book).finish slot
      .mixIncomplete .cancelled := by
  simp [State.mixerGranted, awaits, clear, gone, enterMixing_eq order, State.offerMixRelease, mixOutcomeCode]

theorem mixerGranted_blocked_gone (blocked : s.occupied m = true) (gone : s.pins.outfeed = false) :
    s.mixerGranted m grant time = ((s.mixed slot (o.mixing m grant time)).offer (.mixRelease m grant 2) .book).finish slot
      .mixIncomplete .cancelled := by
  simp [State.mixerGranted, awaits, blocked, gone, enterMixing_eq order, State.offerMixRelease, mixOutcomeCode]

/-- R148 (a): the order goes back to MIX WAIT, as one that has its claim still to offer. -/
theorem mixerGranted_blocked (blocked : s.occupied m = true) (waits : s.pins.outfeed = true) :
    s.mixerGranted m grant time = State.claimMixer
      ((s.mixed slot { o.mixing m grant time with stage := .mixWait }).offer (.mixRelease m grant 2) .book) := by
  have back : ((s.mixed slot (o.mixing m grant time)).offer (.mixRelease m grant 2) .book).setStage slot .mixWait
      = (s.mixed slot { o.mixing m grant time with stage := .mixWait }).offer (.mixRelease m grant 2) .book := by
    have taken : ((s.mixed slot (o.mixing m grant time)).offer (.mixRelease m grant 2) .book).order slot = some (o.mixing m grant time) :=
      order_mixed order _
    rw [State.setStage, State.modOrder_eq_set _ _ _ _ taken]
    simp [State.mixed, State.offer]
  rw [← back]
  simp [State.mixerGranted, awaits, blocked, waits, enterMixing_eq order, State.offerMixRelease, mixOutcomeCode]

/-- R147 (b), R148 (b): with the tin at the outfeed and none at the mixer, the order is in MIXING and the pusher pulses. -/
theorem mixerGranted_transfers (clear : s.occupied m = false) (waits : s.pins.outfeed = true)
    (idle : (s.pusher (.toMixer m)).phase = .idle) (lt : m < s.pdu.toMixer.length) :
    (s.mixerGranted m grant time).order slot = some (o.mixing m grant time)
      ∧ ((s.mixerGranted m grant time).pusher (.toMixer m)).phase = .pulse
      ∧ ((s.mixerGranted m grant time).pusher (.toMixer m)).output = true
      ∧ (s.mixerGranted m grant time).blu = s.blu.tokenBack s.obu.request slot
      ∧ (s.mixerGranted m grant time).obu.request = s.obu.request.without slot := by
  have pushes : ((s.mixed slot (o.mixing m grant time)).startTransfer (.toMixer m)).pusher (.toMixer m)
      = (s.pusher (.toMixer m)).start s.cal.transferPulse s.cal.transferLimit := by
    rw [State.startTransfer, if_pos (by exact idle)]
    exact getD_modify_self _ _ _ _ lt
  rw [mixerGranted_clear awaits order clear waits, pushes, State.order, startTransfer_obu, State.startTransfer_blu]
  exact ⟨order_mixed order _, rfl, rfl, rfl, rfl⟩

/-- R148 (a): blocked, the order offers its MIX CLAIM anew, or waits for a later event. -/
theorem mixerGranted_reclaims (blocked : s.occupied m = true) (waits : s.pins.outfeed = true) {b : Blu}
    (hb : b = s.blu.tokenBack s.obu.request slot) :
    ((s.isAttached = false ∨ ∃ e ∈ b.list ++ b.held, isMixClaim e = true) →
        (s.mixerGranted m grant time).order slot = some { o.mixing m grant time with stage := .mixWait }
          ∧ (s.mixerGranted m grant time).blu = (b.offer (.mixRelease m grant 2) .book).1)
      ∧ (s.isAttached = true → (∀ e ∈ b.list ++ b.held, isMixClaim e = false) →
        (s.mixerGranted m grant time).order slot
            = some { o.mixing m grant time with stage := .mixWait, mixClaimOffered := true }
          ∧ (s.mixerGranted m grant time).blu =
            (Blu.offer (b.offer (.mixRelease m grant 2) .book).1 (.mixClaim o.mixTime o.priority.level 0) .book).1) := by
  subst hb
  rw [mixerGranted_blocked awaits order blocked waits]
  generalize hu : (s.mixed slot { o.mixing m grant time with stage := .mixWait }).offer (.mixRelease m grant 2) .book = u
  have back : u.order slot = some { o.mixing m grant time with stage := .mixWait } := hu ▸ order_mixed order _
  have outfeed : u.outfeedIn .mixWait = some slot := outfeedIn_eq_some_iff.2
    ⟨hu ▸ ((awaitsMixer_eq_some_iff order).1 awaits).1, stageAt_of_order back⟩
  have blu : u.blu = ((s.blu.tokenBack s.obu.request slot).offer (.mixRelease m grant 2) .book).1 := hu ▸ rfl
  have attached : u.isAttached = s.isAttached := hu ▸ rfl
  have request : u.obu.request = s.obu.request.without slot := hu ▸ rfl
  have claim : u.mixClaimNotice slot = .mixClaim o.mixTime o.priority.level 0 := by
    rw [mixClaimNotice_eq back, rushOf_of_without request]
    rfl
  have clash : (u.blu.list ++ u.blu.held).any (clashes (u.mixClaimNotice slot))
      = ((s.blu.tokenBack s.obu.request slot).list ++ (s.blu.tokenBack s.obu.request slot).held).any isMixClaim := by
    rw [claim, clashes_mixClaim, blu, anyMixClaim_offer_mixRelease]
  constructor
  · intro undue
    have waits : u.claimMixer = u := claimMixer_waits outfeed back <| undue.imp (attached.trans ·)
      fun stands => .inr (clash.trans (List.any_eq_true.2 stands))
    rw [waits]
    exact ⟨back, blu⟩
  · intro member free
    rw [claimMixer_offers outfeed back (attached.trans member) rfl
      (clash.trans (List.any_eq_false.2 fun e mem => by simp [free e mem])), claim, ← blu]
    exact ⟨order_set_self rfl back, rfl⟩

end

/-! ### The tells at a rush request (R142) -/

theorem bookTell_tokenRefused (s : State) (refused : TokenRefusal) : s.bookTell (.tokenRefused refused) = s.rushTell .none := rfl

theorem bookTell_tokenTaken (s : State) (token : Rush) : s.bookTell (.tokenTaken token) = s.rushTell token := rfl

theorem rushTell_wanted (asked : s.obu.request = .requested slot) (order : s.order slot = some o) (base : o.stage = .base)
    (token : Rush) : s.rushTell token = s.rushSettled slot token := by
  have inBase : s.stageAt slot = some .base := base ▸ stageAt_of_order order
  simp only [State.rushTell, asked, if_pos inBase]

theorem rushTell_unwanted (gone : s.obu.request = .orphaned ∨ ∃ slot, s.obu.request = .requested slot ∧ s.stageAt slot ≠ some .base)
    (token : Rush) : s.rushTell token = s.rushUnwanted token := by
  rcases gone with orphaned | ⟨slot, asked, left⟩
  · simp only [State.rushTell, orphaned]
  · simp only [State.rushTell, asked, if_neg left]

theorem rushSettled_refused (order : s.order slot = some o) : s.rushSettled slot .none = { s with
    obu := { s.obu with request := .absent, slots := s.obu.slots.set slot (some { o with rushResult := .refused }) } } :=
  State.modOrder_eq_set (s.modBook fun b => { b with request := .absent }) slot o _ order

theorem rushSettled_taken (order : s.order slot = some o) {token : Rush} (taken : token ≠ .none) :
    s.rushSettled slot token = { s with
      obu := { s.obu with
        request := .held token slot
        slots := s.obu.slots.set slot (some { o with rushResult := if token = .a then .a else .b }) } } := by
  cases token with
  | none => exact absurd rfl taken
  | a => exact State.modOrder_eq_set (s.modBook fun b => { b with request := .held .a slot }) slot o _ order
  | b => exact State.modOrder_eq_set (s.modBook fun b => { b with request := .held .b slot }) slot o _ order

theorem rushUnwanted_taken (s : State) {token : Rush} (taken : token ≠ .none) : s.rushUnwanted token = { s with
    blu := (s.blu.offer (.rushDrop (if token = .a then 0 else 1)) .book).1
    obu := { s.obu with request := .absent } } := by
  cases token with
  | none => exact absurd rfl taken
  | a => rfl
  | b => rfl

/-! ### The tells at a MIX CLAIM (R147) -/

theorem bookTell_mixClaimWaits (s : State) (rush : Rush) :
    s.bookTell (.mixClaimWaits rush) = if s.awaitsMixer = none then s.offer .mixWithdraw .book else s := rfl

theorem bookTell_discarded_unawaited (unawaited : s.awaitsMixer = none) (reason : MixDiscard) :
    s.bookTell (.mixClaimDiscarded reason) = s := by
  simp only [State.bookTell, unawaited]

theorem bookTell_discarded (awaits : s.awaitsMixer = some slot) (reason : MixDiscard) :
    s.bookTell (.mixClaimDiscarded reason) = s.finish slot .mixIncomplete .mixerFault := by
  simp only [State.bookTell, awaits]

end

/-! ### Pool grant choice with one claim and one mixer (R77, R82) -/

/-- R77: the one mixer that is FREE goes to the one claim that waits, and nothing is left to grant. -/
theorem poolGrantChoice_one {p : Pool} {c : MixClaim} {m : Nat} {r : MixRec} (waiting : p.waiting = [c]) (mixer : p.recs[m]? = some r)
    (free : r.state = .free) (only : ∀ j x, p.recs[j]? = some x → x.state = .free → j = m) :
    p.grantChoice.2 = [.mixerGranted m c.station ((r.grant + 1) % 256) c.mixTime] := by
  have unsettled : ¬ p.settled := by
    rintro (empty | busy)
    · rw [waiting] at empty
      cases empty
    · exact busy r (List.mem_of_getElem? mixer) free
  obtain ⟨i, c', m', r', grants⟩ := (settled_or_grants p).resolve_left unsettled
  obtain rfl : m' = m := only m' r' grants.mixer grants.free
  obtain rfl : r = r' := Option.some_inj.1 (mixer.symm.trans grants.mixer)
  have claim := grants.claim
  rw [waiting, List.getElem?_singleton] at claim
  obtain ⟨first, same⟩ := Option.ite_none_right_eq_some.1 claim
  obtain rfl : i = 0 := first
  obtain rfl : c = c' := Option.some_inj.1 same
  have rest : (p.grantAt m' r 0 c).settled := .inl (by simp [Pool.grantAt, waiting])
  rw [poolGrantChoice_grants grants, Pool.grantChoice, grantUpTo_settled rest]

/-! ### The take that grants a mixer to this station (R82, R85) -/

section
variable {s : State}

/-- What neither the image cursor nor the bookkeeping of a take touches: the order book and the drives. -/
def State.bookAndPlant (s : State) : Book × Pdu := (s.obu, s.pdu)

theorem bookAndPlant_cursorBegin (s : State) : s.cursorBegin.bookAndPlant = s.bookAndPlant := by
  unfold State.cursorBegin State.cursorOffer
  repeat' split
  all_goals rfl

theorem bookAndPlant_cursorDrop (s : State) (station : Nat) : (s.cursorDrop station).bookAndPlant = s.bookAndPlant := by
  simp only [State.cursorDrop]
  split
  · exact bookAndPlant_cursorBegin _
  · rfl

theorem bookAndPlant_cursorPrune (s : State) : s.cursorPrune.bookAndPlant = s.bookAndPlant := by
  rw [cursorPrune_eq, dropAbsent]
  generalize s.blu.cursor.joiners = l
  generalize s.bt = t
  induction l generalizing s with
  | nil => rfl
  | cons j l ih =>
    refine (ih _).trans ?_
    simp only
    split
    · exact bookAndPlant_cursorDrop s _
    · rfl

theorem bookAndPlant_bookTake_quiet (quiet : s.transmitting = false) (sender : Nat) (n : Notice) :
    (s.bookTake sender n).bookAndPlant = s.bookAndPlant := by
  have none : s.blu.current = none := by rw [← Option.not_isSome_iff_eq_none, current_isSome, quiet]; exact Bool.false_ne_true
  have other : s.isOwnTake sender n = false := by simp [State.isOwnTake, none]
  rw [bookTake_other other, backToWaiting_quiet false quiet]
  rfl

theorem awaitsMixer_of_obu {t : State} (obu : t.obu = s.obu) : t.awaitsMixer = s.awaitsMixer := by
  simp only [State.awaitsMixer, State.outfeedIn, State.stageAt, State.order, obu]

/-- R85: a take that grants a mixer to this station and brings nothing else about tells the order book, at a station `v` that has the
book, the drives, the inputs and the setup as they were, and the mixer's timer started. -/
theorem takenBy_mixerGranted {sender m grant time : Nat} {n : Notice} (t : Table) (quiet : s.transmitting = false) : ∃ v : State,
    s.takenBy sender n t [.mixerGranted m s.me grant time] = ((v.mixerGranted m grant time).modBt Table.counted).settle
      ∧ v.obu = s.obu ∧ v.pdu = s.pdu ∧ v.pins = s.pins
      ∧ v.htb = (s.startTimer (.mixer m) s.me grant (s.mixerLimit time)).htb := by
  generalize hw : (s.bookTake sender n).pruned t [.mixerGranted m s.me grant time] = w
  have table : KeepsTable _ w := hw ▸ keepsTable_pruned (s.bookTake sender n) t [.mixerGranted m s.me grant time]
  have booked := keepsTable_bookTake s sender n
  have setup : w.setup = s.setup := table.setup.trans booked.setup
  have pins : w.pins = s.pins := table.pins.trans booked.pins
  have parts : w.bookAndPlant = s.bookAndPlant :=
    hw ▸ (bookAndPlant_cursorPrune _).trans (bookAndPlant_bookTake_quiet quiet sender n)
  have htb : w.htb = s.htb := hw ▸ (dropAbsent_htb _ _ _).trans (bookTake_htb s sender n)
  have granted : (s.bookTake sender n).takeEffects t [.mixerGranted m s.me grant time] id =
      w.applyEffect (.mixerGranted m s.me grant time) := hw ▸ rfl
  refine ⟨w.startTimer (.mixer m) s.me grant (w.mixerLimit time), ?_, (Prod.mk.inj parts).1, (Prod.mk.inj parts).2, pins, ?_⟩
  · rw [State.takenBy, State.takenWith, granted, applyEffect_mixerGranted_own (State.me_of_setup setup).symm]
  · rw [startTimer_eq, startTimer_eq, mixerLimit_of_setup setup, holdingTimer_of_setup setup]
    simp only [State.modTimer, htb]

end

end Sys2Proof.Machine

namespace Sys2Proof

open Machine

/-- Settles O52: a grant by what the sensors show, the tells by the request and by the order that awaits a mixer, and the mixer that
returns by the one grant that it brings about. -/
theorem mixerGrantActsByTheSensors : Obligations.MixerGrantActsByTheSensors := by
  refine ⟨fun s m grant time => ⟨fun unawaited => mixerGranted_unawaited unawaited m grant time, ?_⟩, fun s token => ⟨?_, ?_⟩,
    fun s rush reason refusal refused st => ⟨fun unawaited => ⟨?_, ?_⟩, fun slot o awaits order => ⟨?_, ?_⟩,
      rfl, rfl, rfl, rfl, rfl, rfl, rfl, rfl⟩, ?_⟩
  · rintro slot o v b awaits order hb rfl
    refine ⟨fun clear waits idle lt => ?_, fun clear gone => ?_, fun blocked gone => ?_, fun blocked waits =>
      mixerGranted_reclaims awaits order blocked waits hb⟩
    · subst hb
      exact mixerGranted_transfers awaits order clear waits idle lt
    · subst hb
      rw [mixerGranted_clear_gone awaits order clear gone]
      obtain ⟨ended, blu⟩ := finish_mixed order (o.mixing m grant time) (.mixRelease m grant 0) .mixIncomplete .cancelled
      exact ⟨⟨_, ended, rfl, rfl, rfl, rfl⟩, blu⟩
    · subst hb
      rw [mixerGranted_blocked_gone awaits order blocked gone]
      obtain ⟨ended, blu⟩ := finish_mixed order (o.mixing m grant time) (.mixRelease m grant 2) .mixIncomplete .cancelled
      exact ⟨⟨_, ended, rfl, rfl, rfl⟩, blu⟩
  · intro slot o asked order base
    rw [bookTell_tokenRefused, bookTell_tokenTaken, rushTell_wanted asked order base, rushTell_wanted asked order base]
    exact ⟨fun _ => rushSettled_refused order, rushSettled_taken order⟩
  · intro gone
    rw [bookTell_tokenRefused, bookTell_tokenTaken, rushTell_unwanted gone, rushTell_unwanted gone]
    exact ⟨rfl, rushUnwanted_taken s⟩
  · rw [bookTell_mixClaimWaits, if_pos unawaited]
    rfl
  · exact bookTell_discarded_unawaited unawaited reason
  · rw [bookTell_mixClaimWaits, if_neg (by rw [awaits]; nofun)]
  · rw [bookTell_discarded awaits]
    exact finish_ordersEnd s slot o _ _ order
  · intro s sender m slot p r c o member quiet present pool hr out others waiting own timers lt awaits order clear waits idle
    have at_m : (p.recs.set m { r with state := .free })[m]? = some { r with state := .free } :=
      List.getElem?_set_self (List.getElem?_eq_some_iff.1 hr).1
    have only (j : Nat) (x : MixRec) (hx : (p.recs.set m { r with state := .free })[j]? = some x) (free : x.state = .free) : j = m := by
      by_contra ne
      rw [List.getElem?_set_ne (Ne.symm ne)] at hx
      exact others j x hx free
    have grant := poolGrantChoice_one (p := { p with recs := p.recs.set m { r with state := .free } }) waiting at_m rfl only
    have rule := mixerReturn_frees (sender := sender) present pool hr out rfl
    rw [grant, own] at rule
    obtain ⟨v, taken, obu, pdu, pins, htb⟩ := takenBy_mixerGranted (sender := sender) (m := m) (grant := (r.grant + 1) % 256)
      (time := c.mixTime) (n := .mixerReturn m) _ quiet
    have same : v.order slot = some o := by rw [State.order, obu]; exact order
    obtain ⟨mixing, pulse, -⟩ := mixerGranted_transfers (s := v) (m := m) (grant := (r.grant + 1) % 256) (time := c.mixTime)
      ((awaitsMixer_of_obu obu).trans awaits) same (by rw [State.occupied, pins]; exact clear) (by rw [pins]; exact waits)
      (by rw [State.pusher, pdu]; exact idle) (by rw [pdu]; exact lt)
    refine ⟨_, _, (exec_poolTake (c := .mixerReturnTaken sender m) rfl rfl member present rule).trans (congrArg _ taken), rfl, ?_, pulse,
      _, mixing, rfl, rfl, rfl⟩
    calc State.timer _ (16 + m)
      _ = ((v.mixerGranted m ((r.grant + 1) % 256) c.mixTime).modBt Table.counted).timer (16 + m) :=
        State.timer_of_htb (sameBay_settle _).htb _
      _ = v.timer (16 + m) := State.timer_of_htb (sameBay_mixerGranted v _ _ _).htb _
      _ = (s.startTimer (.mixer m) s.me ((r.grant + 1) % 256) (s.mixerLimit c.mixTime)).timer (16 + m) := State.timer_of_htb htb _
      _ = s.holdingTimer s.me ((r.grant + 1) % 256) (s.mixerLimit c.mixTime) := timer_startTimer_self (key := .mixer m) _ _ _ timers
      _ = _ := by simp [State.holdingTimer, State.mixerLimit]

end Sys2Proof
end

section
/-! SUPPORT. A rejection, said once for the reports that bring one about, and what it leaves of the plant's records (R149, R162). -/

namespace Sys2Proof.Machine

section
variable {s : State} {slot : Nat} {o : Order}

/-- R149, R162: of the plant's records a rejection touches the chute's alone. -/
theorem reject_pdu (s : State) (slot : Nat) (r : OrderReason) :
    ∃ chute, (s.reject slot r).pdu = { s.pdu with chute := chute } := by
  rw [State.reject, dropToken_eq]
  unfold State.startChute
  split
  · exact ⟨_, rfl⟩
  · exact ⟨s.pdu.chute, rfl⟩

/-- R149: an order rejected with what the event recorded in it. -/
theorem modOrder_reject_ordersReject (order : s.order slot = some o) (f : Order → Order) (reason : OrderReason) :
    s.ordersReject ((s.modOrder slot f).reject slot reason) slot (f o) reason := by
  have recorded : (s.modOrder slot f).order slot = some (f o) := by rw [order_modOrder_self, order, Option.map_some]
  obtain ⟨own, others, places⟩ := reject_ordersReject (s.modOrder slot f) slot (f o) reason recorded
  exact ⟨own, fun j ne => (others j ne).trans (order_modOrder_ne s slot j f ne), places⟩

end

end Sys2Proof.Machine
end

section
/-! The base fill (R141, R157 to R159): its pulses, its period and duty, and the reports that end it. -/

namespace Sys2Proof.Machine

section
variable {f : Fill}

/-! ### A pulse by the phase (R158) -/

theorem Fill.running_iff : f.running = true ↔ f.phase = .fast ∨ f.phase = .slow := by
  simp [Fill.running]

theorem Fill.compareSlow_below (below : f.counter < f.target) : f.compareSlow = f := if_neg (Nat.not_le.2 below)

theorem Fill.compareSlow_reached (reached : f.target ≤ f.counter) : f.compareSlow = f.reach := if_pos reached

theorem Fill.pulse_idle (idle : f.phase = .idle) : f.pulse = f := by
  simp only [Fill.pulse, idle]

theorem Fill.pulse_runOn (runOn : f.phase = .runOn) : f.pulse = f.countPulse := by
  simp only [Fill.pulse, runOn]

theorem Fill.pulse_slow (slow : f.phase = .slow) : f.pulse = f.countPulse.compareSlow := by
  simp only [Fill.pulse, slow]

theorem Fill.pulse_fast_below (fast : f.phase = .fast) (below : f.countPulse.counter < f.target - f.cal.slowBand) :
    f.pulse = f.countPulse := by
  simp only [Fill.pulse, fast, if_neg (Nat.not_le.2 below)]

theorem Fill.pulse_fast_band (fast : f.phase = .fast) (inBand : f.target - f.cal.slowBand ≤ f.countPulse.counter) :
    f.pulse = f.countPulse.slow.compareSlow := by
  simp only [Fill.pulse, fast, if_pos inBand]

/-! ### The duty (R157) -/

/-- R157: the duty timer's value is the duty to the nearest tick of 100 hundredths. -/
theorem dutyTicks_nearest (period duty : Nat) : 1 ≤ dutyTicks period duty
    ∧ 10 * period * duty < 100 * dutyTicks period duty + 50
    ∧ (1 < dutyTicks period duty → 100 * dutyTicks period duty ≤ 10 * period * duty + 50) := by
  unfold dutyTicks
  rw [Nat.mul_comm period 10]
  omega

theorem Fill.unbroken_whole {duty period : Nat} (loaded : f.dutyTimer = some duty) (runs : f.periodTimer = some period)
    (whole : 10 * period ≤ duty) : f.unbroken = true := by
  simp only [Fill.unbroken, loaded, runs, whole, decide_true]

theorem Fill.unbroken_short {duty : Nat} (loaded : f.dutyTimer = some duty)
    (short : ∀ period, f.periodTimer = some period → duty < 10 * period) : f.unbroken = false := by
  unfold Fill.unbroken
  split
  · next d p hd hp =>
    rw [loaded, Option.some_inj] at hd
    exact decide_eq_false (Nat.not_le.2 (hd ▸ short p hp))
  · rfl

theorem Fill.dutyEnd_whole (unbroken : f.unbroken = true) : f.dutyEnd = { f with dutyTimer := none } := by
  rw [Fill.dutyEnd, unbroken, Bool.and_true]

theorem Fill.dutyEnd_short (broken : f.unbroken = false) : f.dutyEnd = { f with pump := false, dutyTimer := none } := by
  rw [Fill.dutyEnd, broken, Bool.and_false]

end

section
variable {s : State} {slot : Nat} {o : Order}

theorem exec_basePeriodExpiry (running : s.pdu.fill.running = true) (runs : s.pdu.fill.periodTimer.isSome = true) :
    exec .basePeriodExpiry s = .next (s.modFill Fill.periodStart) :=
  congrArg Host.Outcome.next (if_pos ⟨running, runs⟩)

theorem exec_dutyTimerExpiry {duty : Nat} (running : s.pdu.fill.running = true) (loaded : s.pdu.fill.dutyTimer = some duty) :
    exec .dutyTimerExpiry s = .next (s.modFill Fill.dutyEnd) :=
  congrArg Host.Outcome.next (if_pos ⟨running, by rw [loaded]; rfl⟩)

/-! ### The end of a fill (R141, R158, R159) -/

theorem fillLimitExpiry_faults (running : s.pdu.fill.running = true) (runs : s.pdu.fill.limitTimer.isSome = true) :
    s.fillLimitExpiry = ((s.modFill Fill.rest).baseFaulted s.pdu.fill.counter .limit).settle := if_pos ⟨running, runs⟩

theorem runOnExpiry_overrun (phase : s.pdu.fill.phase = .runOn) (runs : s.pdu.fill.runOnTimer.isSome = true)
    (overrun : s.pdu.fill.target + s.pdu.fill.cal.tolerance < s.pdu.fill.counter) :
    s.runOnExpiry = ((s.modFill Fill.rest).baseFaulted s.pdu.fill.counter .overrun).settle := by
  rw [State.runOnExpiry, if_pos ⟨phase, runs⟩, if_pos (by simpa [Fill.overrun] using overrun)]

theorem runOnExpiry_finished (phase : s.pdu.fill.phase = .runOn) (runs : s.pdu.fill.runOnTimer.isSome = true)
    (within : s.pdu.fill.counter ≤ s.pdu.fill.target + s.pdu.fill.cal.tolerance) :
    s.runOnExpiry = ((s.modFill Fill.rest).baseDone s.pdu.fill.counter).settle := by
  rw [State.runOnExpiry, if_pos ⟨phase, runs⟩, if_neg (by simpa [Fill.overrun] using within)]

section
variable (cradle : s.cradleIn .base = some slot) (order : s.order slot = some o)
include cradle order

/-- R141, R159: a base fault rejects the order in BASE and leaves the fill at rest. -/
theorem baseFaulted_rejects (delivered : Nat) (fault : BaseFault) :
    ((s.modFill Fill.rest).baseFaulted delivered fault).pdu.fill = s.pdu.fill.rest
      ∧ s.ordersReject ((s.modFill Fill.rest).baseFaulted delivered fault) slot
          { o with baseDelivered := delivered, baseFault := some fault } .baseFault := by
  have same : (s.modFill Fill.rest).cradleIn .base = some slot := cradle
  have stands : (s.modFill Fill.rest).order slot = some o := order
  simp only [State.baseFaulted, same]
  exact ⟨reject_fill _ slot _, modOrder_reject_ordersReject stands _ .baseFault⟩

theorem baseDone_finishes (delivered : Nat) :
    (s.modFill Fill.rest).baseDone delivered = { s with
      pdu := { s.pdu with fill := s.pdu.fill.rest }
      obu := { s.obu with
        slots := s.obu.slots.set slot (some { o with baseDelivered := delivered, baseFinished := true }) } } := by
  have same : (s.modFill Fill.rest).cradleIn .base = some slot := cradle
  simp only [State.baseDone, same]
  exact State.modOrder_eq_set (s.modFill Fill.rest) slot o _ order

end

end

end Sys2Proof.Machine

namespace Sys2Proof

open Machine

/-- Settles O47: the pulse by the fill's phase and what it has counted, the duty timer by the period it is part of, and the two ends
of a fill by its judgement. -/
theorem baseFillRunsAndEnds : Obligations.BaseFillRunsAndEnds := by
  refine ⟨?_, ?_⟩
  · rintro s c rfl
    refine ⟨⟨s.pdu.fill.pulse, rfl, Fill.pulse_idle, Fill.pulse_runOn, Fill.pulse_fast_below, fun fast inBand below => ?_,
      fun fast reached => ?_, fun slow below => ?_, fun slow reached => ?_⟩,
      fun running => ⟨fun runs => ?_, fun duty loaded => ⟨fun short => ?_, fun period runs whole => ?_⟩⟩⟩
    · exact (Fill.pulse_fast_band fast inBand).trans (Fill.compareSlow_below below)
    · exact (Fill.pulse_fast_band fast ((Nat.sub_le _ _).trans reached)).trans (Fill.compareSlow_reached reached)
    · exact (Fill.pulse_slow slow).trans (Fill.compareSlow_below below)
    · exact (Fill.pulse_slow slow).trans (Fill.compareSlow_reached reached)
    · obtain ⟨least, up, down⟩ := dutyTicks_nearest s.pdu.fill.cal.period s.pdu.fill.dutyRegister
      exact ⟨_, least, up, down, exec_basePeriodExpiry (Fill.running_iff.2 running) runs⟩
    · rw [exec_dutyTimerExpiry (Fill.running_iff.2 running) loaded, ← Fill.dutyEnd_short (Fill.unbroken_short loaded short)]
      rfl
    · rw [exec_dutyTimerExpiry (Fill.running_iff.2 running) loaded, ← Fill.dutyEnd_whole (Fill.unbroken_whole loaded runs whole)]
      rfl
  · rintro s slot o rest cradle order rfl
    refine ⟨fun running runs => ?_, fun phase runs => ⟨fun overrun => ?_, fun within => ?_⟩⟩
    · exact ⟨_, congrArg _ (fillLimitExpiry_faults (Fill.running_iff.2 running) runs), baseFaulted_rejects cradle order _ .limit⟩
    · exact ⟨_, congrArg _ (runOnExpiry_overrun phase runs overrun), baseFaulted_rejects cradle order _ .overrun⟩
    · refine congrArg Host.Outcome.next ((runOnExpiry_finished phase runs within).trans ?_)
      exact congrArg State.settle (baseDone_finishes cradle order _)

end Sys2Proof
end

section
/-! The lid press (R145, R160, R165): the head lowered, lid-home seen, and the ends of the press width. -/

namespace Sys2Proof.Machine

section
variable {s : State} (phase : s.pdu.press.phase = .press) (runs : s.pdu.press.pressTimer.isSome = true)
include phase runs

theorem pressTimerExpiry_home (home : s.pdu.press.homeSeen = true) :
    s.pressTimerExpiry = (s.modPress Press.lift).lidHome.settle := by
  rw [State.pressTimerExpiry, if_pos ⟨phase, runs⟩, if_pos home]

theorem pressTimerExpiry_again (unseen : s.pdu.press.homeSeen = false) (first : s.pdu.press.tries = 1) :
    s.pressTimerExpiry = s.modPress fun p => p.lift.startTry 2 s.cal.seatDelay s.cal.pressWidth := by
  rw [State.pressTimerExpiry, if_pos ⟨phase, runs⟩, if_neg (by rw [unseen]; nofun), if_pos first]

theorem pressTimerExpiry_fault (unseen : s.pdu.press.homeSeen = false) (second : s.pdu.press.tries = 2) :
    s.pressTimerExpiry = (s.modPress Press.lift).lidFaulted.settle := by
  rw [State.pressTimerExpiry, if_pos ⟨phase, runs⟩, if_neg (by rw [unseen]; nofun), if_neg (by rw [second]; decide)]

end

section
variable {s : State} {slot : Nat} {o : Order} (cradle : s.cradleIn .lid = some slot) (order : s.order slot = some o)
include cradle order

/-- R145: lid home moves the order on. -/
theorem lidHome_moves : s.lidHome = { s with
    obu := { s.obu with slots := s.obu.slots.set slot (some { o with stage := .outfeedWait }) } } := by
  simp only [State.lidHome, cradle]
  exact State.modOrder_eq_set s slot o _ order

/-- R145: a lid fault rejects the order and leaves the press as it is. -/
theorem lidFaulted_rejects : s.ordersReject s.lidFaulted slot o .lidFault ∧ s.lidFaulted.pdu.press = s.pdu.press := by
  have rejects : s.lidFaulted = s.reject slot .lidFault := by simp only [State.lidFaulted, cradle]
  obtain ⟨chute, pdu⟩ := reject_pdu s slot .lidFault
  rw [rejects, pdu]
  exact ⟨reject_ordersReject s slot o .lidFault order, rfl⟩

end

end Sys2Proof.Machine

namespace Sys2Proof

open Machine

/-- Settles O48: the end of the press width by whether lid-home was seen and by the try that it ends. -/
theorem lidPressTriesTwice : Obligations.LidPressTriesTwice := by
  refine fun s => ⟨fun home phase runs => ?_, fun phase => ?_, fun phase => ?_, fun phase runs =>
    ⟨fun slot o home cradle order => ?_, fun unseen first => ?_, fun slot o unseen second cradle order => ?_⟩⟩
  · exact congrArg Host.Outcome.next (if_pos ⟨phase, runs⟩)
  · exact congrArg Host.Outcome.next (if_pos phase)
  · exact congrArg Host.Outcome.next (if_neg phase)
  · refine congrArg Host.Outcome.next ((pressTimerExpiry_home phase runs home).trans ?_)
    exact congrArg State.settle (lidHome_moves (s := s.modPress Press.lift) cradle order)
  · exact congrArg Host.Outcome.next (pressTimerExpiry_again phase runs unseen first)
  · obtain ⟨rejected, press⟩ := lidFaulted_rejects (s := s.modPress Press.lift) cradle order
    exact ⟨_, congrArg _ (pressTimerExpiry_fault phase runs unseen second), rejected, press⟩

end Sys2Proof
end

section
/-! SUPPORT. The records of the pushers and of the runs (R161, R164), and what a transfer confirmed, or not, and the end of an order
leave of them. -/

namespace Sys2Proof.Machine

section
variable {s : State} {slot m : Nat} {o : Order} {p : Pusher}

/-! ### One record set -/

/-- R161: a pusher that is not IDLE is one of the station's. -/
theorem toMixer_lt_of_busy (busy : (s.pusher (.toMixer m)).phase ≠ .idle) : m < s.pdu.toMixer.length := by
  by_contra out
  exact busy (by simp [State.pusher, List.getD_eq_getElem?_getD, Nat.le_of_not_lt out, OpRec.reset])

theorem pusher_modPusher_self (busy : (s.pusher p).phase ≠ .idle) (f : OpRec → OpRec) :
    (s.modPusher p f).pusher p = f (s.pusher p) := by
  cases p with
  | toOutfeed => rfl
  | toShelf => rfl
  | toMixer m => exact getD_modify_self _ _ _ _ (toMixer_lt_of_busy busy)

/-- R164: a run that is not IDLE is one of the station's. -/
theorem runs_lt_of_busy (busy : (s.run m).phase ≠ .idle) : m < s.pdu.runs.length := by
  by_contra out
  exact busy (by simp [State.run, List.getD_eq_getElem?_getD, Nat.le_of_not_lt out, RunRec.reset])

theorem State.modRun_eq_set (busy : (s.run m).phase ≠ .idle) (f : RunRec → RunRec) :
    s.modRun m f = { s with pdu := { s.pdu with runs := s.pdu.runs.set m (f (s.run m)) } } := by
  unfold State.modRun State.run
  rw [modify_eq_set_getD _ _ _ RunRec.reset (runs_lt_of_busy busy)]

/-! ### A transfer confirmed (R145, R146, R148) -/

/-- R145: the tin is at the outfeed: its order goes to MIX WAIT, or, not to be mixed, to the shelf. -/
theorem outfeedReached_moves (cradle : s.cradleIn .outfeedWait = some slot) (order : s.order slot = some o) :
    s.outfeedReached.obu.cradle = none ∧ s.outfeedReached.obu.outfeed = some slot
      ∧ (o.mixTime ≠ 0 → s.outfeedReached.order slot = some { o with stage := .mixWait })
      ∧ (o.mixTime = 0 → s.outfeedReached.order slot = some { o with stage := .shelf }
          ∧ (s.pdu.toShelf.phase = .idle →
            s.outfeedReached.pdu.toShelf = s.pdu.toShelf.start s.cal.transferPulse s.cal.transferLimit)) := by
  let t := s.modBook fun b => { b with cradle := none, outfeed := some slot }
  have staged (st : Stage) : (t.setStage slot st).order slot = some { o with stage := st } := by
    rw [State.setStage, order_modOrder_self, show t.order slot = some o from order, Option.map_some]
  by_cases unmixed : o.mixTime = 0
  · have reached : s.outfeedReached = (t.setStage slot .shelf).startTransfer .toShelf := by
      simp only [State.outfeedReached, cradle, order, Option.map_some, Option.getD_some, if_pos unmixed, t]
    rw [reached, State.order, startTransfer_obu]
    refine ⟨rfl, rfl, fun mixed => absurd unmixed mixed, fun _ => ⟨staged .shelf, fun idle => ?_⟩⟩
    rw [State.startTransfer, if_pos (by exact idle)]
    rfl
  · have reached : s.outfeedReached = t.setStage slot .mixWait := by
      simp only [State.outfeedReached, cradle, order, Option.map_some, Option.getD_some, if_neg unmixed, t]
    rw [reached]
    exact ⟨rfl, rfl, fun _ => staged .mixWait, fun zero => absurd zero unmixed⟩

theorem shelfReached_finishes (outfeed : s.outfeedIn .shelf = some slot) :
    s.transferConfirmed .toShelf = s.finish slot .filled .none := by
  simp only [State.transferConfirmed, outfeed]

theorem raiseRun_obu (s : State) (m time : Nat) : (s.raiseRun m time).obu = s.obu := by
  unfold State.raiseRun
  split <;> rfl

/-- R148 (b), (c): the tin is at its mixer: the outfeed is free and the run line raised for the mix time. -/
theorem mixerReached_raises {g : MixGrant} (transferring : s.transferringTo m = some slot) (order : s.order slot = some o)
    (granted : o.mixGrant = some g) :
    s.mixerReached m =
      ((s.modBook fun b => { b with outfeed := none }).modOrder slot fun o => { o with runRaised := true }).raiseRun m g.mixTime := by
  simp only [State.mixerReached, transferring, order, granted, Option.bind_some, Option.map_some, Option.getD_some]

theorem mixerReached_runs {g : MixGrant} (transferring : s.transferringTo m = some slot) (order : s.order slot = some o)
    (granted : o.mixGrant = some g) (lt : m < s.pdu.runs.length) (idle : (s.run m).phase = .idle) :
    (s.mixerReached m).obu.outfeed = none ∧ (s.mixerReached m).order slot = some { o with runRaised := true }
      ∧ (s.mixerReached m).run m = RunRec.raise g.mixTime := by
  rw [mixerReached_raises transferring order granted, State.order, raiseRun_obu]
  refine ⟨rfl, ?_, ?_⟩
  · refine (order_modOrder_self (s.modBook fun b => { b with outfeed := none }) slot _).trans ?_
    rw [show (s.modBook fun b => { b with outfeed := none }).order slot = some o from order, Option.map_some]
  · rw [State.raiseRun, if_pos (by exact idle)]
    exact State.run_modRun_self _ m _ lt

/-! ### The pusher of a transfer that has ended (R161) -/

theorem pusher_of_pdu {u : State} (pdu : u.pdu = s.pdu) (p : Pusher) : u.pusher p = s.pusher p := by
  cases p <;> simp only [State.pusher, pdu]

/-- R161: the transfer to the shelf is the shelf pusher's. -/
theorem toOutfeed_startTransfer_toShelf (s : State) : (s.startTransfer .toShelf).pdu.toOutfeed = s.pdu.toOutfeed := by
  unfold State.startTransfer
  split <;> rfl

theorem raiseRun_toMixer (s : State) (m time : Nat) : (s.raiseRun m time).pdu.toMixer = s.pdu.toMixer := by
  unfold State.raiseRun
  split <;> rfl

theorem pusher_transferConfirmed (s : State) (p : Pusher) : (s.transferConfirmed p).pusher p = s.pusher p := by
  cases p with
  | toOutfeed =>
    simp only [State.transferConfirmed, State.outfeedReached]
    repeat' split
    · rfl
    · exact toOutfeed_startTransfer_toShelf _
    · rfl
  | toShelf =>
    simp only [State.transferConfirmed]
    split
    · exact pusher_of_pdu (finish_pdu s _ _ _) _
    · rfl
  | toMixer m =>
    simp only [State.transferConfirmed, State.mixerReached]
    split
    · rfl
    · exact congrArg (·.getD m OpRec.reset) (raiseRun_toMixer _ m _)

theorem pusher_transferFailed (s : State) (p : Pusher) : (s.transferFailed p).pusher p = s.pusher p := by
  cases p with
  | toOutfeed =>
    simp only [State.transferFailed]
    split
    · next slot _ =>
      obtain ⟨chute, pdu⟩ := reject_pdu s slot .transferFault
      exact (congrArg Pdu.toOutfeed pdu :)
    · rfl
  | toShelf =>
    simp only [State.transferFailed]
    split
    · exact pusher_of_pdu (finish_pdu s _ _ _) _
    · rfl
  | toMixer m =>
    simp only [State.transferFailed]
    split
    · exact pusher_of_pdu (endMix_pdu s _ m _ _ _) _
    · rfl

/-! ### A transfer confirmed, whole (R161) -/

/-- R161: the station with its inputs as they are now and the pusher of an ended transfer at rest. -/
def State.atRest (s : State) (pins : Pins) (p : Pusher) : State := (s.withPins pins).modPusher p OpRec.rest

theorem pusher_atRest (busy : (s.pusher p).phase ≠ .idle) (pins : Pins) :
    (s.atRest pins p).pusher p = (s.pusher p).rest := pusher_modPusher_self (s := s.withPins pins) busy OpRec.rest

/-- R145, R146, R148 (b), (c), R161: a transfer confirmed does what the order's stage gives, whatever the inputs are now. -/
theorem atRest_transferMade (busy : (s.pusher p).phase ≠ .idle) (pins : Pins) :
    s.transferMade ((s.atRest pins p).transferConfirmed p) p := by
  rw [State.transferMade, pusher_transferConfirmed, pusher_atRest busy]
  refine ⟨rfl, rfl, rfl, rfl, ?_, ?_, ?_⟩
  · rintro slot o rfl outfeed order
    have same : (s.atRest pins .toShelf).outfeedIn .shelf = some slot := outfeed
    rw [shelfReached_finishes same]
    exact finish_ordersEnd (s.atRest pins .toShelf) slot o .filled .none order
  · rintro slot o rfl cradle order
    obtain ⟨gone, come, mixed, unmixed⟩ := outfeedReached_moves (s := s.atRest pins .toOutfeed) cradle order
    refine ⟨gone, come, mixed, fun zero => ?_⟩
    obtain ⟨shelf, pushes⟩ := unmixed zero
    refine ⟨shelf, fun idle => ?_⟩
    rw [State.transferConfirmed, pushes idle]
    exact ⟨rfl, rfl, rfl, rfl⟩
  · rintro m slot o g rfl transferring order granted lt idle
    exact mixerReached_runs (s := s.atRest pins (.toMixer m)) transferring order granted lt idle

theorem pins_atRest_transferConfirmed (s : State) (pins : Pins) (p : Pusher) :
    ((s.atRest pins p).transferConfirmed p).pins = pins :=
  (framed_transferConfirmed _ p).pins.trans (State.modPusher_pins _ _ _)

end

end Sys2Proof.Machine
end

section
/-! The ends of a pusher's pulse, of its confirm time and of the chute's pulse (R145, R146, R148, R149, R161, R162). -/

namespace Sys2Proof.Machine

section
variable {s : State} {slot m : Nat} {o : Order} {p : Pusher}

theorem busy_of_pulse (pulse : (s.pusher p).phase = .pulse) : (s.pusher p).phase ≠ .idle := by
  rw [pulse]
  nofun

theorem busy_of_confirm (confirm : (s.pusher p).phase = .confirm) : (s.pusher p).phase ≠ .idle := by
  rw [confirm]
  nofun

/-! ### The end of a pulse (R161) -/

theorem pusherPulseExpiry_arrived (pulse : (s.pusher p).phase = .pulse) (runs : (s.pusher p).pulseTimer.isSome = true)
    (arrived : s.arrived p = true) : s.pusherPulseExpiry p = ((s.atRest s.pins p).transferConfirmed p).settle := by
  rw [State.pusherPulseExpiry, if_pos ⟨pulse, runs⟩, if_pos arrived]
  rfl

theorem pusherPulseExpiry_waits (pulse : (s.pusher p).phase = .pulse) (runs : (s.pusher p).pulseTimer.isSome = true)
    (absent : s.arrived p = false) : s.pusherPulseExpiry p = s.modPusher p OpRec.confirm := by
  rw [State.pusherPulseExpiry, if_pos ⟨pulse, runs⟩, if_neg (by rw [absent]; nofun)]

/-! ### The end of the confirm time (R145, R146, R148 (b)) -/

theorem confirmTimerExpiry_fails (confirm : (s.pusher p).phase = .confirm) (runs : (s.pusher p).confirmTimer.isSome = true) :
    s.confirmTimerExpiry p = ((s.atRest s.pins p).transferFailed p).settle := if_pos ⟨confirm, runs⟩

theorem transferFailed_rejects (cradle : s.cradleIn .outfeedWait = some slot) (order : s.order slot = some o) :
    s.ordersReject (s.transferFailed .toOutfeed) slot o .transferFault := by
  simp only [State.transferFailed, cradle]
  exact reject_ordersReject s slot o .transferFault order

theorem transferFailed_fills (outfeed : s.outfeedIn .shelf = some slot) (order : s.order slot = some o) :
    s.ordersEnd (s.transferFailed .toShelf) s.blu slot o .filled .transferFault := by
  simp only [State.transferFailed, outfeed]
  exact finish_ordersEnd s slot o .filled .transferFault order

/-- R81, R148: an order that gives back the grant it works under ends. -/
theorem endMix_granted_ordersEnd {g : MixGrant} (order : s.order slot = some o) (granted : o.mixGrant = some g) (out : MixOutcome)
    (outcome : OrderOutcome) (reason : OrderReason) : s.ordersEnd (s.endMix slot m out outcome reason)
      (s.blu.offer (.mixRelease m g.number (mixOutcomeCode out)) .book).1 slot o outcome reason := by
  have ended := endMix_ordersEnd (m := m) order out outcome reason
  rwa [granted, Option.map_some, Option.getD_some] at ended

theorem transferFailed_releases {g : MixGrant} (transferring : s.transferringTo m = some slot) (order : s.order slot = some o)
    (granted : o.mixGrant = some g) : s.ordersEnd (s.transferFailed (.toMixer m))
      (s.blu.offer (.mixRelease m g.number 1) .book).1 slot o .mixIncomplete .transferFault := by
  simp only [State.transferFailed, transferring]
  exact endMix_granted_ordersEnd order granted .fault .mixIncomplete .transferFault

/-! ### The chute (R149, R162) -/

/-- R162: the station with the chute at rest. -/
def State.chuteRested (s : State) : State := s.modPdu fun p => { p with chute := p.chute.rest }

theorem chutePulseEnded_finishes {r : OrderReason} (pulse : s.pdu.chute.phase = .pulse) (cradle : s.cradleIn .reject = some slot)
    (order : s.order slot = some o) (reason : o.reason = some r) :
    s.chutePulseEnded = (s.chuteRested.finish slot .spoiled r).settle := by
  have same : (s.modPdu fun p => { p with chute := p.chute.rest }).cradleIn .reject = some slot := cradle
  have stands : (s.modPdu fun p => { p with chute := p.chute.rest }).order slot = some o := order
  unfold State.chutePulseEnded
  rw [if_pos pulse]
  simp only [same, stands, Option.bind_some, reason, Option.getD_some]
  rfl

end

end Sys2Proof.Machine

namespace Sys2Proof

open Machine

/-- Settles O49: a pulse's end by whether the tin has come, a confirm time's end by the pusher, and the chute's end by the reason for
which the order was rejected. -/
theorem transfersAndChuteEnd : Obligations.TransfersAndChuteEnd := by
  refine fun s p => ⟨rfl, rfl, fun _ => rfl, fun pulse runs => ⟨fun absent => ?_, fun arrived => ?_⟩, fun confirm runs => ?_,
    fun slot o r pulse cradle order reason => ?_⟩
  · exact congrArg Host.Outcome.next (pusherPulseExpiry_waits pulse runs absent)
  · exact ⟨_, congrArg _ (pusherPulseExpiry_arrived pulse runs arrived), atRest_transferMade (busy_of_pulse pulse) s.pins,
      pins_atRest_transferConfirmed s s.pins p⟩
  · have rested : ((s.atRest s.pins p).transferFailed p).pusher p = (s.pusher p).rest :=
      (pusher_transferFailed _ p).trans (pusher_atRest (busy_of_confirm confirm) s.pins)
    have framed : Framed (s.atRest s.pins p) ((s.atRest s.pins p).transferFailed p) :=
      .of (sameBay_transferFailed _ p) (counts_transferFailed _ p)
    refine ⟨_, congrArg _ (confirmTimerExpiry_fails confirm runs), by rw [rested]; rfl, by rw [rested]; rfl,
      framed.pins.trans (State.modPusher_pins _ _ _), ?_, ?_, ?_⟩
    · rintro slot o cradle order rfl
      exact transferFailed_rejects (s := s.atRest s.pins .toOutfeed) cradle order
    · rintro slot o outfeed order rfl
      exact transferFailed_fills (s := s.atRest s.pins .toShelf) outfeed order
    · rintro slot o m g transferring order granted rfl
      exact transferFailed_releases (s := s.atRest s.pins (.toMixer m)) transferring order granted
  · refine ⟨_, congrArg _ (chutePulseEnded_finishes pulse cradle order reason),
      finish_ordersEnd s.chuteRested slot o .spoiled r order, ?_⟩
    rw [finish_pdu]
    exact ⟨rfl, rfl⟩

end Sys2Proof
end

section
/-! The outfeed sensor and the occupied inputs (R147, R161, R163): a transfer confirmed by a change, and the outfeed found empty in
MIX WAIT. -/

namespace Sys2Proof.Machine

section
variable {s : State} {slot m : Nat} {o : Order} {p : Pusher}

/-! ### A transfer in CONFIRM (R161) -/

theorem confirmBySensor_confirms {pins : Pins} (confirm : (s.pusher p).phase = .confirm)
    (arrived : (s.withPins pins).arrived p = true) :
    (s.withPins pins).confirmBySensor p = (s.atRest pins p).transferConfirmed p := by
  have same : ((s.withPins pins).pusher p).phase = .confirm := (congrArg OpRec.phase (pusher_of_pdu rfl p)).trans confirm
  exact if_pos ⟨same, arrived⟩

theorem confirmBySensor_waits {pins : Pins} (waits : (s.pusher p).phase ≠ .confirm) :
    (s.withPins pins).confirmBySensor p = s.withPins pins :=
  if_neg fun ⟨confirm, _⟩ => waits ((congrArg OpRec.phase (pusher_of_pdu rfl p)).trans confirm)

theorem confirmBySensor_absent (absent : s.arrived p = false) : s.confirmBySensor p = s :=
  if_neg fun ⟨_, arrived⟩ => by rw [absent] at arrived; cases arrived

/-! ### The outfeed sensor (R147, R163) -/

theorem outfeedSensorChange_on (off : s.pins.outfeed = false) : s.outfeedSensorChange true =
    ((s.withPins { s.pins with outfeed := true }).confirmBySensor .toOutfeed).settle := by
  rw [State.outfeedSensorChange, if_neg (by rw [off]; nofun)]
  rfl

theorem outfeedSensorChange_off (on : s.pins.outfeed = true) : s.outfeedSensorChange false =
    ((s.withPins { s.pins with outfeed := false }).confirmBySensor .toShelf).outfeedEmptied.settle := by
  rw [State.outfeedSensorChange, if_neg (by rw [on]; nofun)]
  rfl

theorem outfeedEmptied_unwaited (none_waits : s.outfeedIn .mixWait = none) : s.outfeedEmptied = s := by
  simp only [State.outfeedEmptied, none_waits]

/-- R150: an order that has ended is no longer at the outfeed. -/
theorem outfeedIn_finish {st : Stage} (outfeed : s.obu.outfeed = some slot) (oc : OrderOutcome) (r : OrderReason) :
    (s.finish slot oc r).outfeedIn st = none := by
  have gone : (s.finish slot oc r).obu.outfeed = none := by
    rw [State.finish, dropToken_eq]
    exact if_pos outfeed
  rw [State.outfeedIn, gone]
  rfl

section
variable (outfeed : s.outfeedIn .mixWait = some slot) (order : s.order slot = some o)
include outfeed order

theorem awaitsMixer_of_mixWait : s.awaitsMixer = if o.mixClaimOffered = true then some slot else none := by
  simp [State.awaitsMixer, outfeed, order, Option.filter_some]

theorem outfeedEmptied_unoffered (unoffered : o.mixClaimOffered = false) :
    s.outfeedEmptied = s.finish slot .mixIncomplete .cancelled := by
  simp [State.outfeedEmptied, outfeed, awaitsMixer_of_mixWait outfeed order, unoffered]

theorem outfeedEmptied_strikes (offered : o.mixClaimOffered = true)
    (stands : ∃ e ∈ s.blu.list ++ s.blu.held, isMixClaim e = true) :
    s.outfeedEmptied = (s.strike isMixClaim).finish slot .mixIncomplete .cancelled := by
  simp [State.outfeedEmptied, outfeed, awaitsMixer_of_mixWait outfeed order, offered, List.any_eq_true.2 stands, -List.any_append]

theorem outfeedEmptied_withdraws (offered : o.mixClaimOffered = true)
    (gone : ∀ e ∈ s.blu.list ++ s.blu.held, isMixClaim e = false) :
    s.outfeedEmptied = (s.offer .mixWithdraw .book).finish slot .mixIncomplete .cancelled := by
  have none_stands : (s.blu.list ++ s.blu.held).any isMixClaim = false := List.any_eq_false.2 fun e mem => by simp [gone e mem]
  simp [State.outfeedEmptied, outfeed, awaitsMixer_of_mixWait outfeed order, offered, none_stands, -List.any_append]

/-- R147: the outfeed found empty ends the order in MIX WAIT, its claim struck where it stands yet, else withdrawn. -/
theorem outfeedEmptied_ordersEnd :
    (o.mixClaimOffered = false → s.ordersEnd s.outfeedEmptied s.blu slot o .mixIncomplete .cancelled)
      ∧ (o.mixClaimOffered = true → (∃ e ∈ s.blu.list ++ s.blu.held, isMixClaim e = true) →
          s.ordersEnd s.outfeedEmptied (s.blu.strike isMixClaim) slot o .mixIncomplete .cancelled)
      ∧ (o.mixClaimOffered = true → (∀ e ∈ s.blu.list ++ s.blu.held, isMixClaim e = false) →
          s.ordersEnd s.outfeedEmptied (s.blu.offer .mixWithdraw .book).1 slot o .mixIncomplete .cancelled) := by
  refine ⟨fun unoffered => ?_, fun offered stands => ?_, fun offered gone => ?_⟩
  · rw [outfeedEmptied_unoffered outfeed order unoffered]
    exact finish_ordersEnd s slot o _ _ order
  · rw [outfeedEmptied_strikes outfeed order offered stands]
    exact finish_ordersEnd (s.strike isMixClaim) slot o _ _ order
  · rw [outfeedEmptied_withdraws outfeed order offered gone]
    exact finish_ordersEnd (s.offer .mixWithdraw .book) slot o _ _ order

end

/-! ### The occupied inputs (R161) -/

theorem occupiedInputChange_moves {on : Bool} (changes : s.occupied m ≠ on) : s.occupiedInputChange m on =
    ((s.withPins { s.pins with occupied := s.pins.occupied.set m on }).confirmBySensor (.toMixer m)).settle := if_neg changes

theorem arrived_toMixer_set (lt : m < s.pins.occupied.length) (on : Bool) :
    (s.withPins { s.pins with occupied := s.pins.occupied.set m on }).arrived (.toMixer m) = on := by
  simp [State.arrived, State.occupied, State.withPins, List.getD_eq_getElem?_getD, lt]

end

end Sys2Proof.Machine

namespace Sys2Proof

open Machine

/-- Settles O50: each input's change by whether the transfer that it concerns is in CONFIRM, and the outfeed found empty by the order
in MIX WAIT. -/
theorem sensorsConfirmTransfers : Obligations.SensorsConfirmTransfers := by
  refine fun s => ⟨fun off confirm => ?_, fun off waits => ?_, fun slot on confirm shelf => ?_,
    fun slot o on waits mixWait order => ?_, fun on waits none_waits => ?_, fun m lt inputs =>
    ⟨fun off confirm => ?_, fun off waits => ?_, fun on => ?_⟩⟩
  · exact ⟨_, congrArg Host.Outcome.next ((outfeedSensorChange_on off).trans
      (congrArg State.settle (confirmBySensor_confirms (p := .toOutfeed) confirm rfl))),
      atRest_transferMade (busy_of_confirm (p := .toOutfeed) confirm) _, pins_atRest_transferConfirmed s _ _⟩
  · exact congrArg Host.Outcome.next ((outfeedSensorChange_on off).trans
      (congrArg State.settle (confirmBySensor_waits (p := .toOutfeed) waits)))
  · have made := atRest_transferMade (busy_of_confirm (p := .toShelf) confirm) { s.pins with outfeed := false }
    have ends : s.outfeedSensorChange false =
        ((s.atRest { s.pins with outfeed := false } .toShelf).transferConfirmed .toShelf).settle := by
      have finishes := shelfReached_finishes (s := s.atRest { s.pins with outfeed := false } .toShelf) shelf
      rw [outfeedSensorChange_off on, confirmBySensor_confirms (p := .toShelf) confirm rfl, finishes,
        outfeedEmptied_unwaited (outfeedIn_finish (by exact (outfeedIn_eq_some_iff.1 shelf).1) _ _)]
    exact ⟨_, congrArg Host.Outcome.next ends, made, pins_atRest_transferConfirmed s _ _⟩
  · have empties := outfeedSensorChange_off on
    rw [confirmBySensor_waits (p := .toShelf) waits] at empties
    exact ⟨_, congrArg Host.Outcome.next empties, (sameBay_outfeedEmptied _).pins,
      outfeedEmptied_ordersEnd (s := s.withPins { s.pins with outfeed := false }) mixWait order⟩
  · have empties := outfeedSensorChange_off on
    rw [confirmBySensor_waits (p := .toShelf) waits, outfeedEmptied_unwaited (by exact none_waits)] at empties
    exact congrArg Host.Outcome.next empties
  · exact ⟨_, congrArg Host.Outcome.next ((occupiedInputChange_moves (by rw [off]; nofun)).trans
      (congrArg State.settle (confirmBySensor_confirms confirm (arrived_toMixer_set (inputs ▸ lt) true)))),
      atRest_transferMade (busy_of_confirm confirm) _, pins_atRest_transferConfirmed s _ _⟩
  · exact congrArg Host.Outcome.next ((occupiedInputChange_moves (by rw [off]; nofun)).trans
      (congrArg State.settle (confirmBySensor_waits waits)))
  · exact congrArg Host.Outcome.next ((occupiedInputChange_moves (by rw [on]; nofun)).trans
      (congrArg State.settle (confirmBySensor_absent (arrived_toMixer_set (inputs ▸ lt) false))))

end Sys2Proof
end

section
/-! A mixer's run (R81, R148, R164): its timer's end, and the done input. -/

namespace Sys2Proof.Machine

section
variable {s : State} {slot m : Nat} {o : Order}

theorem runTimerExpiry_awaits (running : (s.run m).phase = .running) (runs : (s.run m).runTimer.isSome = true) :
    s.runTimerExpiry m = { s with
      pdu := { s.pdu with
        runs := s.pdu.runs.set m { phase := .awaitDone, runTimer := none, doneArmed := !s.doneInput m, runLine := false } } } :=
  (if_pos ⟨running, runs⟩).trans (State.modRun_eq_set (by rw [running]; nofun) _)

/-! ### The done input rises (R148 (d), R164 (d)) -/

theorem doneInputRise_unarmed (off : s.doneInput m = false)
    (unarmed : (s.run m).phase ≠ .awaitDone ∨ (s.run m).doneArmed = false) :
    s.doneInputRise m = s.setDoneInput m true := by
  rw [State.doneInputRise, if_neg (by rw [off]; nofun), if_neg]
  rintro ⟨awaits, armed⟩
  rcases unarmed with other | clear
  · exact other awaits
  · rw [clear] at armed
    cases armed

/-- R164 (d): the station with mixer m's done input on and its run at rest. -/
def State.runDone (s : State) (m : Nat) : State := (s.setDoneInput m true).modRun m fun _ => RunRec.rest

theorem run_runDone (busy : (s.run m).phase ≠ .idle) : (s.runDone m).run m = RunRec.rest :=
  State.run_modRun_self (s.setDoneInput m true) m _ (runs_lt_of_busy busy)

theorem doneInputRise_ends (off : s.doneInput m = false) (awaits : (s.run m).phase = .awaitDone)
    (armed : (s.run m).doneArmed = true) (mixing : s.mixingOn m = some slot) :
    s.doneInputRise m = ((s.runDone m).endMix slot m .done .filled .none).settle := by
  have same : (s.runDone m).mixingOn m = some slot := mixing
  rw [State.doneInputRise, if_neg (by rw [off]; nofun), if_pos ⟨awaits, armed⟩, ← State.runDone]
  simp only [State.mixerDone, same]

/-! ### The done input falls (R164 (c)) -/

theorem doneInputFall_arms (on : s.doneInput m = true) (awaits : (s.run m).phase = .awaitDone) : s.doneInputFall m =
    { s.setDoneInput m false with pdu := { s.pdu with runs := s.pdu.runs.set m { s.run m with doneArmed := true } } } := by
  rw [State.doneInputFall, if_neg (by rw [on]; nofun), if_pos awaits]
  have busy : ((s.setDoneInput m false).run m).phase ≠ .idle := fun idle => by cases awaits.symm.trans idle
  exact State.modRun_eq_set busy _

theorem doneInputFall_unwaited (on : s.doneInput m = true) (other : (s.run m).phase ≠ .awaitDone) :
    s.doneInputFall m = s.setDoneInput m false := by
  rw [State.doneInputFall, if_neg (by rw [on]; nofun), if_neg other]

end

end Sys2Proof.Machine

namespace Sys2Proof

open Machine

/-- Settles O51: the run timer's end, the done input's rise by whether the wait is armed, and its fall by whether the run waits. -/
theorem mixerRunEndsAtDone : Obligations.MixerRunEndsAtDone := by
  refine fun s m => ⟨fun running runs => ?_, fun slot o g off awaits armed mixing order granted => ?_, fun off unarmed => ?_,
    fun on awaits => ?_, fun on other => ?_⟩
  · exact congrArg Host.Outcome.next (runTimerExpiry_awaits running runs)
  · have rested : ((s.runDone m).endMix slot m .done .filled .none).run m = RunRec.rest :=
      (endMix_run _ _ _ _ _ _ _).trans (run_runDone (by rw [awaits]; nofun))
    refine ⟨_, congrArg Host.Outcome.next (doneInputRise_ends off awaits armed mixing), (sameBay_endMix _ _ _ _ _ _).pins,
      ?_, ?_, ?_, endMix_granted_ordersEnd (s := s.runDone m) order granted .done .filled .none⟩
    all_goals rw [rested]; rfl
  · exact congrArg Host.Outcome.next (doneInputRise_unarmed off unarmed)
  · exact congrArg Host.Outcome.next (doneInputFall_arms on awaits)
  · exact congrArg Host.Outcome.next (doneInputFall_unwaited on other)

end Sys2Proof
end

section
/-! SUPPORT. The terminal link (R168, R172, R173) under dosing, the drives, the order book and the bay: nothing touches it short of a
change of the station state and the making of a ticket. -/

namespace Sys2Proof.Machine

section
variable (s : State)

theorem tlu_foldl {α : Type} (f : State → α → State) (h : ∀ s a, (f s a).tlu = s.tlu) (l : List α) :
    (l.foldl f s).tlu = s.tlu := by
  induction l generalizing s with
  | nil => rfl
  | cons a l ih => exact (ih _).trans (h s a)

/-! ### Dosing -/

@[simp] theorem tlu_stopChannel (k) : (s.stopChannel k).tlu = s.tlu := by
  unfold State.stopChannel
  repeat' split
  all_goals simp

@[simp] theorem tlu_stopThose (slot pick) : (s.stopThose slot pick).tlu = s.tlu := by
  refine tlu_foldl s _ (fun s k => ?_) _
  split
  · exact tlu_stopChannel s k
  · rfl

@[simp] theorem tlu_stopOrder (slot r) : (s.stopOrder slot r).tlu = s.tlu := by
  unfold State.stopOrder State.stopChannels
  repeat' split
  all_goals simp

@[simp] theorem tlu_report (k o) : (s.report k o).tlu = s.tlu := by
  unfold State.report
  repeat' split
  all_goals simp

@[simp] theorem tlu_offerClaim (k st) : (s.offerClaim k st).tlu = s.tlu := by
  unfold State.offerClaim
  simp only
  split <;> simp

@[simp] theorem tlu_handOver (k slot entry e) : (s.handOver k slot entry e).tlu = s.tlu := by simp [State.handOver]

@[simp] theorem tlu_giveBack (k drops o) : (s.giveBack k drops o).tlu = s.tlu := by
  unfold State.giveBack
  simp only
  split <;> simp

@[simp] theorem tlu_writeWidth (k next) : (s.writeWidth k next).tlu = s.tlu := rfl

@[simp] theorem tlu_periodStart (k) : (s.periodStart k).tlu = s.tlu := by
  unfold State.periodStart
  simp only
  split <;> simp

@[simp] theorem tlu_beginDose (k g a d) : (s.beginDose k g a d).tlu = s.tlu := by
  unfold State.beginDose
  simp only
  split <;> simp

@[simp] theorem tlu_grantTell (k h) : (s.grantTell k h).tlu = s.tlu := by
  unfold State.grantTell State.refuseGrant
  repeat' split
  all_goals simp

@[simp] theorem tlu_released (k) : (s.released k).tlu = s.tlu := by
  unfold State.released
  repeat' split
  all_goals simp

@[simp] theorem tlu_lineTell (k t) : (s.lineTell k t).tlu = s.tlu := by
  unfold State.lineTell
  repeat' split
  all_goals simp

@[simp] theorem tlu_captureShot (k) : (s.captureShot k).tlu = s.tlu := by
  unfold State.captureShot State.afterShot
  simp only
  repeat' split
  all_goals simp

@[simp] theorem tlu_ownLimit (k) : (s.ownLimit k).tlu = s.tlu := by
  unfold State.ownLimit
  repeat' split
  all_goals simp

/-! ### Drives -/

@[simp] theorem tlu_startFill (t) : (s.startFill t).tlu = s.tlu := by unfold State.startFill; split <;> rfl
@[simp] theorem tlu_startPress : s.startPress.tlu = s.tlu := by unfold State.startPress; split <;> rfl
@[simp] theorem tlu_startChute : s.startChute.tlu = s.tlu := by unfold State.startChute; split <;> rfl
@[simp] theorem tlu_startTransfer (p) : (s.startTransfer p).tlu = s.tlu := by unfold State.startTransfer; split <;> simp
@[simp] theorem tlu_raiseRun (m t) : (s.raiseRun m t).tlu = s.tlu := by unfold State.raiseRun; split <;> rfl
@[simp] theorem tlu_dropRun (m) : (s.dropRun m).tlu = s.tlu := by unfold State.dropRun; split <;> rfl
@[simp] theorem tlu_stopFill (slot) : (s.stopFill slot).tlu = s.tlu := by unfold State.stopFill; split <;> rfl

/-! ### Orders, short of their tickets -/

@[simp] theorem tlu_dropToken (slot) : (s.dropToken slot).tlu = s.tlu := by rw [dropToken_eq]
@[simp] theorem tlu_finish (slot o r) : (s.finish slot o r).tlu = s.tlu := by simp [State.finish]
@[simp] theorem tlu_reject (slot r) : (s.reject slot r).tlu = s.tlu := by simp [State.reject]
@[simp] theorem tlu_endMix (slot m o oc r) : (s.endMix slot m o oc r).tlu = s.tlu := by simp [State.endMix, State.offerMixRelease]

@[simp] theorem tlu_judgeTin (slot code) : (s.judgeTin slot code).tlu = s.tlu := by
  unfold State.judgeTin State.seat
  simp only
  repeat' split
  all_goals simp

@[simp] theorem tlu_chooseCradle : s.chooseCradle.tlu = s.tlu := by
  unfold State.chooseCradle
  simp only
  repeat' split
  all_goals simp

@[simp] theorem tlu_requestRush : s.requestRush.tlu = s.tlu := by
  unfold State.requestRush
  repeat' split
  all_goals simp

@[simp] theorem tlu_openGate : s.openGate.tlu = s.tlu := by
  unfold State.openGate
  repeat' split
  all_goals simp

@[simp] theorem tlu_handNext (slot) : (s.handNext slot).tlu = s.tlu := by
  unfold State.handNext
  repeat' split
  all_goals simp

@[simp] theorem tlu_endTint (slot) : (s.endTint slot).tlu = s.tlu := by
  unfold State.endTint State.leaveTint
  simp only
  repeat' split
  all_goals simp

@[simp] theorem tlu_dose : s.dose.tlu = s.tlu := by
  unfold State.dose
  split <;> simp

@[simp] theorem tlu_callOutfeed : s.callOutfeed.tlu = s.tlu := by
  unfold State.callOutfeed
  repeat' split
  all_goals simp

@[simp] theorem tlu_claimMixer : s.claimMixer.tlu = s.tlu := by
  unfold State.claimMixer
  repeat' split
  all_goals simp

@[simp] theorem tlu_bookTell (t) : (s.bookTell t).tlu = s.tlu := by
  unfold State.bookTell State.rushTell State.rushSettled State.rushUnwanted
  repeat' split
  all_goals simp

@[simp] theorem tlu_mixerGranted (m g t) : (s.mixerGranted m g t).tlu = s.tlu := by
  unfold State.mixerGranted State.enterMixing State.offerMixRelease
  simp only
  repeat' split
  all_goals simp

@[simp] theorem tlu_baseDone (d) : (s.baseDone d).tlu = s.tlu := by unfold State.baseDone; split <;> simp
@[simp] theorem tlu_baseFaulted (d f) : (s.baseFaulted d f).tlu = s.tlu := by unfold State.baseFaulted; split <;> simp
@[simp] theorem tlu_lidHome : s.lidHome.tlu = s.tlu := by unfold State.lidHome; split <;> simp
@[simp] theorem tlu_lidFaulted : s.lidFaulted.tlu = s.tlu := by unfold State.lidFaulted; split <;> simp
@[simp] theorem tlu_mixerDone (m) : (s.mixerDone m).tlu = s.tlu := by unfold State.mixerDone; split <;> simp
@[simp] theorem tlu_dropRunOf (slot m) : (s.dropRunOf slot m).tlu = s.tlu := by unfold State.dropRunOf; split <;> simp

@[simp] theorem tlu_transferConfirmed (p) : (s.transferConfirmed p).tlu = s.tlu := by
  unfold State.transferConfirmed State.outfeedReached State.mixerReached
  simp only
  repeat' split
  all_goals simp

@[simp] theorem tlu_confirmBySensor (p) : (s.confirmBySensor p).tlu = s.tlu := by
  unfold State.confirmBySensor
  split <;> simp

@[simp] theorem tlu_transferFailed (p) : (s.transferFailed p).tlu = s.tlu := by
  unfold State.transferFailed
  repeat' split
  all_goals simp

@[simp] theorem tlu_outfeedEmptied : s.outfeedEmptied.tlu = s.tlu := by
  unfold State.outfeedEmptied
  simp only
  repeat' split
  all_goals simp

variable {s} in
theorem tlu_cancelOrder {t : State} {slot : Nat} (h : s.cancelOrder slot = some t) : t.tlu = s.tlu := by
  unfold State.cancelOrder at h
  split at h <;> cases h <;> simp

@[simp] theorem tlu_tinRemoved : s.tinRemoved.tlu = s.tlu := by
  have cancelled (slot : Nat) : ((s.cancelOrder slot).getD s).tlu = s.tlu := by
    cases h : s.cancelOrder slot with
    | none => rfl
    | some t => exact tlu_cancelOrder h
  unfold State.tinRemoved
  repeat' split
  all_goals simp [cancelled]

/-! ### The effects of a take, the image cursor and the station's part in the bay, short of a change of state -/

@[simp] theorem tlu_leaveBay (listen) : (s.leaveBay listen).tlu = s.tlu := by
  have order (s : State) (slot : Nat) : (s.leaveOrder slot).tlu = s.tlu := by
    unfold State.leaveOrder
    repeat' split
    all_goals simp
  have request (s : State) : s.loseRequest.tlu = s.tlu := by
    unfold State.loseRequest
    split <;> rfl
  rw [leaveBay_eq]
  exact (tlu_foldl _ _ (fun s k => (resultsOnly_leaveChannel s k).tlu) _).trans ((tlu_foldl _ _ order _).trans (request _))

@[simp] theorem tlu_applyEffect (e) : (s.applyEffect e).tlu = s.tlu := by
  unfold State.applyEffect State.lineGranted State.startTimer State.endHolding
  simp only
  repeat' split
  all_goals simp

@[simp] theorem tlu_applyEffects (es) : (s.applyEffects es).tlu = s.tlu := tlu_foldl s _ tlu_applyEffect es

@[simp] theorem tlu_cursorOffer (x) : (s.cursorOffer x).tlu = s.tlu := by unfold State.cursorOffer; split <;> rfl
@[simp] theorem tlu_cursorBegin : s.cursorBegin.tlu = s.tlu := by unfold State.cursorBegin; split <;> simp
@[simp] theorem tlu_cursorAdvance : s.cursorAdvance.tlu = s.tlu := by unfold State.cursorAdvance; split <;> simp

@[simp] theorem tlu_cursorDrop (st) : (s.cursorDrop st).tlu = s.tlu := by
  unfold State.cursorDrop State.setJoiners
  simp only
  split <;> simp

@[simp] theorem tlu_giveImage (j g a) : (s.giveImage j g a).tlu = s.tlu := by
  unfold State.giveImage State.cursorAdd State.setJoiners
  simp only
  repeat' split
  all_goals simp

@[simp] theorem tlu_cursorPrune : s.cursorPrune.tlu = s.tlu := by
  refine tlu_foldl s _ (fun u j => ?_) _
  split <;> simp

theorem tlu_takeEffects (t es) {cursor : State → State} (cursed : ∀ u : State, (cursor u).tlu = u.tlu) :
    (s.takeEffects t es cursor).tlu = s.tlu := by
  simp [State.takeEffects, cursed]

@[simp] theorem tlu_applyTake (sender n) : (s.applyTake sender n).tlu = s.tlu := by
  unfold State.applyTake
  split
  · exact tlu_takeEffects s _ _ fun u => tlu_giveImage u _ _ _
  · unfold State.formedAttached
    split
    · exact tlu_takeEffects s _ _ fun _ => rfl
    · exact tlu_takeEffects s _ _ fun u => tlu_giveImage u _ _ _
  · refine tlu_takeEffects s _ _ fun u => ?_
    split <;> simp
  · refine tlu_takeEffects s _ _ fun u => ?_
    split <;> simp
  · exact tlu_takeEffects s _ _ fun _ => rfl

@[simp] theorem tlu_backToWaiting (refill) : (s.backToWaiting refill).tlu = s.tlu := by
  unfold State.backToWaiting State.struckTell
  repeat' split
  all_goals simp

@[simp] theorem tlu_bookTake (sender n) : (s.bookTake sender n).tlu = s.tlu := by
  unfold State.bookTake
  split <;> simp

@[simp] theorem tlu_restartImageTimer (joiner) : (s.restartImageTimer joiner).tlu = s.tlu := by
  unfold State.restartImageTimer
  split <;> rfl

end

end Sys2Proof.Machine
end

section
/-! The law of the terminal link (R168, R172, R173) through every command: at most 8 tickets, attention exactly when due, no reply
pending at an IDLE transmitter. -/

namespace Sys2Proof.Machine

/-! ### The law, and what is done to the link -/

/-- The law of the terminal link, clause by clause. -/
structure LinkLawful (t : Tlu) : Prop where
  eight : t.tickets.length ≤ 8
  raised : t.attention = attentionOf t.tickets t.unread
  silent : t.sending = none → t.pendingReply = none

theorem Tlu.lawful_iff (t : Tlu) : t.lawful = true ↔ LinkLawful t := by
  unfold Tlu.lawful
  rw [Bool.and_eq_true, Bool.and_eq_true, decide_eq_true_iff, beq_iff_eq]
  have silent : (t.sending.isSome || t.pendingReply.isNone) = true ↔ (t.sending = none → t.pendingReply = none) := by
    cases t.sending <;> simp
  rw [silent]
  exact ⟨fun ⟨⟨eight, raised⟩, silent⟩ => ⟨eight, raised, silent⟩, fun h => ⟨⟨h.eight, h.raised⟩, h.silent⟩⟩

namespace LinkLawful

variable {t : Tlu} (h : LinkLawful t)
include h

theorem markUnread : LinkLawful t.markUnread := ⟨h.eight, rfl, h.silent⟩

theorem markRead : LinkLawful t.markRead := ⟨h.eight, rfl, h.silent⟩

/-- R150: a ticket is queued where there is room for it. -/
theorem queueTicket (k : Ticket) (room : t.tickets.length < 8) : LinkLawful (t.queueTicket k) :=
  ⟨by simpa [Tlu.queueTicket] using room, rfl, h.silent⟩

theorem dropTicket : LinkLawful t.dropTicket :=
  ⟨by simpa [Tlu.dropTicket] using h.eight.trans (Nat.le_succ 8), rfl, h.silent⟩

theorem receive (r : Receiver) : LinkLawful { t with receiver := r } := ⟨h.eight, h.raised, h.silent⟩

/-- R168: a BUSY reply is left pending behind the reply being sent alone. -/
theorem busy (kind : Nat) (sending : t.sending ≠ none) : LinkLawful (t.busy kind) := by
  unfold Tlu.busy
  split
  · exact ⟨h.eight, h.raised, fun idle => absurd idle sending⟩
  · exact h.receive _

theorem reply (kind : Nat) (a : Answer) : LinkLawful (t.reply kind a) := ⟨h.eight, h.raised, nofun⟩

theorem sent : LinkLawful t.sent := ⟨h.eight, h.raised, fun _ => rfl⟩

end LinkLawful

/-- The law of the terminal link, of a state. -/
def State.Linked (s : State) : Prop := LinkLawful s.tlu

section
variable {s : State} (h : s.Linked)
include h

theorem State.Linked.of_tlu {t : State} (same : t.tlu = s.tlu) : t.Linked := by
  rw [State.Linked, same]
  exact h

/-! ### A change of the station state -/

/-- R23, R173: a state entered sets the flag, and attention with it. -/
theorem State.Linked.enter (st) : (s.enter st).Linked := by
  unfold State.enter
  split
  · exact h
  · exact h.markUnread

theorem State.Linked.entered {t : State} (st) (same : t.tlu = s.tlu) : (t.enter st).Linked := (h.of_tlu same).enter st

theorem State.Linked.detach (reason) : (s.detach reason).Linked := by
  unfold State.detach
  exact h.entered _ (by simp)

theorem State.Linked.ownLeave : s.ownLeave.Linked := by
  unfold State.ownLeave
  exact h.entered _ (by simp)

theorem State.Linked.refuse : s.refuse.Linked := h.entered _ rfl

theorem State.Linked.lateJoinSelf : s.lateJoinSelf.Linked := h.entered _ rfl

theorem State.Linked.imageHere (sender img) : (s.imageHere sender img).Linked := h

theorem State.Linked.restartImageTimer (joiner) : (s.restartImageTimer joiner).Linked := h.of_tlu (tlu_restartImageTimer s joiner)

theorem State.Linked.accepted (count) : (s.accepted count).Linked := by
  unfold State.accepted
  refine State.Linked.of_tlu ?_ (congrArg State.tlu (onlyTimers_watchAll _).rest)
  exact h.entered _ rfl

/-! ### The end of an event -/

omit h in
theorem State.Linked.queueTickets (n : Nat) {s : State} (h : s.Linked) : (State.queueTickets n s).Linked := by
  induction n generalizing s with
  | zero => exact h
  | succ n ih =>
    unfold State.queueTickets
    split
    · exact h
    · split
      · next room =>
        split
        · exact ih (h.queueTicket _ room)
        · exact ih h
      · exact h

theorem State.Linked.settle : s.settle.Linked := State.Linked.queueTickets 8 (h.of_tlu (by simp))

/-- What leaves the terminal link until the order book settles keeps the law. -/
theorem State.Linked.settled {t : State} (same : t.tlu = s.tlu) : t.settle.Linked := (h.of_tlu same).settle

/-! ### A take and a void -/

theorem State.Linked.joinForming (sender digest own) : (s.joinForming sender digest own).Linked := by
  unfold State.joinForming
  repeat' split
  · exact h.lateJoinSelf
  all_goals exact h

theorem State.Linked.formedForming : s.formedForming.Linked := by
  unfold State.formedForming
  simp only
  repeat' split
  · exact h
  · exact h
  · exact h.entered _ rfl
  · exact State.Linked.refuse h
  · exact h
  · exact h

theorem State.Linked.otherForming (sender n) : (s.otherForming sender n).Linked := by
  unfold State.otherForming
  repeat' split
  · exact State.Linked.lateJoinSelf (s := (s.modSsl _).strike isOwnFormed) h
  · exact h
  · exact h.refuse
  · exact h
  · exact h
  · exact h

theorem State.Linked.takeForming (sender n) : (s.takeForming sender n).Linked := by
  unfold State.takeForming
  split
  · exact h.joinForming _ _ _
  · exact h.formedForming
  · exact h.otherForming _ _

theorem State.Linked.imageJoining (sender joiner img) : (s.imageJoining sender joiner img).Linked := by
  unfold State.imageJoining
  repeat' split
  · exact h.restartImageTimer joiner
  · exact h.imageHere sender img
  · exact h.of_tlu (tlu_restartImageTimer _ joiner)

theorem State.Linked.imageEndJoining (sender joiner result count) : (s.imageEndJoining sender joiner result count).Linked := by
  unfold State.imageEndJoining
  repeat' split
  · exact h.restartImageTimer joiner
  · exact h.accepted count
  · exact h.refuse
  all_goals exact h.of_tlu (tlu_restartImageTimer _ joiner)

theorem State.Linked.takeJoining (sender n) : (s.takeJoining sender n).Linked := by
  unfold State.takeJoining
  repeat' split
  case h_1.isTrue => exact h.lateJoinSelf
  case h_3.isTrue => exact h.imageJoining _ _ _
  case h_4.isTrue => exact h.imageEndJoining _ _ _ _
  all_goals exact h

theorem State.Linked.takeAttached (sender n) : (s.takeAttached sender n).Linked := by
  have applied : (State.modBt (s.applyTake sender n) Table.counted).Linked := h.of_tlu (tlu_applyTake s sender n)
  unfold State.takeAttached State.afterTake
  simp only
  repeat' split
  · exact h.detach _
  · exact h.ownLeave
  · exact (h.of_tlu (tlu_leaveBay s _)).lateJoinSelf
  · exact applied
  · exact applied.detach _

theorem State.Linked.deliver (sender n) : (s.deliver sender n).Linked := by
  unfold State.deliver
  split
  · exact h.takeForming _ _
  · exact h.takeJoining _ _
  · exact h.takeAttached _ _
  all_goals exact h

theorem State.Linked.take (sender n) : (s.take sender n).Linked := by
  unfold State.take
  split
  · exact ((h.of_tlu (tlu_bookTake s sender n)).deliver sender n).settle
  · exact h

theorem State.Linked.ownVoid : s.ownVoid.Linked := by
  have counted : ((s.backToWaiting true).modBlu fun b => { b with voids := b.voids + 1 }).Linked := h.of_tlu (by simp)
  unfold State.ownVoid
  simp only
  split
  · exact counted.detach _
  · exact counted

theorem State.Linked.otherVoid (heard) : (s.otherVoid heard).Linked := by
  have counted : ((s.backToWaiting false).modBlu fun b => { b with objections := b.objections + 1 }).Linked := h.of_tlu (by simp)
  unfold State.otherVoid
  simp only
  repeat' split
  · exact counted.detach _
  · exact counted
  · exact h.of_tlu (by simp)

theorem State.Linked.void (heard) : (s.void heard).Linked := by
  unfold State.void
  repeat' split
  · exact h.ownVoid.settle
  · exact (h.otherVoid heard).settle
  · exact h

/-! ### The station timers and hold timers -/

theorem State.Linked.firstListenExpiry : s.firstListenExpiry.Linked := by
  unfold State.firstListenExpiry
  split <;> exact h

theorem State.Linked.formationWindowExpiry : s.formationWindowExpiry.Linked := by
  unfold State.formationWindowExpiry
  simp only
  repeat' split
  all_goals exact h

theorem State.Linked.imageTimerExpiry : s.imageTimerExpiry.Linked := by
  unfold State.imageTimerExpiry
  repeat' split
  · exact h.entered _ rfl
  · exact h
  · exact h

theorem State.Linked.rejoinTimerExpiry : s.rejoinTimerExpiry.Linked := by
  unfold State.rejoinTimerExpiry
  repeat' split
  · exact h.entered _ rfl
  · exact State.Linked.enter (s := s.modSsl _) h .joining
  · exact h

theorem State.Linked.ownLineTimerExpiry (line) : (s.ownLineTimerExpiry line).Linked := by
  unfold State.ownLineTimerExpiry State.expireTimer
  repeat' split
  · exact h.settled (by simp)
  all_goals exact h

theorem State.Linked.ownMixerTimerExpiry (m) : (s.ownMixerTimerExpiry m).Linked := by
  unfold State.ownMixerTimerExpiry State.expireTimer
  repeat' split
  · exact h.settled (by simp)
  all_goals exact h

theorem State.Linked.watchTimerExpiry (key) : (s.watchTimerExpiry key).Linked := by
  unfold State.watchTimerExpiry
  simp only
  repeat' split
  all_goals exact h

/-! ### The pairs and the plant -/

theorem State.Linked.settleExpiry (k) : (s.settleExpiry k).Linked := by
  unfold State.settleExpiry
  split
  · exact h.of_tlu (tlu_periodStart s k)
  · exact h

theorem State.Linked.capture (k) : (s.capture k).Linked := by
  unfold State.capture
  split
  · exact h.settled (tlu_captureShot s k)
  · exact h

theorem State.Linked.tinPresentRise : s.tinPresentRise.Linked := by
  unfold State.tinPresentRise
  split <;> exact h

theorem State.Linked.seatingTimerExpiry (code) : (s.seatingTimerExpiry code).Linked := by
  unfold State.seatingTimerExpiry
  simp only
  split
  · refine h.settled ?_
    split <;> simp
  · exact h

theorem State.Linked.tinPresentFall : s.tinPresentFall.Linked := by
  unfold State.tinPresentFall
  simp only
  repeat' split
  · exact h
  · exact h.settled (tlu_tinRemoved _)
  · exact h

theorem State.Linked.fillLimitExpiry : s.fillLimitExpiry.Linked := by
  unfold State.fillLimitExpiry
  split
  · exact h.settled (tlu_baseFaulted ..)
  · exact h

theorem State.Linked.runOnExpiry : s.runOnExpiry.Linked := by
  unfold State.runOnExpiry
  repeat' split
  · exact h.settled (tlu_baseFaulted ..)
  · exact h.settled (tlu_baseDone ..)
  · exact h

theorem State.Linked.pressTimerExpiry : s.pressTimerExpiry.Linked := by
  unfold State.pressTimerExpiry
  repeat' split
  · exact h.settled (tlu_lidHome _)
  · exact h
  · exact h.settled (tlu_lidFaulted _)
  · exact h

theorem State.Linked.pusherPulseExpiry (p) : (s.pusherPulseExpiry p).Linked := by
  unfold State.pusherPulseExpiry
  repeat' split
  · exact h.settled (by simp)
  · exact h.of_tlu (by simp)
  · exact h

theorem State.Linked.confirmTimerExpiry (p) : (s.confirmTimerExpiry p).Linked := by
  unfold State.confirmTimerExpiry
  split
  · exact h.settled (by simp)
  · exact h

theorem State.Linked.outfeedSensorChange (on) : (s.outfeedSensorChange on).Linked := by
  unfold State.outfeedSensorChange
  simp only
  repeat' split
  · exact h
  · exact h.settled (by simp)
  · exact h.settled (by simp)

theorem State.Linked.occupiedInputChange (m on) : (s.occupiedInputChange m on).Linked := by
  unfold State.occupiedInputChange
  split
  · exact h
  · exact h.settled (by simp)

theorem State.Linked.chutePulseEnded : s.chutePulseEnded.Linked := by
  unfold State.chutePulseEnded
  simp only
  split
  · refine h.settled ?_
    split <;> simp
  · exact h

theorem State.Linked.doneInputRise (m) : (s.doneInputRise m).Linked := by
  unfold State.doneInputRise State.setDoneInput
  repeat' split
  · exact h
  · exact h.settled (tlu_mixerDone _ m)
  · exact h

theorem State.Linked.doneInputFall (m) : (s.doneInputFall m).Linked := by
  unfold State.doneInputFall
  repeat' split
  all_goals exact h

/-! ### The terminal -/

/-- R168: a command of the terminal keeps the law where its action does. -/
theorem State.Linked.command (kind : Nat) {act : State → Answer} (acted : (act s).state.Linked) :
    (s.command kind act).Linked := by
  unfold State.command
  split
  · next sending => exact h.busy kind (by simp [sending])
  · exact acted.reply kind (act s)

theorem State.Linked.setupAnswer (block) : (s.setupAnswer block).state.Linked := by
  unfold State.setupAnswer
  repeat' split
  case isTrue.isFalse.isTrue => exact h.entered _ rfl
  all_goals exact h

theorem State.Linked.startAnswer : s.startAnswer.state.Linked := by
  unfold State.startAnswer
  split
  · exact h.entered _ rfl
  · exact h

theorem State.Linked.leaveAnswer : s.leaveAnswer.state.Linked := by
  unfold State.leaveAnswer State.queueTerminal
  repeat' split
  all_goals exact h

theorem State.Linked.orderAnswer (f) : (s.orderAnswer f).state.Linked := by
  unfold State.orderAnswer
  split
  · exact h
  · exact h.settled rfl

theorem State.Linked.cancelAnswer (tag) : (s.cancelAnswer tag).state.Linked := by
  unfold State.cancelAnswer
  repeat' split
  · exact h
  · exact h
  · next cancelled => exact h.settled (tlu_cancelOrder cancelled)
  · exact h

theorem State.Linked.priorityAnswer (tag level) : (s.priorityAnswer tag level).state.Linked := by
  unfold State.priorityAnswer
  repeat' split
  case h_1.isFalse.isFalse => exact h.settled rfl
  all_goals exact h

theorem State.Linked.askBay (equipped levelOk n) : (s.askBay equipped levelOk n).state.Linked := by
  unfold State.askBay State.queueTerminal
  repeat' split
  all_goals exact h

theorem State.Linked.queryOrderAnswer (tag) : (s.queryOrderAnswer tag).state.Linked := by
  unfold State.queryOrderAnswer
  repeat' split
  all_goals exact h

theorem State.Linked.queryLineAnswer (line) : (s.queryLineAnswer line).state.Linked := by
  unfold State.queryLineAnswer
  repeat' split
  all_goals exact h

/-- R150, R172: READ TICKET makes room in the queue before the book settles. -/
theorem State.Linked.readTicketAnswer : s.readTicketAnswer.state.Linked := by
  unfold State.readTicketAnswer
  split
  · exact h
  · exact State.Linked.settle (s := s.modTlu Tlu.dropTicket) h.dropTicket

/-! ### Every command -/

omit h in
theorem State.Linked.ite {c : Prop} [Decidable c] {s t : State} (h : s.Linked) (g : t.Linked) : (if c then s else t).Linked := by
  split
  · exact h
  · exact g

/-- Whatever command comes, the law of the terminal link is kept. -/
theorem exec_linked (c : Instr) : ∃ t, exec c s = .next t ∧ t.Linked := by
  cases c with
  | hardwareReset => exact ⟨_, rfl, Nat.zero_le 8, rfl, fun _ => rfl⟩
  | idleWait | turnSpentIdleClear | valveExpiry | basePeriodExpiry | dutyTimerExpiry | seatTimerExpiry | lidHomeOn
  | runTimerExpiry => exact ⟨_, rfl, .ite h h⟩
  | beginNotice => exact ⟨_, rfl, .ite (.ite h h) h⟩
  | tapMeterPulse | baseMeterPulse => exact ⟨_, rfl, h⟩
  | void heard => exact ⟨_, rfl, h.void heard⟩
  | joinTaken | formedTaken | imageTaken | imageEndTaken | leaveTaken | claimTaken | withdrawTaken | releaseTaken | refillTaken
  | lineOutTaken | lineReturnTaken | rushTakeTaken | rushDropTaken | mixClaimTaken | mixWithdrawTaken | mixReleaseTaken
  | mixerReturnTaken | revokeTaken => exact ⟨_, rfl, h.take _ _⟩
  | setup block => exact ⟨_, rfl, h.command 1 (h.setupAnswer block)⟩
  | start => exact ⟨_, rfl, h.command 2 h.startAnswer⟩
  | leave => exact ⟨_, rfl, h.command 3 h.leaveAnswer⟩
  | order fields => exact ⟨_, rfl, h.command 4 (h.orderAnswer fields)⟩
  | cancel tag => exact ⟨_, rfl, h.command 5 (h.cancelAnswer tag)⟩
  | priority tag level => exact ⟨_, rfl, h.command 6 (h.priorityAnswer tag level)⟩
  | refill | lineReturn | lineOut | mixerReturn => exact ⟨_, rfl, h.command _ (h.askBay _ _ _)⟩
  | queryStation => exact ⟨_, rfl, h.command 11 h.markRead⟩
  | queryOrder tag => exact ⟨_, rfl, h.command 12 (h.queryOrderAnswer tag)⟩
  | queryLine line => exact ⟨_, rfl, h.command 13 (h.queryLineAnswer line)⟩
  | queryMixers => exact ⟨_, rfl, h.command 14 h⟩
  | readTicket => exact ⟨_, rfl, h.command 15 h.readTicketAnswer⟩
  | unknownCommandKind kind payload => exact ⟨_, rfl, .ite h (h.command kind h)⟩
  | commandWhileSending kind =>
    refine ⟨_, rfl, ?_⟩
    split
    · next sending => exact h.busy kind (Option.isSome_iff_ne_none.1 sending)
    · exact h
  | replySent => exact ⟨_, rfl, .ite (s := s.modTlu Tlu.sent) h.sent h⟩
  | frameDropped | interByteTimeout => exact ⟨_, rfl, h.receive _⟩
  | firstListenExpiry => exact ⟨_, rfl, h.firstListenExpiry⟩
  | formationWindowExpiry => exact ⟨_, rfl, h.formationWindowExpiry⟩
  | imageTimerExpiry => exact ⟨_, rfl, h.imageTimerExpiry⟩
  | rejoinTimerExpiry => exact ⟨_, rfl, h.rejoinTimerExpiry⟩
  | ownLineTimerExpiry line => exact ⟨_, rfl, h.ownLineTimerExpiry line⟩
  | ownMixerTimerExpiry m => exact ⟨_, rfl, h.ownMixerTimerExpiry m⟩
  | watchTimerExpiry key => exact ⟨_, rfl, h.watchTimerExpiry key⟩
  | settleExpiry pair => exact ⟨_, rfl, h.settleExpiry pair⟩
  | capture pair => exact ⟨_, rfl, h.capture pair⟩
  | tinPresentRise => exact ⟨_, rfl, h.tinPresentRise⟩
  | seatingTimerExpiry code => exact ⟨_, rfl, h.seatingTimerExpiry code⟩
  | tinPresentFall => exact ⟨_, rfl, h.tinPresentFall⟩
  | fillLimitExpiry => exact ⟨_, rfl, h.fillLimitExpiry⟩
  | runOnExpiry => exact ⟨_, rfl, h.runOnExpiry⟩
  | pressTimerExpiry => exact ⟨_, rfl, h.pressTimerExpiry⟩
  | pusherPulseExpiry p => exact ⟨_, rfl, h.pusherPulseExpiry p⟩
  | confirmTimerExpiry p => exact ⟨_, rfl, h.confirmTimerExpiry p⟩
  | outfeedSensorChange on => exact ⟨_, rfl, h.outfeedSensorChange on⟩
  | occupiedInputChange m on => exact ⟨_, rfl, h.occupiedInputChange m on⟩
  | chutePulseEnded => exact ⟨_, rfl, h.chutePulseEnded⟩
  | doneInputRise m => exact ⟨_, rfl, h.doneInputRise m⟩
  | doneInputFall m => exact ⟨_, rfl, h.doneInputFall m⟩

end

end Sys2Proof.Machine

namespace Sys2Proof

open Machine

/-- Settles O55: a command marks a change of state, queues a ticket where there is room, reads one, or takes up a reply, and each of
these keeps the law. -/
theorem terminalLinkLawKept : Obligations.TerminalLinkLawKept := by
  intro s t lawful stepped
  have h : s.Linked := s.tlu.lawful_iff.1 lawful
  rw [Tlu.lawful_iff]
  unfold step at stepped
  split at stepped
  · cases stepped
    exact h
  · next c rest _ =>
    have popped : State.Linked { s with pending := rest } := h
    obtain ⟨u, hu, kept⟩ := exec_linked popped c
    rw [hu] at stepped
    cases stepped
    exact kept

end Sys2Proof
end

section
/-! The requests to the bay, the queries and READ TICKET (R16 (b), R86, R170 to R173), and the one-reply discipline of the link
(R167 to R169). -/

namespace Sys2Proof.Machine

/-! ### The commands of the terminal -/

section
variable {s : State} {c : Instr} {kind : Nat} {act : State → Answer}

/-- R168: what a command of the terminal comes to at an IDLE transmitter. -/
theorem exec_answered {a : Answer} (idle : s.tlu.sending = none) (asked : exec c s = .next (s.command kind act))
    (answer : act s = a) : exec c s = .next (a.state.answered kind a.result a.data) := by
  subst answer
  rw [asked, command_answered s kind act idle]

/-- R169: each row of the terminal's commands is judged as a command of its kind. -/
theorem exec_command (c : Instr) (s : State) (named : commandKind c ≠ 0) :
    ∃ act, exec c s = .next (s.command (commandKind c) act) := by
  cases c with
  | setup | start | leave | order | cancel | priority | refill | lineReturn | lineOut | mixerReturn | queryStation | queryOrder
  | queryLine | queryMixers | readTicket => exact ⟨_, rfl⟩
  | _ => exact absurd rfl named

end

/-! ### The four requests to the bay (R170) -/

section
variable {s : State} {n : Notice} {equipped levelOk : Bool}

theorem askBay_wrongState (st : s.ssl.state ≠ .attached) : s.askBay equipped levelOk n = .refuse s .wrongState := if_pos st

variable (attached : s.ssl.state = .attached)
include attached

theorem askBay_notEquipped (beyond : equipped = false) : s.askBay equipped levelOk n = .refuse s .notEquipped := by
  simp [State.askBay, attached, beyond]

theorem askBay_badField (within : equipped = true) (bad : levelOk = false) :
    s.askBay equipped levelOk n = .refuse s .badField := by
  simp [State.askBay, attached, within, bad]

/-- R16 (b): a request that stands its checks is offered to the outgoing list. -/
theorem askBay_asked (within : equipped = true) (good : levelOk = true) :
    s.askBay equipped levelOk n = s.queueTerminal n fun b => { s with blu := b } := by
  simp [State.askBay, attached, within, good]

end

theorem queueTerminal_busy {s : State} {n : Notice} {built : Blu → State}
    (full : 4 ≤ terminalCount s.blu.list ∨ 16 ≤ s.blu.list.length) : s.queueTerminal n built = .refuse s .busy := by
  rw [State.queueTerminal, offerTerminal_full full]

theorem queueTerminal_queued {s : State} {n : Notice} {built : Blu → State} (count : terminalCount s.blu.list < 4)
    (room : s.blu.list.length < 16) : s.queueTerminal n built =
      { state := built { s.blu with list := insertEntry (Entry.fresh n .terminal true) s.blu.list }, result := .queued,
        data := .nothing } := by
  rw [State.queueTerminal, offerTerminal_room count room]

/-! ### The queries (R70, R86, R171) -/

section
variable {s : State}

/-- R173: the flag cleared leaves attention to the tickets. -/
theorem Tlu.markRead_eq (t : Tlu) : t.markRead = { t with unread := false, attention := !t.tickets.isEmpty } := by
  simp [Tlu.markRead, attentionOf]

theorem queryOrderAnswer_unset {tag : Nat} (unset : s.setup = none) : s.queryOrderAnswer tag = .refuse s .wrongState :=
  if_pos (by simp [unset])

theorem queryLineAnswer_unset {line : Nat} (unset : s.setup = none) : s.queryLineAnswer line = .refuse s .wrongState :=
  if_pos (by simp [unset])

section
variable (set : s.setup ≠ none)
include set

theorem queryOrderAnswer_unknown {tag : Nat} (absent : s.obu.slotOf tag = none) :
    s.queryOrderAnswer tag = .refuse s .unknownTag := by
  simp only [State.queryOrderAnswer, absent]
  exact if_neg (setup_isNone_ne set)

theorem queryOrderAnswer_found {tag slot : Nat} {o : Order} (found : s.obu.slotOf tag = some slot)
    (order : s.order slot = some o) : s.queryOrderAnswer tag =
      { state := s, result := .accepted, data := .order o (s.channelReports slot) o.faultShown } := by
  simp only [State.queryOrderAnswer, found, order]
  exact if_neg (setup_isNone_ne set)

theorem queryLineAnswer_notEquipped {line : Nat} (beyond : s.bay.linesEquipped ≤ line) :
    s.queryLineAnswer line = .refuse s .notEquipped :=
  (if_neg (setup_isNone_ne set)).trans (if_pos beyond)

theorem queryLineAnswer_equipped {line : Nat} (within : line < s.bay.linesEquipped) :
    s.queryLineAnswer line = { state := s, result := .accepted, data := .line (s.lineView line) } :=
  (if_neg (setup_isNone_ne set)).trans (if_neg (Nat.not_le_of_lt within))

end

theorem lineView_full {line : Nat} {r : LineRec} (held : s.bt.line line = some r) :
    s.lineView line = .full line r (lineLow s.bay.reserve r) (lineStatus r) := by
  simp only [State.lineView, held]

theorem lineView_noTable {line : Nat} (empty : s.bt.lines = []) (st : s.ssl.state ≠ .joining) :
    s.lineView line = .noTable line := by
  have absent : s.bt.line line = none := by simp [Table.line, empty]
  simp only [State.lineView, absent]
  exact if_pos ⟨by simp [empty], st⟩

theorem poolView_full {p : Pool} (held : s.bt.pool = some p) : s.poolView = .full p s.bt.tokens := by
  simp only [State.poolView, held]

theorem poolView_noTable (absent : s.bt.pool = none) (empty : s.bt.lines = []) (st : s.ssl.state ≠ .joining) :
    s.poolView = .noTable := by
  simp only [State.poolView, absent]
  exact if_pos ⟨by simp [empty], st⟩

/-! ### READ TICKET (R172) -/

theorem readTicketAnswer_none (empty : s.tlu.tickets = []) :
    s.readTicketAnswer = { state := s, result := .accepted, data := .nothing } := by
  simp only [State.readTicketAnswer, empty]

theorem readTicketAnswer_head {k : Ticket} {rest : List Ticket} (queue : s.tlu.tickets = k :: rest) :
    s.readTicketAnswer =
      { state := State.settle { s with tlu := { s.tlu with tickets := rest, attention := !rest.isEmpty || s.tlu.unread } },
        result := .accepted, data := .ticket k } := by
  have dropped : s.tlu.dropTicket = { s.tlu with tickets := rest, attention := !rest.isEmpty || s.tlu.unread } := by
    simp only [Tlu.dropTicket, queue, List.tail_cons, attentionOf]
  simp only [State.readTicketAnswer, queue, State.modTlu, dropped]

end

/-! ### One reply at a time (R168) -/

theorem Tlu.busy_of_free {t : Tlu} (kind : Nat) (free : t.pendingReply = none) :
    t.busy kind =
      { t with receiver := .hunting, pendingReply := some { kind := kind, result := .busy, data := .nothing } } := by
  simp only [Tlu.busy, free]

theorem Tlu.busy_of_pending {t : Tlu} (kind : Nat) (pending : t.pendingReply ≠ none) :
    t.busy kind = { t with receiver := .hunting } := by
  obtain ⟨r, held⟩ := Option.ne_none_iff_exists'.1 pending
  simp only [Tlu.busy, held]

/-- R168: whatever row brings it, a frame that arrives while a reply is being sent is met as BUSY (log entry 26). -/
theorem exec_whileSending {s : State} {c : Instr} {kind : Nat} {r : Reply} (sending : s.tlu.sending = some r)
    (brings : (commandKind c = kind ∧ kind ≠ 0) ∨ c = .commandWhileSending kind
      ∨ ∃ payload, c = .unknownCommandKind kind payload ∧ commandLengthOk kind payload = false) :
    exec c s = .next (s.modTlu fun t => t.busy kind) := by
  rcases brings with ⟨rfl, named⟩ | rfl | ⟨payload, rfl, bad⟩
  · obtain ⟨act, asked⟩ := exec_command c s named
    rw [asked, command_busy s _ act r sending]
  · exact congrArg Host.Outcome.next (if_pos (by rw [sending]; rfl))
  · refine congrArg Host.Outcome.next ((if_neg (by simp [bad])).trans ?_)
    exact command_busy s kind _ r sending

/-! ### Dropped frames (R167) -/

/-- R167 (b): a byte without its stop bit leaves the receiver HUNTING. -/
theorem receiveByte_noStopBit (r : Receiver) {b : LinkByte} (missing : b.stopBit = false) : (receiveByte r b).1 = .hunting := by
  cases r <;> simp [receiveByte, missing]

/-- R167 (a): so does a length byte above 250. -/
theorem receiveByte_tooLong {b : LinkByte} (long : 250 < b.value) : (receiveByte (.inFrame []) b).1 = .hunting := by
  unfold receiveByte
  split <;> simp_all

/-- R167 (c): so does the last byte of a frame, whether its check holds and the frame arrives or it is dropped. -/
theorem receiveByte_lastByte (b : LinkByte) (kind hi : Nat) (payload : List ByteVal) :
    (receiveByte (.inFrame (payload.length :: kind :: payload ++ [hi])) b).1 = .hunting := by
  cases stop : b.stopBit with
  | false => exact receiveByte_noStopBit _ stop
  | true =>
    simp only [receiveByte, stop, List.cons_append, List.append_assoc, List.nil_append]
    rw [if_neg (by simp), if_neg (by simp)]
    split <;> rfl

end Sys2Proof.Machine

namespace Sys2Proof

open Machine

/-- Settles O43: the four commands put one question, with their own range of lines, mixers and levels, and its checks come in order. -/
theorem bayRequestsAreQueuedOrRefused : Obligations.BayRequestsAreQueuedOrRefused := by
  intro s c kind n equipped levelOk idle request
  obtain ⟨within, good, act, asked, answer, range, level⟩ : ∃ (within good : Bool) (act : State → Answer),
      exec c s = .next (s.command kind act) ∧ act s = s.askBay within good n ∧ (equipped ↔ within = true)
        ∧ (levelOk ↔ good = true) := by
    rcases request with ⟨line, level, rfl, rfl, rfl, range, ok⟩ | ⟨line, level, rfl, rfl, rfl, range, ok⟩
      | ⟨line, rfl, rfl, rfl, range, ok⟩ | ⟨mixer, rfl, rfl, rfl, range, ok⟩
    · exact ⟨_, _, _, rfl, rfl, range.trans decide_eq_true_iff.symm, ok.trans decide_eq_true_iff.symm⟩
    · exact ⟨_, _, _, rfl, rfl, range.trans decide_eq_true_iff.symm, ok.trans decide_eq_true_iff.symm⟩
    · exact ⟨_, _, _, rfl, rfl, range.trans decide_eq_true_iff.symm, ok.trans (iff_of_true trivial rfl)⟩
    · exact ⟨_, _, _, rfl, rfl, range.trans decide_eq_true_iff.symm, ok.trans (iff_of_true trivial rfl)⟩
  rw [range, level, Bool.not_eq_true, Bool.not_eq_true]
  have answered {a : Answer} (judged : s.askBay within good n = a) : exec c s = .next (a.state.answered kind a.result a.data) :=
    exec_answered idle asked (answer.trans judged)
  refine ⟨fun st => answered (askBay_wrongState st), fun attached => ⟨fun beyond => ?_, fun ok bad => ?_, fun ok fits full => ?_,
    fun ok fits count room => ?_⟩⟩
  · exact answered (askBay_notEquipped attached beyond)
  · exact answered (askBay_badField attached ok bad)
  · exact answered ((askBay_asked attached ok fits).trans (queueTerminal_busy full))
  · exact answered ((askBay_asked attached ok fits).trans (queueTerminal_queued count room))

/-- Settles O44: each query by what it finds, and READ TICKET by whether a ticket waits. -/
theorem queriesAndTickets : Obligations.QueriesAndTickets := by
  refine ⟨fun s tag line idle => ?_, fun s idle => ?_⟩
  · have absent (named : ∀ slot o, s.order slot = some o → o.tag ≠ tag) : s.obu.slotOf tag = none :=
      slotOf_eq_none_iff.2 fun slot _ o order => named slot o order
    refine ⟨⟨s.stationReport, rfl, rfl, rfl, fun n count => ?_, rfl, rfl, rfl, rfl, rfl, rfl, rfl, rfl, ?_⟩,
      fun unset => ⟨?_, ?_⟩, fun set named => ?_, fun slot o set lt order named only => ?_, fun set beyond => ?_,
      fun r set within held => ?_, fun set within empty st => ?_, fun p held => ?_, fun noPool empty st => ?_⟩
    · simp [State.stationReport, count]
    · rw [← Tlu.markRead_eq]
      exact exec_answered (act := State.queryStationAnswer) idle rfl rfl
    · exact exec_answered idle rfl (queryOrderAnswer_unset unset)
    · exact exec_answered idle rfl (queryLineAnswer_unset unset)
    · exact exec_answered idle rfl (queryOrderAnswer_unknown set (absent named))
    · exact exec_answered idle rfl (queryOrderAnswer_found set (slotOf_eq_some lt order named only) order)
    · exact exec_answered idle rfl (queryLineAnswer_notEquipped set beyond)
    · rw [← lineView_full held]
      exact exec_answered idle rfl (queryLineAnswer_equipped set within)
    · rw [← lineView_noTable empty st]
      exact exec_answered idle rfl (queryLineAnswer_equipped set within)
    · rw [← poolView_full held]
      exact exec_answered (act := State.queryMixersAnswer) idle rfl rfl
    · rw [← poolView_noTable noPool empty st]
      exact exec_answered (act := State.queryMixersAnswer) idle rfl rfl
  · exact ⟨fun empty => exec_answered idle rfl (readTicketAnswer_none empty),
      fun k rest queue => exec_answered idle rfl (readTicketAnswer_head queue)⟩

/-- Settles O45: every frame that comes while a reply is being sent is met as BUSY, and the last byte of a dropped frame leaves the
receiver HUNTING. -/
theorem oneReplyAtATime : Obligations.OneReplyAtATime := by
  intro s
  refine ⟨fun c kind r sending brings => ⟨fun free => ?_, fun pending => ?_⟩, fun kind payload idle bad => ?_, fun sending => ?_,
    rfl, fun bytes => ⟨_, rfl, rfl, fun b last missing => ?_, fun b only lead long => ?_, fun b kind payload hi only body _ => ?_⟩⟩
  · rw [exec_whileSending sending brings, State.modTlu, Tlu.busy_of_free kind free]
  · rw [exec_whileSending sending brings, State.modTlu, Tlu.busy_of_pending kind pending]
  · have asked : exec (.unknownCommandKind kind payload) s = .next (s.command kind fun s => .refuse s .badField) :=
      congrArg Host.Outcome.next (if_neg (by simp [bad]))
    exact exec_answered idle asked rfl
  · exact congrArg Host.Outcome.next (if_pos (Option.isSome_iff_ne_none.2 sending))
  · obtain ⟨init, rfl⟩ := List.getLast?_eq_some_iff.1 last
    show receiveBytes s.tlu.receiver (init ++ [b]) = .hunting
    rw [receiveBytes, List.foldl_append]
    exact receiveByte_noStopBit _ missing
  · subst only
    show (receiveByte s.tlu.receiver b).1 = .hunting
    rw [lead]
    exact receiveByte_tooLong long
  · subst only
    show (receiveByte s.tlu.receiver b).1 = .hunting
    rw [body]
    exact receiveByte_lastByte b kind hi payload

end Sys2Proof
end

section
/-! The terminal's command laid out in a frame, received and read back (R167, R169, R175 to R177). -/

namespace Sys2Proof.Machine

/-! ### The receiver (R167) -/

/-- A byte as it comes whole. -/
def wholeByte (v : ByteVal) : LinkByte := { value := v, stopBit := true }

/-- R167: short of the two check bytes a frame goes on. -/
theorem receiveByte_body {length kind v : Nat} {got : List ByteVal} (short : got.length ≤ length) :
    receiveByte (.inFrame (length :: kind :: got)) (wholeByte v) = (.inFrame (length :: kind :: (got ++ [v])), none) := by
  simp [receiveByte, wholeByte, short]

/-- R167 (c), R175: with the second check byte the frame arrives if its check holds. -/
theorem receiveByte_arrives {kind hi lo : Nat} {payload : List ByteVal}
    (holds : twoBytes (check (bytesBits (payload.length :: kind :: payload))).toNat = [hi, lo]) :
    receiveByte (.inFrame (payload.length :: kind :: (payload ++ [hi]))) (wholeByte lo) = (.hunting, some (kind, payload)) := by
  have covered : (payload ++ [hi, lo]).take payload.length = payload := List.take_left' rfl
  have checked : (payload ++ [hi, lo]).drop payload.length = [hi, lo] := List.drop_left' rfl
  simp only [receiveByte, wholeByte, List.cons_append, List.append_assoc, List.nil_append, covered, checked, holds]
  simp

/-- R167: the rest of a frame's payload and its check bring the frame. -/
theorem framesIn_body {kind : Nat} {payload : List ByteVal} (got rest : List ByteVal) (whole : got ++ rest = payload) :
    framesIn (.inFrame (payload.length :: kind :: got))
        ((rest ++ twoBytes (check (bytesBits (payload.length :: kind :: payload))).toNat).map wholeByte) =
      [(kind, payload)] := by
  induction rest generalizing got with
  | nil =>
    obtain rfl : got = payload := by simpa using whole
    simp only [List.nil_append, twoBytes, List.map_cons, List.map_nil, framesIn]
    rw [receiveByte_body (Nat.le_refl _)]
    simp only
    rw [receiveByte_arrives rfl]
  | cons v rest ih =>
    have short : got.length ≤ payload.length := by rw [← whole, List.length_append]; omega
    simp only [List.cons_append, List.map_cons, framesIn]
    rw [receiveByte_body short]
    exact ih (got ++ [v]) (by simpa using whole)

/-- R167, R177: a frame whose length byte is at most 250 arrives at a HUNTING receiver. -/
theorem framesIn_frameBytes (kind : Nat) {payload : List ByteVal} (short : payload.length ≤ 250) :
    framesIn .hunting ((frameBytes kind payload).map wholeByte) = [(kind, payload)] := by
  have lead : receiveByte .hunting (wholeByte 195) = (.inFrame [], none) := rfl
  have length : receiveByte (.inFrame []) (wholeByte payload.length) = (.inFrame [payload.length], none) := by
    simp [receiveByte, wholeByte, Nat.not_lt_of_le short]
  have named : receiveByte (.inFrame [payload.length]) (wholeByte kind) = (.inFrame [payload.length, kind], none) := by
    simp [receiveByte, wholeByte]
  simp only [frameBytes, List.cons_append, List.map_cons, framesIn, lead, length, named]
  exact framesIn_body [] payload rfl

/-! ### Records one after another (R138, R177) -/

theorem orderEntryBytes_fit {e : OrderEntry} (h : e.wellFormed = true) : BytesFit (orderEntryBytes e) := by
  simp only [OrderEntry.wellFormed, isByte, Bool.and_eq_true, decide_eq_true_eq] at h
  obtain ⟨⟨line, -⟩, mode⟩ := h
  exact .append (.cons line (.twoBytes _)) (.cons mode .nil)

theorem orderEntriesOf_flatMap {l : List OrderEntry} (h : ∀ e ∈ l, e.wellFormed = true) :
    orderEntriesOf (l.flatMap orderEntryBytes) = l := by
  induction l with
  | nil => rfl
  | cons e es ih =>
    obtain ⟨he, hes⟩ := List.forall_mem_cons.1 h
    simp only [OrderEntry.wellFormed, isTwoBytes, Bool.and_eq_true, decide_eq_true_eq] at he
    obtain ⟨⟨-, drops⟩, -⟩ := he
    simp only [List.flatMap_cons, orderEntryBytes, twoBytes, List.cons_append, List.nil_append, orderEntriesOf,
      twoBytes_value drops, ih hes]

theorem lineConstBytes_fit {c : LineConst} (h : c.wellFormed = true) : BytesFit (lineConstBytes c) := by
  simp only [LineConst.wellFormed, isByte, Bool.and_eq_true, decide_eq_true_eq] at h
  obtain ⟨⟨⟨size, share⟩, -⟩, settle⟩ := h
  exact .append (.cons size (.cons share (.twoBytes _))) (.cons settle .nil)

theorem lineConstsOf_flatMap {l : List LineConst} (h : ∀ c ∈ l, c.wellFormed = true) :
    lineConstsOf (l.flatMap lineConstBytes) = l := by
  induction l with
  | nil => rfl
  | cons c cs ih =>
    obtain ⟨hc, hcs⟩ := List.forall_mem_cons.1 h
    simp only [LineConst.wellFormed, isTwoBytes, Bool.and_eq_true, decide_eq_true_eq] at hc
    obtain ⟨⟨-, hold⟩, -⟩ := hc
    simp only [List.flatMap_cons, lineConstBytes, twoBytes, List.cons_append, List.nil_append, lineConstsOf,
      twoBytes_value hold, ih hcs]

theorem lineCalBytes_fit (c : LineCal) : BytesFit (lineCalBytes c) := .append (.twoBytes _) (.twoBytes _)

theorem lineCalsOf_flatMap {l : List LineCal} (h : ∀ c ∈ l, c.wellFormed = true) : lineCalsOf (l.flatMap lineCalBytes) = l := by
  induction l with
  | nil => rfl
  | cons c cs ih =>
    obtain ⟨hc, hcs⟩ := List.forall_mem_cons.1 h
    simp only [LineCal.wellFormed, isTwoBytes, Bool.and_eq_true, decide_eq_true_eq] at hc
    obtain ⟨width, period⟩ := hc
    simp only [List.flatMap_cons, lineCalBytes, twoBytes, List.cons_append, List.nil_append, lineCalsOf,
      twoBytes_value width, twoBytes_value period, ih hcs]

/-! ### The setup block (R177) -/

/-- R177: the bytes between the two lists of per-line sets: the bay constants behind the lines, and the station number. -/
def setupMiddle (b : SetupBlock) : List ByteVal :=
  [b.bay.mixersEquipped, b.bay.mixerMargin, b.bay.grace] ++ twoBytes b.bay.reserve ++ [b.bay.formationWindow, b.cal.station]

/-- R177: the bytes behind the per-line calibration. -/
def setupTail (c : Calibration) : List ByteVal :=
  twoBytes c.basePeriod ++ [c.fastDuty, c.slowDuty] ++ twoBytes c.slowBand ++ twoBytes c.baseTolerance ++ twoBytes c.baseLimit
    ++ twoBytes c.seatDelay ++ twoBytes c.pressWidth ++ twoBytes c.transferPulse ++ twoBytes c.transferLimit

/-- R177: the five parts of a setup block. -/
theorem setupBytes_parts (b : SetupBlock) :
    setupBytes b = [b.bay.linesEquipped] ++ (b.bay.lines.flatMap lineConstBytes ++ (setupMiddle b
      ++ (b.cal.lines.flatMap lineCalBytes ++ setupTail b.cal))) := by
  simp [setupBytes, setupMiddle, setupTail]

/-- A part of known length that stands at a place is followed by the rest. -/
theorem drop_past {bytes part rest : List ByteVal} {start size : Nat} (at_start : bytes.drop start = part ++ rest)
    (length : part.length = size) : bytes.drop (start + size) = rest := by
  rw [← List.drop_drop, at_start, List.drop_left' length]

section
variable {b : SetupBlock} (sixteen : b.bay.lines.length = 16) (sixteenCal : b.cal.lines.length = 16)
include sixteen sixteenCal

theorem length_setupBytes : (setupBytes b).length = 170 := by
  simp [setupBytes, twoBytes, length_flatMap_const lineConstBytes 5 (fun _ => rfl), sixteen,
    length_flatMap_const lineCalBytes 4 (fun _ => rfl), sixteenCal]

/-- R177: where the parts stand among the 170 bytes. -/
theorem setupBytes_split :
    (setupBytes b).take 1 = [b.bay.linesEquipped] ∧ ((setupBytes b).drop 1).take 80 = b.bay.lines.flatMap lineConstBytes
      ∧ ((setupBytes b).drop 81).take 7 = setupMiddle b ∧ ((setupBytes b).drop 88).take 64 = b.cal.lines.flatMap lineCalBytes
      ∧ (setupBytes b).drop 152 = setupTail b.cal := by
  have consts : (b.bay.lines.flatMap lineConstBytes).length = 80 := by
    rw [length_flatMap_const lineConstBytes 5 (fun _ => rfl), sixteen]
  have cals : (b.cal.lines.flatMap lineCalBytes).length = 64 := by
    rw [length_flatMap_const lineCalBytes 4 (fun _ => rfl), sixteenCal]
  have equipped : [b.bay.linesEquipped].length = 1 := rfl
  have middle : (setupMiddle b).length = 7 := rfl
  have from1 : (setupBytes b).drop 1 = _ := (congrArg (List.drop 1) (setupBytes_parts b)).trans (List.drop_left' equipped)
  have from81 : (setupBytes b).drop 81 = _ := drop_past (start := 1) (size := 80) from1 consts
  have from88 : (setupBytes b).drop 88 = _ := drop_past (start := 81) (size := 7) from81 middle
  have from152 : (setupBytes b).drop 152 = _ := drop_past (start := 88) (size := 64) from88 cals
  refine ⟨?_, ?_, ?_, ?_, from152⟩
  · rw [setupBytes_parts, List.take_left' equipped]
  · rw [from1, List.take_left' consts]
  · rw [from81, List.take_left' middle]
  · rw [from88, List.take_left' cals]

end

theorem setupBytes_fit {b : SetupBlock} (bay : b.bay.wellFormed = true) (cal : b.cal.wellFormed = true) :
    BytesFit (setupBytes b) := by
  simp only [BayConst.wellFormed, isByte, Bool.and_eq_true, decide_eq_true_eq, List.all_eq_true] at bay
  simp only [Calibration.wellFormed, isByte, Bool.and_eq_true, decide_eq_true_eq] at cal
  obtain ⟨⟨⟨⟨⟨⟨⟨equipped, -⟩, lines⟩, mixers⟩, margin⟩, grace⟩, -⟩, window⟩ := bay
  obtain ⟨⟨⟨⟨⟨⟨⟨⟨⟨⟨⟨⟨station, -⟩, -⟩, -⟩, fast⟩, slow⟩, -⟩, -⟩, -⟩, -⟩, -⟩, -⟩, -⟩ := cal
  have middle : BytesFit (setupMiddle b) :=
    .append (.append (.cons mixers (.cons margin (.cons grace .nil))) (.twoBytes _)) (.cons window (.cons station .nil))
  have duties : BytesFit [b.cal.fastDuty, b.cal.slowDuty] := .cons fast (.cons slow .nil)
  have tail : BytesFit (setupTail b.cal) :=
    ((((((((BytesFit.twoBytes _).append duties).append (.twoBytes _)).append (.twoBytes _)).append (.twoBytes _)).append
      (.twoBytes _)).append (.twoBytes _)).append (.twoBytes _)).append (.twoBytes _)
  rw [setupBytes_parts]
  exact .append (.cons equipped .nil) (.append (.flatMap fun c hc => lineConstBytes_fit (lines c hc))
    (.append middle (.append (.flatMap fun c _ => lineCalBytes_fit c) tail)))

/-- R177: a well-formed setup block reads back from its bytes. -/
theorem setupOf_setupBytes {b : SetupBlock} (bay : b.bay.wellFormed = true) (cal : b.cal.wellFormed = true) :
    setupOf (setupBytes b) = some b := by
  simp only [BayConst.wellFormed, isTwoBytes, Bool.and_eq_true, decide_eq_true_eq, beq_iff_eq, List.all_eq_true] at bay
  simp only [Calibration.wellFormed, isTwoBytes, Bool.and_eq_true, decide_eq_true_eq, beq_iff_eq, List.all_eq_true] at cal
  obtain ⟨⟨⟨⟨⟨⟨⟨-, sixteen⟩, lines⟩, -⟩, -⟩, -⟩, reserve⟩, -⟩ := bay
  obtain ⟨⟨⟨⟨⟨⟨⟨⟨⟨⟨⟨⟨-, sixteenCal⟩, cals⟩, base⟩, -⟩, -⟩, band⟩, tolerance⟩, limit⟩, seat⟩, press⟩, pulse⟩, transfer⟩ := cal
  obtain ⟨first, consts, middle, calBytes, tail⟩ := setupBytes_split sixteen sixteenCal
  unfold setupOf
  rw [first, consts, middle, calBytes, tail, lineConstsOf_flatMap lines, lineCalsOf_flatMap cals]
  simp only [setupMiddle, setupTail, twoBytes, List.cons_append, List.nil_append, twoBytes_value reserve, twoBytes_value base,
    twoBytes_value band, twoBytes_value tolerance, twoBytes_value limit, twoBytes_value seat, twoBytes_value press,
    twoBytes_value pulse, twoBytes_value transfer]

/-- R169, R177: a SETUP's payload is its block. -/
theorem commandOf_setup (bytes : List ByteVal) : commandOf 1 bytes = (setupOf bytes).map .setup := rfl

/-! ### The order's fields (R138, R177) -/

theorem orderBytes_fit {f : OrderFields} (h : f.wellFormed = true) : BytesFit (orderBytes f) := by
  simp only [OrderFields.wellFormed, isByte, Bool.and_eq_true, decide_eq_true_eq, List.all_eq_true] at h
  obtain ⟨⟨⟨⟨⟨⟨⟨⟨-, size⟩, -⟩, priority⟩, rush⟩, lid⟩, -⟩, entries⟩, count⟩ := h
  have codes : BytesFit [f.priority, f.rush, f.lid] := .cons priority (.cons rush (.cons lid .nil))
  have items : BytesFit (f.entries.length :: f.entries.flatMap orderEntryBytes) :=
    .cons (by omega) (.flatMap fun e he => orderEntryBytes_fit (entries e he))
  exact (((BytesFit.twoBytes _).append (.cons size (.twoBytes _)) |>.append codes).append (.twoBytes _)).append items

theorem length_orderBytes (f : OrderFields) : (orderBytes f).length = 11 + 4 * f.entries.length := by
  simp [orderBytes, twoBytes, length_flatMap_const orderEntryBytes 4 (fun _ => rfl)]
  omega

/-- R169, R177: an ORDER's payload by its first eleven bytes. -/
theorem commandOf_order (t1 t0 size b1 b0 priority rush lid m1 m0 count : Nat) (entries : List ByteVal) :
    commandOf 4 (t1 :: t0 :: size :: b1 :: b0 :: priority :: rush :: lid :: m1 :: m0 :: count :: entries) =
      some (.order { tag := t1 * 256 + t0, size := size, base := b1 * 256 + b0, priority := priority, rush := rush, lid := lid,
                     mixTime := m1 * 256 + m0, entries := orderEntriesOf entries }) := rfl

/-- R177: a well-formed ORDER reads back from its bytes. -/
theorem commandOf_orderBytes {f : OrderFields} (h : f.wellFormed = true) : commandOf 4 (orderBytes f) = some (.order f) := by
  simp only [OrderFields.wellFormed, isTwoBytes, Bool.and_eq_true, decide_eq_true_eq, List.all_eq_true] at h
  obtain ⟨⟨⟨⟨⟨⟨⟨⟨tag, -⟩, base⟩, -⟩, -⟩, -⟩, mix⟩, entries⟩, -⟩ := h
  simp only [orderBytes, twoBytes, List.cons_append, List.nil_append]
  rw [commandOf_order, twoBytes_value tag, twoBytes_value base, twoBytes_value mix, orderEntriesOf_flatMap entries]

/-! ### The command -/

/-- R176: every payload byte of a well-formed command is a byte. -/
theorem commandPayload_fit {c : Instr} (h : c.wellFormed = true) : BytesFit (commandPayload c) := by
  cases c with
  | setup block =>
    obtain ⟨bay, cal⟩ := (Bool.and_eq_true _ _).mp h
    exact setupBytes_fit bay cal
  | order f => exact orderBytes_fit h
  | cancel | queryOrder => exact .twoBytes _
  | priority tag level =>
    obtain ⟨-, fits⟩ := (Bool.and_eq_true _ _).mp h
    exact .append (.twoBytes _) (.cons (of_decide_eq_true fits) .nil)
  | refill line level | lineReturn line level =>
    obtain ⟨fits, -⟩ := (Bool.and_eq_true _ _).mp h
    exact .cons (of_decide_eq_true fits) (.threeBytes _)
  | lineOut | mixerReturn | queryLine => exact .cons (of_decide_eq_true h) .nil
  | _ => exact .nil

/-- R167, R169: the payload of a well-formed command is as long as its kind asks, and no longer than a frame may carry. -/
theorem commandPayload_length {c : Instr} (h : c.wellFormed = true) (named : commandKind c ≠ 0) :
    commandLengthOk (commandKind c) (commandPayload c) = true ∧ (commandPayload c).length ≤ 250 := by
  cases c with
  | setup block =>
    obtain ⟨bay, cal⟩ := (Bool.and_eq_true _ _).mp h
    simp only [BayConst.wellFormed, Bool.and_eq_true, beq_iff_eq] at bay
    simp only [Calibration.wellFormed, Bool.and_eq_true, beq_iff_eq] at cal
    obtain ⟨⟨⟨⟨⟨⟨⟨-, sixteen⟩, -⟩, -⟩, -⟩, -⟩, -⟩, -⟩ := bay
    obtain ⟨⟨⟨⟨⟨⟨⟨⟨⟨⟨⟨⟨-, sixteenCal⟩, -⟩, -⟩, -⟩, -⟩, -⟩, -⟩, -⟩, -⟩, -⟩, -⟩, -⟩ := cal
    have size := length_setupBytes sixteen sixteenCal
    exact ⟨beq_iff_eq.2 size, size.trans_le (by decide)⟩
  | order f =>
    have count : f.entries.length ≤ 59 := of_decide_eq_true ((Bool.and_eq_true _ _).mp h).2
    have size := length_orderBytes f
    exact ⟨beq_iff_eq.2 size, size.trans_le (by omega)⟩
  | start | leave | cancel | priority | refill | lineReturn | lineOut | mixerReturn | queryStation | queryOrder | queryLine
  | queryMixers | readTicket => exact ⟨rfl, by simp [commandPayload, twoBytes, threeBytes]⟩
  | _ => exact absurd rfl named

/-- R169, R177: a well-formed command reads back from its kind and payload. -/
theorem commandOf_commandPayload {c : Instr} (h : c.wellFormed = true) (named : commandKind c ≠ 0) :
    commandOf (commandKind c) (commandPayload c) = some c := by
  cases c with
  | setup block =>
    obtain ⟨bay, cal⟩ := (Bool.and_eq_true _ _).mp h
    exact (commandOf_setup _).trans (congrArg (Option.map Instr.setup) (setupOf_setupBytes bay cal))
  | order f => exact commandOf_orderBytes h
  | start | leave | lineOut | mixerReturn | queryStation | queryLine | queryMixers | readTicket => rfl
  | cancel tag | queryOrder tag =>
    simp only [commandKind, commandPayload, twoBytes, commandOf, twoBytes_value (of_decide_eq_true h)]
  | priority tag level =>
    obtain ⟨fits, -⟩ := (Bool.and_eq_true _ _).mp h
    simp only [commandKind, commandPayload, twoBytes, List.cons_append, List.nil_append, commandOf,
      twoBytes_value (of_decide_eq_true fits)]
  | refill line level | lineReturn line level =>
    obtain ⟨-, fits⟩ := (Bool.and_eq_true _ _).mp h
    simp only [commandKind, commandPayload, threeBytes, commandOf, threeBytes_value (of_decide_eq_true fits)]
  | _ => exact absurd rfl named

end Sys2Proof.Machine

namespace Sys2Proof

open Machine

/-- Settles O60: the payload reads back field by field, and a payload of at most 250 bytes arrives byte by byte. -/
theorem commandsReadBackFromTheirFrames : Obligations.CommandsReadBackFromTheirFrames := by
  intro c h named
  obtain ⟨ok, short⟩ := commandPayload_length h named
  exact ⟨commandOf_commandPayload h named, ok, commandPayload_fit h, short, framesIn_frameBytes (commandKind c) short⟩

end Sys2Proof
end

section
/-! The step and the queue of commands (7.06): the command in front is run on the state with the queue's rest, and no command stops
the controller or touches that rest. -/

namespace Sys2Proof.Machine

/-- A step takes the front command off the queue before running it. -/
theorem step_front (c : Instr) (rest : List Instr) (s : State) :
    step { s with pending := c :: rest } = exec c { s with pending := rest } := rfl

end Sys2Proof.Machine

namespace Sys2Proof

open Machine

/-- Settles O1: the rest of the queue is the queue of `s`, so the state that the command is run on is `s`. -/
theorem stepRunsFrontCommand : Obligations.StepRunsFrontCommand :=
  fun c s => step_front c s.pending s

/-- Settles O2, by `exec_pending`: a command outside the bay leaves the queue by its frame, and so does a command of the bay other
than the reset and SETUP; the reset puts the queue back as it was, and SETUP answers with it untouched. -/
theorem everyCommandAnswersNextAndLeavesQueue : Obligations.EveryCommandAnswersNextAndLeavesQueue :=
  exec_pending

end Sys2Proof
end
